-- ==== Sys2Proof/Word.lean ====
section
/-! DEFINITION. The value types of the 6024: bytes, strings of character codes, and the enumerations of
spec/11_frame_and_record_layouts.md, section 11.1, each with its constructors in code order. -/

namespace Sys2Proof

/-- A byte of a frame, a page or a block. -/
abbrev Byte := BitVec 8

/-- A digit string or a station string: its character codes in order (section 11.1). -/
abbrev Str := List Nat

inductive Resolution | standard | fine | superfine
deriving DecidableEq, Repr

inductive Width | a4 | b4 | a3
deriving DecidableEq, Repr

inductive ModemVerdict | good | marginal | bad
deriving DecidableEq, Repr

inductive Verdict | good | marginal | damaged
deriving DecidableEq, Repr

inductive Confirm | accepted | resend
deriving DecidableEq, Repr

inductive DocClass | routine | urgent
deriving DecidableEq, Repr

inductive DocState | receiving | queued | delivering | held | retained
deriving DecidableEq, Repr

inductive HoldReason | management | deliveryFailed | quarantine
deriving DecidableEq, Repr

inductive ScreenResult | none | accept | quarantine | redirect
deriving DecidableEq, Repr

inductive ScreenAction | accept | refuse | quarantine | redirect
deriving DecidableEq, Repr

inductive MatchKind | caller | station
deriving DecidableEq, Repr

inductive JournalOutcome | received | receivedIncomplete | refused
deriving DecidableEq, Repr

/-- Refusal causes, drop causes and close causes share one enumeration (section 11.1). -/
inductive Cause
  | normal | lineLost | farEndAbort | protocol | released
  | channelDisabled | intakeClosed | draining | numbersExhausted | journalFull
  | storeCritical | noDocumentSlot | screened | noRoute | storeTight
  | mailboxClosed | mailboxFull
  | pageLimit | pagePoolEmpty | storeFull | pageEmpty | timeout | engineClosed
  | noRelease | linkLost
deriving DecidableEq, Repr

/-- The five causes a CALL_CLOSE frame may carry (R46, R196). -/
inductive ShelfCause | normal | lineLost | farEndAbort | protocol | released
deriving DecidableEq, Repr

inductive ChannelState | idle | answered | receivingPage | betweenPages | releasing
deriving DecidableEq, Repr

inductive LaneState | idle | offering | sending | waitingIntake | waitingAck | withdrawing
deriving DecidableEq, Repr

inductive PointState | offline | ready | stalled
deriving DecidableEq, Repr

inductive SuspendReason
  | acceptTimeout | ackTimeout | intakeUnavailable | pageRejected | pointDown | officeLinkDown | declined
deriving DecidableEq, Repr

inductive ReturnReason | tooSmall | overLimit | duplicate
deriving DecidableEq, Repr

inductive IntakeState | closed | opened | draining
deriving DecidableEq, Repr

inductive RunState | stopped | running
deriving DecidableEq, Repr

inductive Level | normal | tight | critical
deriving DecidableEq, Repr

inductive LinkState | down | up
deriving DecidableEq, Repr

inductive TableId | routing | screening | mailbox | point
deriving DecidableEq, Repr

/-- The validation reasons of a COMMIT (R167 to R169). -/
inductive CommitReason
  | duplicateKey | badField | mailboxUndefined | pointUndefined | mailboxInUse | pointInUse | pointManagerLost
deriving DecidableEq, Repr

inductive Result
  | ok | busy | notPermitted | unknownRequest | badArgument | range | wrongState | notReady | inUse | tableInvalid
deriving DecidableEq, Repr

inductive ResetCause | powerOn | pin | restart
deriving DecidableEq, Repr

inductive ReportMode | streaming | summary
deriving DecidableEq, Repr

/-- The fifteen notice kinds, in the order of the notice table of section 10.7. -/
inductive NoticeKind
  | callRefused | callDropped | docQueued | docQuarantined | docDelivered | deliverySuspended | docHeld
  | pageDamaged | pressureChanged | journalLow | lineLinkChanged | channelUnresponsive | pointChanged
  | intakeChanged | restarted
deriving DecidableEq, Repr

/-- The blocks that raise notice occurrences (section 10.7, column "Raised by"). -/
inductive Source
  | callController | documentTable | mailboxUnit | deliveryUnit | pageStore | pressureMonitor
  | journal | linePort | management
deriving DecidableEq, Repr

/-- The counts that CLEAR_FLAGS may name (R189). -/
inductive CountName | unrecordedRefusals | lineFrameErrors | officeFrameErrors | droppedRequests
deriving DecidableEq, Repr

/-- The request kinds, codes 64 to 94 in this order (section 11.3). -/
inductive ReqKind
  | readStatus | readFlags | clearFlags | setParameters | readParameters | setClock | setReceiptBase
  | ackRestart | restart | intake | delivery | channelControl | stageClear | stagePut | stageRemove
  | stageRevert | stageRead | tableRead | commit | mailboxControl | mailboxRead | pointRead | docList
  | docRead | docPages | docHold | docRelease | docReroute | docPurge | journalRead | journalRelease
deriving DecidableEq, Repr

/-- One of two buffers: A and B of a channel, 0 and 1 of a lane. -/
inductive BufId | first | second
deriving DecidableEq, Repr

/-- Time-of-day: seconds and milliseconds (R184). -/
structure TimeOfDay where
  secs : Nat
  ms : Nat
deriving DecidableEq, Repr

/-- A routing-table entry (section 9.1); `stem` is the prefix. -/
structure RouteEntry where
  stem : Str
  mailbox : Nat
  cls : DocClass
  hours : Nat
  shed : Bool
deriving DecidableEq, Repr

/-- A screening-table entry (section 9.1). -/
structure ScreenEntry where
  kind : MatchKind
  str : Str
  action : ScreenAction
  target : Option Nat
deriving DecidableEq, Repr

/-- A mailbox-table row in use (section 9.1). -/
structure MailRow where
  primary : Nat
  alternate : Option Nat
  quota : Nat
  overflow : Option Nat
deriving DecidableEq, Repr

/-- A point-table row in use (section 9.1); the three times are in seconds. -/
structure PointRow where
  manage : Bool
  accept : Nat
  ack : Nat
  wait : Nat
  maxSlots : Nat
deriving DecidableEq, Repr

/-- A point row as STAGE_PUT carries it: a field may be left unstated (R162). -/
structure PointPut where
  manage : Option Bool
  accept : Option Nat
  ack : Option Nat
  wait : Option Nat
  maxSlots : Option Nat
deriving DecidableEq, Repr

/-- The entries a STAGE_PUT carries, of one table's kind (R162). -/
inductive StageEntries
  | routing (l : List RouteEntry)
  | screening (l : List ScreenEntry)
  | mailbox (l : List (Nat × MailRow))
  | point (l : List (Nat × PointPut))
deriving DecidableEq, Repr

/-- The keys a STAGE_REMOVE carries, of one table's kind (R163). -/
inductive StageKeys
  | routing (l : List Str)
  | screening (l : List (MatchKind × Str))
  | mailbox (l : List Nat)
  | point (l : List Nat)
deriving DecidableEq, Repr

/-- The values a SET_PARAMETERS carries, in the order of section 11.3, as numbers; `mode` is the
reporting-mode code and `masks` the 2-byte mask field. -/
structure ParamFields where
  silence : Nat
  tight : Nat
  critical : Nat
  hysteresis : Nat
  enterDebounce : Nat
  exitDebounce : Nat
  lowMark : Nat
  mode : Nat
  masks : BitVec 16
deriving DecidableEq, Repr

/-- What a request frame carries besides its fields: the source point, the tag, and whether its payload
has the length and the enumeration codes its kind asks for (R197, last sentence); and whether it arrived together
with the request that the Management Unit took just before it (R176, last sentence; log 39). -/
structure ReqHead where
  src : Nat
  tag : Nat
  formed : Bool
  together : Bool
deriving DecidableEq, Repr

/-- What a JOURNAL_RELEASE carries: its number n, and how many of the newest entries of the log were written by writes
that arrived together with it and were taken before it (R98; log 36). -/
structure Release where
  count : Nat
  beside : Nat
deriving DecidableEq, Repr

/-- The acts of an answer decision in their order: steps 1 to 6 of R53, the resolution of steps 7 to 10
(R58), and the answering step (R67). -/
inductive DecisionAct | enabled | intake | numbers | reserve | pressure | claim | resolve | answer
deriving DecidableEq, Repr

/-- How far a command carries an answer decision: to its end, or up to the point just before an act
(R53: other events may come between two checks; log 4). -/
inductive DecisionStop | done | before (act : DecisionAct)
deriving DecidableEq, Repr

/-- What a CALL_OPEN command is: the frame taken on the channel, or the next stretch of the decision that
the frame started (log 4). -/
inductive CallOpenPart
  | frame (called : Str) (caller : Option Str) (stop : DecisionStop)
  | onward (stop : DecisionStop)
deriving DecidableEq, Repr

/-- To whom the Office Port owes a discarded report: a lane, or the Management Unit (R120). -/
inductive Reportee | lane (i : Nat) | management
deriving DecidableEq, Repr

end Sys2Proof
end

