-- ==== Sys2Proof/Syntax.lean ====
section
/-! DEFINITION. The commands of the 6024: one constructor for each row of spec/opcode_table.json, with the
row's operands. A frame carries its fields, a request its head and its fields, a timer event names its timer.
Numbers a frame or a request carries are plain numbers, so that a value out of range can be written. -/

namespace Sys2Proof

inductive Instr
  -- line frames and the line port
  | callOpen (ch : Nat) (part : CallOpenPart)
  | senderInfo (ch : Nat) (ident : Str)
  | pageStart (ch page : Nat) (res : Resolution) (width : Width)
  | pageData (ch seq : Nat) (payload : List Byte)
  | pageEnd (ch lines errs : Nat) (verdict : ModemVerdict)
  | callClose (ch : Nat) (cause : ShelfCause)
  | linkAlive
  | badLineFrame
  | lineSilenceExpiry
  -- events of one channel
  | channelLinkLoss (ch : Nat)
  | channelSilenceExpiry (ch : Nat)
  | releaseTimerExpiry (ch : Nat)
  | channelIntakeAbort (ch : Nat)
  -- the memory port; `decay` lists cells (offset, byte) of the block that no longer hold what was written
  | writeCompletion
  | readCompletion (decay : List (Nat × Byte))
  -- delivery frames
  | pointUp (p : Nat)
  | pointDown (p : Nat)
  | accept (p receipt : Nat)
  | decline (p receipt retry : Nat)
  | intakePost (p slot cap : Nat)
  | pageAck (p slot : Nat)
  | pageNak (p slot : Nat)
  -- the office port; `crcOk` tells a frame with a correct CRC-32 that fails the checks of its kind
  | officeLinkAlive
  | badOfficeFrame (crcOk : Bool)
  | foreignOfficeFrame
  | officeSilenceExpiry
  | officeKeepaliveSend
  | frameSentReport
  | frameDiscardedReport (dest : Reportee)
  | officeLinkStateReport
  -- timers of lanes and documents, the arbiter, withdrawals
  | acceptTimerExpiry (i : Nat)
  | ackTimerExpiry (i : Nat) (buf : BufId)
  | intakeWaitExpiry (i : Nat)
  | retentionExpiry (receipt : Nat)
  | notBeforeReached (m : Nat)
  | arbiterRound
  | withdrawalRequest
  -- events one block raises for another
  | pressureReleaseRequest
  | pressureParameterChange
  | lowMarkInstall
  | silenceTimeoutInstall
  | countClear (name : CountName)
  | allIdleReport
  | noticeOccurrence (src : Source)
  | commitCompletion
  | mailboxSwapEffects
  | pointSwapEffects
  -- resets
  | powerOnReset
  | pinResetAssert
  | pinResetRelease
  -- management requests
  | unknownRequest (h : ReqHead) (kind : Nat)
  | readStatus (h : ReqHead)
  | readFlags (h : ReqHead)
  | clearFlags (h : ReqHead) (names : List Nat)
  | setParameters (h : ReqHead) (p : ParamFields)
  | readParameters (h : ReqHead)
  | setClock (h : ReqHead) (secs ms : Nat)
  | setReceiptBase (h : ReqHead) (base : Nat)
  | ackRestart (h : ReqHead)
  | restart (h : ReqHead)
  | intakeOpen (h : ReqHead)
  | intakeDrain (h : ReqHead)
  | intakeAbort (h : ReqHead)
  | deliveryRun (h : ReqHead)
  | deliveryStop (h : ReqHead)
  | channelRead (h : ReqHead) (ch : Nat)
  | channelEnable (h : ReqHead) (ch : Nat)
  | channelDisable (h : ReqHead) (ch : Nat)
  | channelClearErrors (h : ReqHead) (ch : Nat)
  | stageClear (h : ReqHead) (t : TableId)
  | stagePut (h : ReqHead) (entries : StageEntries)
  | stageRemove (h : ReqHead) (keys : StageKeys)
  | stageRevert (h : ReqHead) (t : TableId)
  | stageRead (h : ReqHead) (t : TableId) (index count : Nat)
  | tableRead (h : ReqHead) (t : TableId) (index count : Nat)
  | commit (h : ReqHead) (t : TableId)
  | mailboxControlRead (h : ReqHead) (m : Nat)
  | mailboxOpen (h : ReqHead) (m : Nat)
  | mailboxClose (h : ReqHead) (m : Nat)
  | mailboxResume (h : ReqHead) (m : Nat)
  | mailboxPause (h : ReqHead) (m : Nat)
  | mailboxRead (h : ReqHead) (m pos count : Nat)
  | pointRead (h : ReqHead) (p clear : Nat)
  | docList (h : ReqHead) (start count : Nat)
  | docRead (h : ReqHead) (receipt : Nat)
  | docPages (h : ReqHead) (receipt page count : Nat)
  | docHold (h : ReqHead) (receipt : Nat)
  | docRelease (h : ReqHead) (receipt : Nat)
  | docReroute (h : ReqHead) (receipt target : Nat)
  | docPurge (h : ReqHead) (receipt : Nat)
  | journalRead (h : ReqHead) (offset count : Nat)
  | journalRelease (h : ReqHead) (n : Release)
  -- the line port's sending, and the stop of the clock
  | lineFrameSent
  | timeOfDayLimit
deriving DecidableEq, Repr

end Sys2Proof
end

