-- ==== Sys2Proof/Decode.lean ====
section
/-! DEFINITION. The command a word spells by the bits of spec/opcode_table.json. The table gives no row any
bits (every row's list of fields is empty and none has fixed bits), so no word spells a command. The byte
layouts of spec/11_frame_and_record_layouts.md are read by Sys2Proof/Machine/Frames.lean. -/

namespace Sys2Proof

def decodeTableWord (_nbits _w : Nat) : Option Instr := none

end Sys2Proof
end

