-- ==== Sys2Proof/Config.lean ====
section
/-! DEFINITION. The fixed sizes, limits and times of the 6024, each with the rule of spec/ that gives it.
The manual leaves no result of any command to be a free value, so nothing here is opaque. -/

namespace Sys2Proof.Config

/-- R1: blocks of the page store. -/
def blockCount : Nat := 16384
/-- R1: bytes of a block, and of an assembly buffer. -/
def blockBytes : Nat := 4096
/-- R8: page records. -/
def recordCount : Nat := 8192
/-- R13: document slots. -/
def slotCount : Nat := 1024
/-- R8: pages of a document. -/
def pageLimit : Nat := 1000
/-- R39: bytes of a page. -/
def pageBytes : Nat := 1048576
/-- 2.1: payload bytes of a line PAGE_DATA frame. -/
def payloadBytes : Nat := 1024
/-- R31: channels of the line link. -/
def channelCount : Nat := 24
/-- 6: department mailboxes. -/
def mailboxCount : Nat := 64
/-- 6: the quarantine mailbox. -/
def quarantine : Nat := 64
/-- 7.2: delivery points, addressed from 1. -/
def pointCount : Nat := 30
/-- Conventions: the management station's point address. -/
def station : Nat := 31
/-- 7.4: lanes. -/
def laneCount : Nat := 4
/-- R87: entries of the journal. -/
def journalRoom : Nat := 2048
/-- R160: routing entries. -/
def routeLimit : Nat := 512
/-- R160: screening entries. -/
def screenLimit : Nat := 128
/-- R190: notices of the notice queue. -/
def noticeLimit : Nat := 32
/-- R178: immediate replies in the reply list. -/
def immediateLimit : Nat := 7
/-- R120: SLOT_RETURN frames of point contexts that may wait. -/
def returnLimit : Nat := 32
/-- R126: TOO_SMALL returns a lane keeps produced and not handed. -/
def tooSmallLimit : Nat := 16
/-- R14: the largest receipt number; also the largest generation (R160). -/
def max32 : Nat := 4294967295
/-- R28, R32, R89, R118, R124, R178: the stop of the 16-bit counts. -/
def max16 : Nat := 65535
/-- R122: the stop of the 8-bit counts. -/
def max8 : Nat := 255
/-- R184: the stop of uptime, in milliseconds. -/
def uptimeMax : Nat := 281474976710655
/-- R184: the stop of time-of-day, in milliseconds. -/
def todMax : Nat := 4294967295 * 1000 + 999
/-- R27, R117: the silence time of both links, in milliseconds. -/
def linkSilence : Nat := 3000
/-- R47: the release timer of a channel, in milliseconds. -/
def releaseTime : Nat := 3000
/-- R117: the second after which the Office Port sends its own LINK_ALIVE, in milliseconds. -/
def keepalive : Nat := 1000
/-- R18: milliseconds of an hour of retention. -/
def hourMs : Nat := 3600000
/-- R149: the attempt at which a document is held. -/
def attemptLimit : Nat := 8
/-- R146: the send of a page whose refusal suspends the delivery. -/
def sendLimit : Nat := 3

/-- R149: the back-off in seconds for an attempts count of 1 to 7. -/
def backoff (attempts : Nat) : Nat :=
  match attempts with
  | 1 => 15
  | 2 => 30
  | 3 => 60
  | 4 => 120
  | 5 => 240
  | _ => 480

end Sys2Proof.Config
end

