-- ==== Sys2Proof/Machine/State.lean ====
section
/-! DEFINITION. The state of the 6024 as plain data: one record for each block of spec/00_scope.md with what
that block owns, the events raised and not yet taken, the reset input, and the queue of commands. Timers are
deadlines in uptime (log 3). Collections that are sparse in the manual (records, slots, table rows) are lists
of key and value, keys strictly rising. -/

namespace Sys2Proof.Machine

open Sys2Proof.Config

/-! ### Page Store (chapter 1) -/

/-- R1: what a block carries besides its bytes. -/
structure Block where
  used : Nat
  check : BitVec 16
deriving DecidableEq, Repr

/-- R11: what finalization sets on a page record. -/
structure Finish where
  lines : Nat
  errs : Nat
  verdict : Verdict
deriving DecidableEq, Repr

/-- The table of 1.3: a page record in use. `slot` is the owning document slot. -/
structure PageRecord where
  slot : Nat
  number : Nat
  blocks : List Nat
  length : Nat
  res : Resolution
  width : Width
  finish : Option Finish
  resends : Nat
  sends : Nat
deriving DecidableEq, Repr

/-- R4: an operation of the memory port. A write names its channel and buffer, a read its lane, the page
record and block position it asked for (R6), and the receipt number of the document the lane served (R152). -/
inductive PortOp
  | write (ch : Nat) (buf : BufId) (record block : Nat)
  | read (lane record pos block receipt : Nat)
deriving DecidableEq, Repr

structure PageStore where
  mem : List Host.Cell
  blocks : List (Nat × Block)
  free : List Nat
  records : List (Nat × PageRecord)
  port : List PortOp
deriving DecidableEq, Repr

/-! ### Line Port and Call Controller (chapters 2 and 3) -/

inductive LineBody
  | answer (receipt : Nat)
  | refuse (cause : Cause)
  | drop (cause : Cause)
  | confirm (c : Confirm)
deriving DecidableEq, Repr

/-- A frame of the 6024 on the line link (section 2.1). -/
structure LineFrame where
  channel : Nat
  body : LineBody
deriving DecidableEq, Repr

/-- R27, R28, R30. `output` is the frame last put on the link (log 16). -/
structure LinePort where
  link : LinkState
  silence : Option Nat
  errors : Nat
  queue : List LineFrame
  output : Option LineFrame
deriving DecidableEq, Repr

/-- An assembly buffer (section 2.2). -/
inductive Buffer
  | empty
  | filling (bytes : List Byte)
  | writing (bytes : List Byte)
deriving DecidableEq, Repr

/-- R42: the fields of a PAGE_END kept for finalization. -/
structure PageEnd where
  lines : Nat
  errs : Nat
  verdict : ModemVerdict
deriving DecidableEq, Repr

/-- R58: what a resolution hands back when it places the call. -/
structure Placement where
  routed : Nat
  final : Nat
  cls : DocClass
  hours : Nat
  routeGen : Nat
  screening : ScreenResult
deriving DecidableEq, Repr

/-- R53: the state a decision has built up. `next` is the act it makes next. -/
structure Decision where
  called : Str
  caller : Option Str
  openTime : TimeOfDay
  next : DecisionAct
  reserved : Bool
  claim : Option Nat
  placement : Option Placement
deriving DecidableEq, Repr

/-- The table of 2.2, the decision under way (R53), and the events that have reached the channel and wait
to be taken: a loss of the line link (R50) and aborts (R51). -/
structure Channel where
  state : ChannelState
  enabled : Bool
  doc : Option Nat
  resends : Nat
  page : Option Nat
  ended : Option PageEnd
  mark : Bool
  expected : Nat
  received : Nat
  bufA : Buffer
  bufB : Buffer
  discards : List Nat
  drop : Option Cause
  silence : Option Nat
  release : Option Nat
  errors : Nat
  decision : Option Decision
  loss : Bool
  aborts : Nat
deriving DecidableEq, Repr

/-- R31: a channel context after any reset. -/
def Channel.initial : Channel :=
  { state := .idle, enabled := true, doc := none, resends := 0, page := none, ended := none, mark := false,
    expected := 0, received := 0, bufA := .empty, bufB := .empty, discards := [], drop := none,
    silence := none, release := none, errors := 0, decision := none, loss := false, aborts := 0 }

/-- The 24 contexts, and the channel silence timeout in force, in seconds (R183). -/
structure CallController where
  channels : List Channel
  silenceTimeout : Nat
deriving DecidableEq, Repr

/-! ### Pressure Monitor (chapter 4) -/

structure PressureParams where
  tight : Nat
  critical : Nat
  hysteresis : Nat
  enterDebounce : Nat
  exitDebounce : Nat
deriving DecidableEq, Repr

structure Pressure where
  level : Level
  enter : Nat
  exit : Nat
  params : PressureParams
deriving DecidableEq, Repr

/-! ### Document Table (chapter 1) -/

/-- The table of 1.4: a document record in use; `pages` lists its page records, pages 1 to n. -/
structure Doc where
  receipt : Nat
  state : DocState
  channel : Option Nat
  called : Str
  caller : Option Str
  station : Option Str
  routed : Nat
  current : Nat
  cls : DocClass
  hours : Nat
  routeGen : Nat
  screening : ScreenResult
  openTime : TimeOfDay
  closeTime : Option TimeOfDay
  pages : List Nat
  incomplete : Bool
  damaged : Nat
  hold : Option HoldReason
  attempts : Nat
  notBefore : Option Nat
  ackThrough : Nat
  resume : Option Nat
  expiry : Option Nat
deriving DecidableEq, Repr

/-- R13: a slot that is not FREE is claimed by a channel or in use. -/
inductive DocSlot
  | claimed (ch : Nat)
  | inUse (d : Doc)
deriving DecidableEq, Repr

/-- R13, R14. `counter` is the next receipt number; none is the exhausted condition. -/
structure DocTable where
  slots : List (Nat × DocSlot)
  counter : Option Nat
deriving DecidableEq, Repr

/-! ### Receipt Journal (chapter 5) -/

/-- Section 5.2: a journal entry. -/
structure Entry where
  receipt : Option Nat
  channel : Nat
  openTime : TimeOfDay
  closeTime : TimeOfDay
  called : Str
  caller : Option Str
  station : Option Str
  outcome : JournalOutcome
  cause : Cause
  pages : Nat
  damaged : Nat
  mailbox : Option Nat
  routeGen : Option Nat
  screening : ScreenResult
deriving DecidableEq, Repr

structure Journal where
  log : List Entry
  reserved : Nat
  unrecorded : Nat
  lowMark : Nat
  lowArmed : Bool
deriving DecidableEq, Repr

/-! ### Mailbox Unit (chapter 6) -/

/-- Section 6.1; `queue` lists document slots, head first. `ahead` is the model's own: the head's not-before was still
ahead of uptime when the document became the head, and has not been reported (R107; log 19). -/
structure Mailbox where
  accepting : Bool
  delivering : Bool
  queue : List Nat
  held : Nat
  ahead : Bool
deriving DecidableEq, Repr

structure MailUnit where
  boxes : List Mailbox
  lastServed : Nat
deriving DecidableEq, Repr

/-! ### Table Unit (chapter 9) -/

/-- R160: the two copies of one table, its generation and its image check value. -/
structure Copies (α : Type) where
  live : List α
  staging : List α
  generation : Nat
  check : BitVec 32
deriving DecidableEq, Repr

structure TableUnit where
  routing : Copies RouteEntry
  screening : Copies ScreenEntry
  mailbox : Copies (Nat × MailRow)
  point : Copies (Nat × PointRow)
deriving DecidableEq, Repr

/-! ### Notices and replies (chapter 10) -/

/-- The notice table of 10.7: an occurrence with its kind's fields. -/
inductive Occurrence
  | callRefused (ch : Nat) (called : Str) (cause : Cause)
  | callDropped (ch receipt : Nat) (cause : Cause)
  | docQueued (receipt mailbox pages : Nat)
  | docQuarantined (receipt mailbox pages : Nat)
  | docDelivered (receipt mailbox point pages damaged attempts : Nat)
  | deliverySuspended (reason : SuspendReason) (receipt mailbox point attempts delay : Nat)
  | docHeld (receipt mailbox : Nat) (reason : HoldReason)
  | pageDamaged (receipt page pos : Nat)
  | pressureChanged (before after : Level) (free : Nat)
  | journalLow (free mark written reserved : Nat)
  | lineLinkChanged (st : LinkState)
  | channelUnresponsive (ch receipt : Nat)
  | pointChanged (p : Nat) (before after : PointState)
  | intakeChanged (before after : IntakeState)
  | restarted (cause : ResetCause)
deriving DecidableEq, Repr

inductive NoticeBody
  | event (o : Occurrence)
  | summary (flags : BitVec 16)
deriving DecidableEq, Repr

/-- R190, R191: a notice with the time-of-day at its occurrence. -/
structure Notice where
  stamp : TimeOfDay
  body : NoticeBody
deriving DecidableEq, Repr

/-- R183: the nine parameters the Management Unit holds. -/
structure Parameters where
  silence : Nat
  pressure : PressureParams
  lowMark : Nat
  mode : ReportMode
  masks : BitVec 16
deriving DecidableEq, Repr

/-- R187: the items of READ_STATUS, in the order of its table. -/
structure StatusImage where
  intake : IntakeState
  run : RunState
  cause : ResetCause
  clockSet : Bool
  unacknowledged : Bool
  tod : TimeOfDay
  uptime : Nat
  mode : ReportMode
  noticeCount : Nat
  lost : Bool
  outstanding : Bool
  dropped : Nat
  busy : Nat
  lineLink : LinkState
  lineErrors : Nat
  officeLink : LinkState
  officeErrors : Nat
  freeBlocks : Nat
  freeRecords : Nat
  level : Level
  freeSlots : Nat
  counter : Nat
  written : Nat
  reserved : Nat
  unrecorded : Nat
  lanes : Nat
  tables : List (Nat × BitVec 32)
deriving DecidableEq, Repr

/-- R52: the channel image. -/
structure ChannelImage where
  state : ChannelState
  enabled : Bool
  receipt : Option Nat
  expected : Option Nat
  resends : Nat
  received : Nat
  mark : Bool
  discards : Nat
  drop : Option Cause
  errors : Nat
deriving DecidableEq, Repr

/-- R112: the mailbox image. -/
structure MailboxImage where
  number : Nat
  inUse : Bool
  accepting : Bool
  delivering : Bool
  held : Nat
  quota : Option Nat
  length : Nat
  urgent : Nat
  heldDocs : Nat
  deliveringDocs : Nat
  lastServed : Nat
deriving DecidableEq, Repr

/-- R112: a queue entry. -/
structure QueueEntry where
  receipt : Nat
  cls : DocClass
  pages : Nat
  notBefore : Option Nat
  uptime : Nat
deriving DecidableEq, Repr

/-- R125: a posted intake slot. -/
structure IntakeSlot where
  id : Nat
  cap : Nat
deriving DecidableEq, Repr

/-- R141: what a point image says of the serving lane. -/
structure LaneImage where
  state : LaneState
  receipt : Nat
  buffers : List (Nat × Nat)
  ackThrough : Nat
deriving DecidableEq, Repr

/-- R141: the point image. -/
structure PointImage where
  point : Nat
  row : Option PointRow
  state : PointState
  intake : List IntakeSlot
  lane : Option Nat
  laneImage : Option LaneImage
  failures : Nat
  errors : Nat
  unsent : Nat
deriving DecidableEq, Repr

/-- R22: a document summary. -/
structure DocSummary where
  receipt : Nat
  slot : Nat
  state : DocState
  mailbox : Nat
  cls : DocClass
  pages : Nat
  incomplete : Bool
  damaged : Nat
  hold : Option HoldReason
deriving DecidableEq, Repr

/-- R24: a page image. -/
structure PageImage where
  number : Nat
  length : Nat
  blocks : Nat
  res : Resolution
  width : Width
  lines : Nat
  errs : Nat
  verdict : Verdict
  resends : Nat
  sends : Nat
deriving DecidableEq, Repr

/-- R97, R98: the counts a journal reply carries. -/
structure JournalCounts where
  written : Nat
  reserved : Nat
  free : Nat
deriving DecidableEq, Repr

/-- R165: the items of a table reading, each with its position or its row key. -/
inductive TableItems
  | routing (l : List (Nat × RouteEntry))
  | screening (l : List (Nat × ScreenEntry))
  | mailbox (l : List (Nat × Option MailRow))
  | point (l : List (Nat × Option PointRow))
deriving DecidableEq, Repr

/-- What a reply carries after its result (section 11.3 and the rule of each request). -/
inductive ReplyBody
  | none
  | status (st : StatusImage)
  | flags (pending : BitVec 16) (lost outstanding : Bool) (count : Nat)
  | params (p : Parameters)
  | clock (t : TimeOfDay)
  | counter (n : Nat)
  | cause (c : ResetCause)
  | conditions (clockSet routing mailbox acknowledged : Bool)
  | busy (n : Nat)
  | run (r : RunState) (lanes : Nat)
  | channel (c : ChannelImage)
  | staged (count : Nat)
  | removed (n count : Nat)
  | stageItems (items : TableItems) (count : Nat)
  | tableItems (items : TableItems) (count generation : Nat) (check : BitVec 32)
  | committed (t : TableId) (generation : Nat) (check : BitVec 32) (count : Nat)
  | invalid (index : Nat) (reason : CommitReason)
  | mailbox (m : MailboxImage)
  | mailboxQueue (m : MailboxImage) (entries : List QueueEntry)
  | point (p : PointImage)
  | summaries (l : List DocSummary) (next : Nat)
  | document (slot : Nat) (d : Doc) (uptime : Nat)
  | pages (n : Nat) (l : List PageImage)
  | entries (l : List (Nat × Entry)) (counts : JournalCounts) (unrecorded : Nat)
  | journalCounts (counts : JournalCounts)
deriving DecidableEq, Repr

/-- A reply of the Management Unit (R176, R178). `code` is the kind byte its frame carries (section 11.3);
`holds` tells the reply of the request that holds the slot; `restart` tells the reply whose sending resets the
6024 (R194). -/
structure Reply where
  dest : Nat
  tag : Nat
  code : Nat
  result : Result
  body : ReplyBody
  holds : Bool
  restart : Bool
deriving DecidableEq, Repr

/-- R116, R25: a document request deferred while its document is DELIVERING. -/
inductive DocReq
  | hold
  | reroute (target : Nat)
  | purge
deriving DecidableEq, Repr

/-- R177: the request slot. A deferred request is `asked` once the Delivery Unit has taken its withdrawal
request (R154). -/
inductive ReqSlot
  | free
  | replying
  | commit (h : ReqHead) (t : TableId)
  | deferred (h : ReqHead) (kind : DocReq) (receipt : Nat) (asked : Bool)
  | restarting
deriving DecidableEq, Repr

structure Management where
  slot : ReqSlot
  replies : List Reply
  replyOut : Bool
  dropped : Nat
  intake : IntakeState
  run : RunState
  params : Parameters
  tod : TimeOfDay
  clockSet : Bool
  uptime : Nat
  flags : BitVec 16
  notices : List Notice
  noticeOut : Bool
  lost : Bool
  outstanding : Bool
  cause : ResetCause
  unacknowledged : Bool
  tookSlot : Bool
deriving DecidableEq, Repr

/-! ### Office Port and Delivery Unit (chapters 7 and 8) -/

/-- What the 6024 sends on the office link (sections 7.1 and 11.3). -/
inductive OfficeBody
  | offer (receipt mailbox : Nat) (cls : DocClass) (pages first total : Nat) (station : Option Str)
  | pageHead (receipt page slot length : Nat) (res : Resolution) (width : Width) (verdict : Verdict) (last : Bool)
  | pageData (slot offset : Nat) (bytes : List Byte)
  | pageTail (slot : Nat) (check : BitVec 32)
  | withdraw (receipt : Nat)
  | slotReturn (slot : Nat) (reason : ReturnReason)
  | reply (r : Reply)
  | notice (n : Notice)
  | linkAlive
deriving DecidableEq, Repr

structure OfficeFrame where
  dest : Nat
  body : OfficeBody
deriving DecidableEq, Repr

/-- R120: who handed a frame to the Office Port. -/
inductive Hander
  | lane (i : Nat)
  | reply
  | notice
  | point (p : Nat)
deriving DecidableEq, Repr

/-- R117, R118, R120. `keepalive` is the uptime at which a second without a frame sent is over; `output` is
the frame last put on the link (log 16). -/
structure OfficePort where
  link : LinkState
  silence : Option Nat
  errors : Nat
  queue : List (Hander × OfficeFrame)
  keepalive : Nat
  output : Option OfficeFrame
deriving DecidableEq, Repr

/-- The context table of 7.2. -/
structure Point where
  state : PointState
  intake : List IntakeSlot
  lane : Option Nat
  failures : Nat
  errors : Nat
  unsent : Nat
deriving DecidableEq, Repr

/-- R122: a point context after any reset. -/
def Point.initial : Point :=
  { state := .offline, intake := [], lane := none, failures := 0, errors := 0, unsent := 0 }

/-- The page buffers of 7.4. `due` is the buffer's ack timer. -/
inductive PageBuf
  | empty
  | reading (page : Nat) (bytes : List Byte)
  | read (page : Nat) (bytes : List Byte)
  | goingOut (page : Nat) (bytes : List Byte) (slot : Nat)
  | outstanding (page : Nat) (bytes : List Byte) (slot : Nat) (due : Option Nat)
deriving DecidableEq, Repr

/-- R128: what a lane serves. -/
structure Job where
  slot : Nat
  point : Nat
deriving DecidableEq, Repr

/-- R152: a frame handed and not yet sent belongs to the present delivery or to an ended one. -/
inductive Pending | none | current | stale
deriving DecidableEq, Repr

/-- R135, R152: the block read a lane has in flight. -/
inductive Reading | none | live | abandoned
deriving DecidableEq, Repr

/-- The lane table of 7.4. `produced` lists the frames produced and not yet handed (R130); `withdrawn` tells
that the WITHDRAW has been sent (R155, R156). -/
structure Lane where
  state : LaneState
  job : Option Job
  buf0 : PageBuf
  buf1 : PageBuf
  order : List BufId
  nextRead : Option Nat
  acked : List Nat
  produced : List OfficeFrame
  pending : Pending
  reading : Reading
  acceptTimer : Option Nat
  waitTimer : Option Nat
  withdrawn : Bool
deriving DecidableEq, Repr

/-- R128: a lane after any reset. -/
def Lane.initial : Lane :=
  { state := .idle, job := none, buf0 := .empty, buf1 := .empty, order := [], nextRead := none, acked := [],
    produced := [], pending := .none, reading := .none, acceptTimer := none, waitTimer := none,
    withdrawn := false }

structure Delivery where
  points : List Point
  lanes : List Lane
deriving DecidableEq, Repr

/-! ### Events raised and not yet taken by their owner -/

/-- R132: what makes an arbiter round. -/
inductive Trigger
  | laneIdle (i : Nat)
  | candidate (m : Nat)
  | pointReady (p : Nat)
  | deliveryRun
  | swap (t : TableId)
deriving DecidableEq, Repr

/-- R117, R120: what the Office Port reports to the Management Unit, in order (log 14). -/
inductive PortReport
  | link (st : LinkState)
  | discardedReply (restart : Bool)
  | discardedNotice
deriving DecidableEq, Repr

structure Waiting where
  occurrences : List (Source × Occurrence)
  releases : Nat
  idleReports : Nat
  triggers : List Trigger
  laneDiscards : List Nat
  portReports : List PortReport
  pressureParts : List PressureParams
  lowMarks : List Nat
  silences : List Nat
  clears : List CountName
  mailSwaps : List (List Nat)
  pointSwaps : List (List Nat)
deriving DecidableEq, Repr

/-! ### The machine -/

/-- `pending` is the queue of commands; `heldReset` is the reset input held asserted, with the cause that
will be recorded when the 6024 leaves reset (R193). -/
structure State where
  pending : List Instr
  line : LinePort
  calls : CallController
  store : PageStore
  pressure : Pressure
  docs : DocTable
  journal : Journal
  mail : MailUnit
  delivery : Delivery
  office : OfficePort
  tables : TableUnit
  mgmt : Management
  waiting : Waiting
  heldReset : Option ResetCause
deriving DecidableEq, Repr

/-- Why a step stops with a fault. -/
inductive Fault
  /-- Raised by WRITE_COMPLETION and READ_COMPLETION alone: the operation at the head of the port queue names
  a block outside 0 to 16,383, which R1 says does not exist. Safe: no run from reset reaches such a state. -/
  | noSuchBlock
deriving DecidableEq, Repr

/-- Why a command has no meaning. -/
inductive Refusal
  /-- Raised by Dispatch.exec alone, for a row that has no meaning yet. Safe: nothing runs. -/
  | notModelled (mnemonic : String)
deriving DecidableEq, Repr

/-! ### Reset values, block by block -/

/-- R74: the pressure parameters after any reset. -/
def PressureParams.initial : PressureParams :=
  { tight := 2048, critical := 512, hysteresis := 256, enterDebounce := 4, exitDebounce := 4 }

/-- Section 10.4: the nine parameters after any reset. -/
def Parameters.initial : Parameters :=
  { silence := 20, pressure := PressureParams.initial, lowMark := 256, mode := .streaming, masks := 0 }

/-- R26: the Page Store after a reset; a reset does not clear the bytes (R1). -/
def PageStore.afterReset (mem : List Host.Cell) : PageStore :=
  { mem := mem, blocks := [], free := List.range blockCount, records := [], port := [] }

/-- R101, R110: the mailboxes after any reset. -/
def MailUnit.initial : MailUnit :=
  { boxes := List.replicate mailboxCount { accepting := true, delivering := true, queue := [], held := 0, ahead := false }
      ++ [{ accepting := true, delivering := false, queue := [], held := 0, ahead := false }],
    lastServed := 63 }

/-- R160: a table after any reset. -/
def Copies.initial (α : Type) : Copies α :=
  { live := [], staging := [], generation := 0, check := 0 }

/-- Section 10.8: the Management Unit after a reset with the given cause, time-of-day and clock-set flag. The
RESTARTED occurrence of R193 has been taken: bit 14 of the flags, and one notice. -/
def Management.afterReset (cause : ResetCause) (tod : TimeOfDay) (clockSet : Bool) : Management :=
  { slot := .free, replies := [], replyOut := false, dropped := 0, intake := .closed, run := .stopped,
    params := Parameters.initial, tod := tod, clockSet := clockSet, uptime := 0, flags := 1 <<< 14,
    notices := [{ stamp := tod, body := .event (.restarted cause) }], noticeOut := false, lost := false,
    outstanding := false, cause := cause, unacknowledged := true, tookSlot := false }

def Waiting.initial : Waiting :=
  { occurrences := [], releases := 0, idleReports := 0, triggers := [], laneDiscards := [], portReports := [],
    pressureParts := [], lowMarks := [], silences := [], clears := [], mailSwaps := [], pointSwaps := [] }

/-- The 6024 after a reset, around the bytes and the commands a reset keeps. -/
def State.afterReset (pending : List Instr) (mem : List Host.Cell) (mgmt : Management) : State :=
  { pending := pending,
    line := { link := .down, silence := none, errors := 0, queue := [], output := none },
    calls := { channels := List.replicate channelCount Channel.initial, silenceTimeout := 20 },
    store := PageStore.afterReset mem,
    pressure := { level := .normal, enter := 0, exit := 0, params := PressureParams.initial },
    docs := { slots := [], counter := some 1 },
    journal := { log := [], reserved := 0, unrecorded := 0, lowMark := 256, lowArmed := true },
    mail := MailUnit.initial,
    delivery := { points := List.replicate pointCount Point.initial, lanes := List.replicate laneCount Lane.initial },
    office := { link := .down, silence := none, errors := 0, queue := [], keepalive := keepalive, output := none },
    tables := { routing := Copies.initial _, screening := Copies.initial _, mailbox := Copies.initial _,
                point := Copies.initial _ },
    mgmt := mgmt,
    waiting := Waiting.initial,
    heldReset := none }

/-- The machine right after a power-on reset: an empty command queue, no byte of the store written. -/
def State.reset : State :=
  State.afterReset [] [] (Management.afterReset .powerOn ⟨0, 0⟩ false)

end Sys2Proof.Machine
end

