-- ==== Sys2Proof/Machine/Ops.lean ====
section
/-! DEFINITION. The named operations over the state: sparse tables, the bytes of the page store, the two clocks,
the timers, the reading and writing of one channel, lane, point, mailbox, document or page record, and the
raising of an event for another block. -/

namespace Sys2Proof.Machine

open Sys2Proof.Config

/-! ### Lists -/

/-- A count that stops at its maximum (Conventions, Counts). -/
def bump (top n : Nat) : Nat := if n < top then n + 1 else n

/-- The value a sparse table holds at a key. -/
def tableGet {α : Type} (k : Nat) (l : List (Nat × α)) : Option α :=
  match l with
  | [] => none
  | e :: t => if e.1 = k then some e.2 else tableGet k t

/-- A sparse table with the value at one key set; keys stay strictly rising. -/
def tablePut {α : Type} (k : Nat) (v : α) (l : List (Nat × α)) : List (Nat × α) :=
  match l with
  | [] => [(k, v)]
  | e :: t => if k < e.1 then (k, v) :: e :: t else if k = e.1 then (k, v) :: t else e :: tablePut k v t

/-- A sparse table without one key. -/
def tableDel {α : Type} (k : Nat) (l : List (Nat × α)) : List (Nat × α) :=
  l.filter (fun e => e.1 != k)

/-- The lowest number from `n` on that is no key of a rising table and lies below the limit. -/
def lowestFree {α : Type} (limit n : Nat) (l : List (Nat × α)) : Option Nat :=
  match l with
  | [] => if n < limit then some n else none
  | e :: t => if n < e.1 then (if n < limit then some n else none) else lowestFree limit (n + 1) t

/-- A list without the first entry equal to a value. -/
def eraseFirst {α : Type} [DecidableEq α] (a : α) (l : List α) : List α :=
  match l with
  | [] => []
  | b :: t => if b = a then t else b :: eraseFirst a t

/-! ### The bytes of the page store -/

namespace Memory

/-- What an unlisted address reads as (log 8). -/
def unlisted : Byte := 0

/-- The page store's addresses: block × 4,096 + offset. -/
def size : Nat := blockCount * blockBytes

/-- One byte. -/
def read (a : Nat) (mem : List Host.Cell) : Byte :=
  match mem with
  | [] => unlisted
  | c :: t => if c.1 = a then c.2 else read a t

/-- One byte written; an entry equal to what an unlisted address reads as is not kept. -/
def write (a : Nat) (b : Byte) (mem : List Host.Cell) : List Host.Cell :=
  match mem with
  | [] => if b = unlisted then [] else [(a, b)]
  | c :: t =>
    if a < c.1 then (if b = unlisted then c :: t else (a, b) :: c :: t)
    else if a = c.1 then (if b = unlisted then t else (a, b) :: t)
    else c :: write a b t

/-- Bytes written from an address on. -/
def writeRun (a : Nat) (bytes : List Byte) (mem : List Host.Cell) : List Host.Cell :=
  match bytes with
  | [] => mem
  | b :: t => writeRun (a + 1) t (write a b mem)

/-- `n` bytes read from an address on. -/
def readRun (a n : Nat) (mem : List Host.Cell) : List Byte :=
  match n with
  | 0 => []
  | n + 1 => read a mem :: readRun (a + 1) n mem

/-- R1: the bytes of one block, at most 4,096, written from its first byte on. -/
def writeBlock (block : Nat) (bytes : List Byte) (mem : List Host.Cell) : List Host.Cell :=
  writeRun (block * blockBytes) (bytes.take blockBytes) mem

/-- Cells of one block that no longer hold what was written (R7; log 9). An offset outside the block is no
cell of it. -/
def decay (block : Nat) (cells : List (Nat × Byte)) (mem : List Host.Cell) : List Host.Cell :=
  match cells with
  | [] => mem
  | c :: t => decay block t (if c.1 < blockBytes then write (block * blockBytes + c.1) c.2 mem else mem)

/-- Addresses strictly rising from `lo` on and inside the store, no entry equal to an unlisted byte. -/
def wfFrom (lo : Nat) (mem : List Host.Cell) : Bool :=
  match mem with
  | [] => true
  | c :: t => decide (lo ≤ c.1) && decide (c.1 < size) && c.2 != unlisted && wfFrom (c.1 + 1) t

/-- The canonical form of the page store's bytes. -/
def wf (mem : List Host.Cell) : Bool := wfFrom 0 mem

end Memory

/-! ### Clocks and timers -/

/-- R184: time-of-day as milliseconds. -/
def TimeOfDay.total (t : TimeOfDay) : Nat := t.secs * 1000 + t.ms

/-- R184: time-of-day `n` milliseconds on; it stops at its last value. -/
def TimeOfDay.plus (t : TimeOfDay) (n : Nat) : TimeOfDay :=
  let total := min (TimeOfDay.total t + n) todMax
  { secs := total / 1000, ms := total % 1000 }

/-- R184: both clocks `n` milliseconds on. -/
def State.advance (s : State) (n : Nat) : State :=
  { s with mgmt := { s.mgmt with uptime := min (s.mgmt.uptime + n) uptimeMax, tod := TimeOfDay.plus s.mgmt.tod n } }

/-- Both clocks moved on to an uptime that has not been reached yet; no move where it has (log 3). -/
def State.advanceTo (s : State) (d : Nat) : State := s.advance (d - s.mgmt.uptime)

/-- The uptime. -/
def State.now (s : State) : Nat := s.mgmt.uptime

/-- A deadline a number of milliseconds ahead. -/
def State.after (s : State) (ms : Nat) : Nat := s.mgmt.uptime + ms

/-- A timer can expire when it runs and its deadline can be reached (log 3). -/
def expiring (timer : Option Nat) : Option Nat :=
  match timer with
  | some d => if d ≤ uptimeMax then some d else none
  | none => none

/-! ### Events for another block -/

/-- R188: a notice occurrence, on its way to the Management Unit. -/
def State.raise (s : State) (src : Source) (o : Occurrence) : State :=
  { s with waiting := { s.waiting with occurrences := s.waiting.occurrences ++ [(src, o)] } }

/-- R132: an arbiter trigger. -/
def State.trigger (s : State) (t : Trigger) : State :=
  { s with waiting := { s.waiting with triggers := s.waiting.triggers ++ [t] } }

/-- R117, R120: a report of the Office Port to the Management Unit. -/
def State.portReport (s : State) (r : PortReport) : State :=
  { s with waiting := { s.waiting with portReports := s.waiting.portReports ++ [r] } }

/-! ### One channel, lane, point, mailbox, record, document -/

def State.channel (s : State) (ch : Nat) : Channel := s.calls.channels.getD ch Channel.initial

def State.setChannel (s : State) (ch : Nat) (c : Channel) : State :=
  { s with calls := { s.calls with channels := s.calls.channels.set ch c } }

def State.lane (s : State) (i : Nat) : Lane := s.delivery.lanes.getD i Lane.initial

def State.setLane (s : State) (i : Nat) (l : Lane) : State :=
  { s with delivery := { s.delivery with lanes := s.delivery.lanes.set i l } }

/-- The context of a point address, 1 to 30. -/
def State.point (s : State) (p : Nat) : Point := s.delivery.points.getD (p - 1) Point.initial

def State.setPoint (s : State) (p : Nat) (x : Point) : State :=
  { s with delivery := { s.delivery with points := s.delivery.points.set (p - 1) x } }

def Mailbox.initial : Mailbox := { accepting := true, delivering := true, queue := [], held := 0, ahead := false }

def State.box (s : State) (m : Nat) : Mailbox := s.mail.boxes.getD m Mailbox.initial

def State.setBox (s : State) (m : Nat) (b : Mailbox) : State :=
  { s with mail := { s.mail with boxes := s.mail.boxes.set m b } }

/-- A page record in use. -/
def State.record (s : State) (r : Nat) : Option PageRecord := tableGet r s.store.records

def State.setRecord (s : State) (r : Nat) (x : PageRecord) : State :=
  { s with store := { s.store with records := tablePut r x s.store.records } }

def DocSlot.doc (x : DocSlot) : Option Doc :=
  match x with
  | .claimed _ => none
  | .inUse d => some d

/-- The document record in a slot. -/
def State.doc (s : State) (slot : Nat) : Option Doc := (tableGet slot s.docs.slots).bind DocSlot.doc

def State.setDoc (s : State) (slot : Nat) (d : Doc) : State :=
  { s with docs := { s.docs with slots := tablePut slot (.inUse d) s.docs.slots } }

/-- Every document record in use with its slot, in slot order. -/
def State.docList (s : State) : List (Nat × Doc) :=
  s.docs.slots.filterMap (fun e => (DocSlot.doc e.2).map (fun d => (e.1, d)))

/-- The record in use that carries a receipt number (R13: no two do). -/
def State.docOf (s : State) (receipt : Nat) : Option (Nat × Doc) :=
  s.docList.find? (fun e => e.2.receipt == receipt)

/-- The live row of a mailbox in use. -/
def State.mailRow (s : State) (m : Nat) : Option MailRow := tableGet m s.tables.mailbox.live

/-- The live row of a point in use. -/
def State.pointRow (s : State) (p : Nat) : Option PointRow := tableGet p s.tables.point.live

/-- R51: the number of channels not in IDLE. -/
def State.busy (s : State) : Nat := s.calls.channels.countP (fun c => c.state != .idle)

/-- R141, R187: the number of lanes not in IDLE. -/
def State.lanesBusy (s : State) : Nat := s.delivery.lanes.countP (fun l => l.state != .idle)

/-! ### What every command shares -/

/-- A command with its effect; while the reset input is asserted the 6024 is held in reset and no command but
those of the reset and the supply does anything (R193; log 12). -/
def act (f : State → State) (s : State) : Host.Outcome State Fault Refusal :=
  if s.heldReset.isSome then .next s else .next (f s)

end Sys2Proof.Machine
end

