-- ==== Sys2Proof/Machine/Flags.lean ====
section
/-! DEFINITION. The pending flags and masks of the fifteen notice kinds (sections 10.7 and 11.1), and the names
CLEAR_FLAGS may carry. -/

namespace Sys2Proof.Machine

/-- Section 11.1: the code of a notice kind, its place in the notice table of section 10.7. -/
def noticeCode (k : NoticeKind) : Nat :=
  match k with
  | .callRefused => 1
  | .callDropped => 2
  | .docQueued => 3
  | .docQuarantined => 4
  | .docDelivered => 5
  | .deliverySuspended => 6
  | .docHeld => 7
  | .pageDamaged => 8
  | .pressureChanged => 9
  | .journalLow => 10
  | .lineLinkChanged => 11
  | .channelUnresponsive => 12
  | .pointChanged => 13
  | .intakeChanged => 14
  | .restarted => 15

/-- The kind of an occurrence. -/
def Occurrence.kind (o : Occurrence) : NoticeKind :=
  match o with
  | .callRefused _ _ _ => .callRefused
  | .callDropped _ _ _ => .callDropped
  | .docQueued _ _ _ => .docQueued
  | .docQuarantined _ _ _ => .docQuarantined
  | .docDelivered _ _ _ _ _ _ => .docDelivered
  | .deliverySuspended _ _ _ _ _ _ => .deliverySuspended
  | .docHeld _ _ _ => .docHeld
  | .pageDamaged _ _ _ => .pageDamaged
  | .pressureChanged _ _ _ => .pressureChanged
  | .journalLow _ _ _ _ => .journalLow
  | .lineLinkChanged _ => .lineLinkChanged
  | .channelUnresponsive _ _ => .channelUnresponsive
  | .pointChanged _ _ _ => .pointChanged
  | .intakeChanged _ _ => .intakeChanged
  | .restarted _ => .restarted

/-- Section 11.1: bit k − 1 stands for notice kind k. -/
def flagBit (code : Nat) : BitVec 16 := (1 : BitVec 16) <<< (code - 1)

/-- R188: the kind's pending flag becomes yes. -/
def setFlag (code : Nat) (flags : BitVec 16) : BitVec 16 := flags ||| flagBit code

/-- R189, R195: the kind's pending flag becomes no. -/
def clearFlag (code : Nat) (flags : BitVec 16) : BitVec 16 := flags &&& ~~~ (flagBit code)

/-- Whether a flag or a mask of a kind is set. -/
def flagOn (code : Nat) (flags : BitVec 16) : Bool := flags.getLsbD (code - 1)

/-- Section 11.1: what a name of CLEAR_FLAGS with a code above 16 stands for; none is NOTICES_LOST. -/
def countName (code : Nat) : Option CountName :=
  match code with
  | 18 => some .unrecordedRefusals
  | 19 => some .lineFrameErrors
  | 20 => some .officeFrameErrors
  | 21 => some .droppedRequests
  | _ => none

end Sys2Proof.Machine
end

