-- ==== Sys2Proof/Machine/Layout.lean ====
section
/-! DEFINITION. The byte layouts of spec/11_frame_and_record_layouts.md: the codes of the enumerations, the two
check values, the record images, and the bytes of every frame the 6024 sends. -/

namespace Sys2Proof.Machine

open Sys2Proof.Config

/-! ### Check values (R198) -/

/-- One bit fed through the shift register. -/
def crcBit {n : Nat} (poly reg : BitVec n) (bit : Bool) : BitVec n :=
  if reg.msb != bit then (reg <<< 1) ^^^ poly else reg <<< 1

/-- One byte fed, most significant bit first. -/
def crcByte {n : Nat} (poly reg : BitVec n) (b : Byte) : BitVec n :=
  [7, 6, 5, 4, 3, 2, 1, 0].foldl (fun r i => crcBit poly r (b.getLsbD i)) reg

/-- The bytes fed in order through a register of all ones. -/
def crcRun {n : Nat} (poly : BitVec n) (bytes : List Byte) : BitVec n :=
  bytes.foldl (crcByte poly) (BitVec.allOnes n)

/-- CRC-16: x^16 + x^12 + x^5 + 1, without inversion. -/
def crc16 (bytes : List Byte) : BitVec 16 := crcRun 0x1021#16 bytes

/-- CRC-32: 0x04C11DB7, inverted before use. -/
def crc32 (bytes : List Byte) : BitVec 32 := ~~~ (crcRun 0x04C11DB7#32 bytes)

/-! ### Numbers and strings (section 11.1) -/

/-- A number in `n` bytes, most significant first. -/
def be (n v : Nat) : List Byte :=
  match n with
  | 0 => []
  | n + 1 => BitVec.ofNat 8 (v / 256 ^ n) :: be n v

/-- A flag: 1 for yes, 0 for no. -/
def flagNat (b : Bool) : Nat := if b then 1 else 0

def flagByte (b : Bool) : List Byte := be 1 (flagNat b)

/-- An absent optional number is sent as 0. -/
def optNat (o : Option Nat) : Nat := o.getD 0

/-- A string in a field of `room` characters: its length, its characters, zeros past the length. -/
def strBytes (room : Nat) (s : Str) : List Byte :=
  be 1 s.length ++ s.map (BitVec.ofNat 8) ++ List.replicate (room - s.length) 0

/-- An absent string has the length byte 255. -/
def optStrBytes (room : Nat) (s : Option Str) : List Byte :=
  match s with
  | none => be 1 255 ++ List.replicate room 0
  | some x => strBytes room x

/-- An absent string in an image with a presence byte: every byte 0 (section 11.5). -/
def imageStr (room : Nat) (s : Option Str) : List Byte :=
  match s with
  | none => List.replicate (room + 1) 0
  | some x => strBytes room x

def digitRoom : Nat := 16
def stationRoom : Nat := 20

def todBytes (t : TimeOfDay) : List Byte := be 4 t.secs ++ be 2 t.ms

def optTod (t : Option TimeOfDay) : List Byte := todBytes (t.getD ⟨0, 0⟩)

/-- Presence bits, bit 0 first. -/
def presence (l : List Bool) : Nat :=
  match l with
  | [] => 0
  | b :: t => flagNat b + 2 * presence t

/-! ### Codes of the enumerations: the position in the list, from 1 (section 11.1) -/

def resolutionCode (x : Resolution) : Nat := match x with | .standard => 1 | .fine => 2 | .superfine => 3
def widthCode (x : Width) : Nat := match x with | .a4 => 1 | .b4 => 2 | .a3 => 3
def modemCode (x : ModemVerdict) : Nat := match x with | .good => 1 | .marginal => 2 | .bad => 3
def verdictCode (x : Verdict) : Nat := match x with | .good => 1 | .marginal => 2 | .damaged => 3
def confirmCode (x : Confirm) : Nat := match x with | .accepted => 1 | .resend => 2
def classCode (x : DocClass) : Nat := match x with | .routine => 1 | .urgent => 2
def docStateCode (x : DocState) : Nat :=
  match x with | .receiving => 1 | .queued => 2 | .delivering => 3 | .held => 4 | .retained => 5
def holdCode (x : HoldReason) : Nat := match x with | .management => 1 | .deliveryFailed => 2 | .quarantine => 3
def screenResultCode (x : ScreenResult) : Nat :=
  match x with | .none => 1 | .accept => 2 | .quarantine => 3 | .redirect => 4
def screenActionCode (x : ScreenAction) : Nat :=
  match x with | .accept => 1 | .refuse => 2 | .quarantine => 3 | .redirect => 4
def matchCode (x : MatchKind) : Nat := match x with | .caller => 1 | .station => 2
def outcomeCode (x : JournalOutcome) : Nat := match x with | .received => 1 | .receivedIncomplete => 2 | .refused => 3
def causeCode (x : Cause) : Nat :=
  match x with
  | .normal => 1 | .lineLost => 2 | .farEndAbort => 3 | .protocol => 4 | .released => 5
  | .channelDisabled => 6 | .intakeClosed => 7 | .draining => 8 | .numbersExhausted => 9 | .journalFull => 10
  | .storeCritical => 11 | .noDocumentSlot => 12 | .screened => 13 | .noRoute => 14 | .storeTight => 15
  | .mailboxClosed => 16 | .mailboxFull => 17 | .pageLimit => 18 | .pagePoolEmpty => 19 | .storeFull => 20
  | .pageEmpty => 21 | .timeout => 22 | .engineClosed => 23 | .noRelease => 24 | .linkLost => 25
def channelStateCode (x : ChannelState) : Nat :=
  match x with | .idle => 1 | .answered => 2 | .receivingPage => 3 | .betweenPages => 4 | .releasing => 5
def laneStateCode (x : LaneState) : Nat :=
  match x with
  | .idle => 1 | .offering => 2 | .sending => 3 | .waitingIntake => 4 | .waitingAck => 5 | .withdrawing => 6
def pointStateCode (x : PointState) : Nat := match x with | .offline => 1 | .ready => 2 | .stalled => 3
def suspendCode (x : SuspendReason) : Nat :=
  match x with
  | .acceptTimeout => 1 | .ackTimeout => 2 | .intakeUnavailable => 3 | .pageRejected => 4 | .pointDown => 5
  | .officeLinkDown => 6 | .declined => 7
def returnCode (x : ReturnReason) : Nat := match x with | .tooSmall => 1 | .overLimit => 2 | .duplicate => 3
def intakeCode (x : IntakeState) : Nat := match x with | .closed => 1 | .opened => 2 | .draining => 3
def runCode (x : RunState) : Nat := match x with | .stopped => 1 | .running => 2
def levelCode (x : Level) : Nat := match x with | .normal => 1 | .tight => 2 | .critical => 3
def linkCode (x : LinkState) : Nat := match x with | .down => 1 | .up => 2
def tableCode (x : TableId) : Nat := match x with | .routing => 1 | .screening => 2 | .mailbox => 3 | .point => 4
def commitCode (x : CommitReason) : Nat :=
  match x with
  | .duplicateKey => 1 | .badField => 2 | .mailboxUndefined => 3 | .pointUndefined => 4 | .mailboxInUse => 5
  | .pointInUse => 6 | .pointManagerLost => 7
def resultCode (x : Result) : Nat :=
  match x with
  | .ok => 1 | .busy => 2 | .notPermitted => 3 | .unknownRequest => 4 | .badArgument => 5 | .range => 6
  | .wrongState => 7 | .notReady => 8 | .inUse => 9 | .tableInvalid => 10
def resetCode (x : ResetCause) : Nat := match x with | .powerOn => 1 | .pin => 2 | .restart => 3
def modeCode (x : ReportMode) : Nat := match x with | .streaming => 1 | .summary => 2

/-- Section 11.3: the kind code of a request. -/
def requestCode (k : ReqKind) : Nat :=
  match k with
  | .readStatus => 64 | .readFlags => 65 | .clearFlags => 66 | .setParameters => 67 | .readParameters => 68
  | .setClock => 69 | .setReceiptBase => 70 | .ackRestart => 71 | .restart => 72 | .intake => 73
  | .delivery => 74 | .channelControl => 75 | .stageClear => 76 | .stagePut => 77 | .stageRemove => 78
  | .stageRevert => 79 | .stageRead => 80 | .tableRead => 81 | .commit => 82 | .mailboxControl => 83
  | .mailboxRead => 84 | .pointRead => 85 | .docList => 86 | .docRead => 87 | .docPages => 88
  | .docHold => 89 | .docRelease => 90 | .docReroute => 91 | .docPurge => 92 | .journalRead => 93
  | .journalRelease => 94

/-- Section 11.3: a reply carries the code of its request plus 64. -/
def replyCode (k : ReqKind) : Nat := requestCode k + 64

/-! ### Record images (section 11.5) -/

/-- R161: the routing entry image, 22 bytes. -/
def routeImage (e : RouteEntry) : List Byte :=
  strBytes digitRoom e.stem ++ be 1 e.mailbox ++ be 1 (classCode e.cls) ++ be 2 e.hours ++ flagByte e.shed

def screenImage (e : ScreenEntry) : List Byte :=
  be 1 (matchCode e.kind) ++ strBytes stationRoom e.str ++ be 1 (screenActionCode e.action)
    ++ be 1 (e.target.getD 255)

def mailImage (m : Nat) (e : MailRow) : List Byte :=
  be 1 m ++ be 1 e.primary ++ be 1 (optNat e.alternate) ++ be 2 e.quota ++ be 1 (e.overflow.getD 255)

def pointRowImage (p : Nat) (e : PointRow) : List Byte :=
  be 1 p ++ flagByte e.manage ++ be 1 e.accept ++ be 1 e.ack ++ be 1 e.wait ++ be 1 e.maxSlots

/-- R23: the document image, 114 bytes. -/
def docImage (slot : Nat) (d : Doc) (uptime : Nat) : List Byte :=
  be 2 slot ++ be 4 d.receipt ++ be 1 (docStateCode d.state)
    ++ be 1 (presence [d.channel.isSome, d.caller.isSome, d.station.isSome, d.closeTime.isSome, d.hold.isSome,
        d.notBefore.isSome, d.resume.isSome, d.expiry.isSome])
    ++ be 1 (optNat d.channel) ++ strBytes digitRoom d.called ++ imageStr digitRoom d.caller
    ++ imageStr stationRoom d.station
    ++ be 1 d.routed ++ be 1 d.current ++ be 1 (classCode d.cls) ++ be 2 d.hours ++ be 4 d.routeGen
    ++ be 1 (screenResultCode d.screening)
    ++ todBytes d.openTime ++ optTod d.closeTime ++ be 2 d.pages.length ++ flagByte d.incomplete ++ be 2 d.damaged
    ++ be 1 (optNat (d.hold.map holdCode)) ++ be 1 d.attempts
    ++ be 6 (optNat d.notBefore) ++ be 2 d.ackThrough ++ be 1 (optNat d.resume) ++ be 6 (optNat d.expiry)
    ++ be 6 uptime

/-- R24: the page image, 17 bytes. -/
def pageImageBytes (p : PageImage) : List Byte :=
  be 2 p.number ++ be 4 p.length ++ be 2 p.blocks ++ be 1 (resolutionCode p.res) ++ be 1 (widthCode p.width)
    ++ be 2 p.lines ++ be 2 p.errs ++ be 1 (verdictCode p.verdict) ++ be 1 p.resends ++ be 1 p.sends

/-- R97: the journal entry image, 87 bytes. -/
def entryImage (offset : Nat) (e : Entry) : List Byte :=
  be 2 offset
    ++ be 1 (presence [e.receipt.isSome, e.caller.isSome, e.station.isSome, e.mailbox.isSome, e.routeGen.isSome])
    ++ be 4 (optNat e.receipt) ++ be 1 e.channel ++ todBytes e.openTime ++ todBytes e.closeTime
    ++ strBytes digitRoom e.called ++ imageStr digitRoom e.caller ++ imageStr stationRoom e.station
    ++ be 1 (outcomeCode e.outcome) ++ be 1 (causeCode e.cause) ++ be 2 e.pages ++ be 2 e.damaged
    ++ be 1 (optNat e.mailbox) ++ be 4 (optNat e.routeGen) ++ be 1 (screenResultCode e.screening)

/-! ### Items of replies (section 11.3; the types chapter 11 leaves to the reader are log 22) -/

/-- A list is preceded by a one-byte count of its items. -/
def listBytes {α : Type} (f : α → List Byte) (l : List α) : List Byte := be 1 l.length ++ l.flatMap f

def statusBytes (x : StatusImage) : List Byte :=
  be 1 (intakeCode x.intake) ++ be 1 (runCode x.run) ++ be 1 (resetCode x.cause) ++ flagByte x.clockSet
    ++ flagByte x.unacknowledged ++ todBytes x.tod ++ be 6 x.uptime ++ be 1 (modeCode x.mode)
    ++ be 1 x.noticeCount ++ flagByte x.lost ++ flagByte x.outstanding ++ be 2 x.dropped
    ++ be 1 x.busy ++ be 1 (linkCode x.lineLink) ++ be 2 x.lineErrors ++ be 1 (linkCode x.officeLink)
    ++ be 2 x.officeErrors ++ be 2 x.freeBlocks ++ be 2 x.freeRecords ++ be 1 (levelCode x.level)
    ++ be 2 x.freeSlots ++ be 4 x.counter ++ be 2 x.written ++ be 1 x.reserved ++ be 2 x.unrecorded
    ++ be 1 x.lanes ++ x.tables.flatMap (fun t => be 4 t.1 ++ be 4 t.2.toNat)

def paramsBytes (p : Parameters) : List Byte :=
  be 1 p.silence ++ be 2 p.pressure.tight ++ be 2 p.pressure.critical ++ be 2 p.pressure.hysteresis
    ++ be 1 p.pressure.enterDebounce ++ be 1 p.pressure.exitDebounce ++ be 2 p.lowMark ++ be 1 (modeCode p.mode)
    ++ be 2 p.masks.toNat

def channelBytes (c : ChannelImage) : List Byte :=
  be 1 (channelStateCode c.state) ++ flagByte c.enabled ++ be 4 (optNat c.receipt) ++ be 2 (optNat c.expected)
    ++ be 1 c.resends ++ be 4 c.received ++ flagByte c.mark ++ be 1 c.discards ++ be 1 (optNat (c.drop.map causeCode))
    ++ be 2 c.errors

/-- R112: the mailbox image; the number of DELIVERING documents in 2 bytes, as the other counts of documents (log 47,
DESIGN CHOICE). -/
def mailboxBytes (m : MailboxImage) : List Byte :=
  be 1 m.number ++ flagByte m.inUse ++ flagByte m.accepting ++ flagByte m.delivering ++ be 2 m.held
    ++ be 2 (optNat m.quota) ++ be 2 m.length ++ be 2 m.urgent ++ be 2 m.heldDocs ++ be 2 m.deliveringDocs
    ++ be 1 m.lastServed

/-- R112: a queue entry, the uptime of the reply in each, also beside an absent not-before (log 50, DESIGN CHOICE). -/
def queueEntryBytes (e : QueueEntry) : List Byte :=
  be 4 e.receipt ++ be 1 (classCode e.cls) ++ be 2 e.pages ++ be 6 (optNat e.notBefore) ++ be 6 e.uptime

def summaryBytes (d : DocSummary) : List Byte :=
  be 4 d.receipt ++ be 2 d.slot ++ be 1 (docStateCode d.state) ++ be 1 d.mailbox ++ be 1 (classCode d.cls)
    ++ be 2 d.pages ++ flagByte d.incomplete ++ be 2 d.damaged ++ be 1 (optNat (d.hold.map holdCode))

def slotBytes (x : IntakeSlot) : List Byte := be 1 x.id ++ be 3 x.cap

/-- The lane fields of the point image: zeros where no lane serves the point (11.1: an absent enumeration and the
unsigned fields of an absent optional item are 0; an empty list has the count 0; log 22), else with the buffers as one
list of pairs (log 46). -/
def laneFields (o : Option LaneImage) : List Byte :=
  match o with
  | none => be 1 0 ++ be 4 0 ++ be 1 0 ++ be 2 0
  | some l =>
    be 1 (laneStateCode l.state) ++ be 4 l.receipt ++ listBytes (fun b => be 2 b.1 ++ be 1 b.2) l.buffers
      ++ be 2 l.ackThrough

/-- R141: the point image. -/
def pointBytes (p : PointImage) : List Byte :=
  be 1 p.point ++ flagByte p.row.isSome
    ++ (match p.row with
        | none => List.replicate 5 0
        | some r => flagByte r.manage ++ be 1 r.accept ++ be 1 r.ack ++ be 1 r.wait ++ be 1 r.maxSlots)
    ++ be 1 (pointStateCode p.state) ++ listBytes slotBytes p.intake ++ be 1 (p.lane.getD 255)
    ++ laneFields p.laneImage ++ be 1 p.failures ++ be 2 p.errors ++ be 1 p.unsent

/-- Section 11.5: a routing or screening image after its position, a row after its in-use flag. -/
def itemsBytes (x : TableItems) : List Byte :=
  match x with
  | .routing l => listBytes (fun e => be 2 e.1 ++ routeImage e.2) l
  | .screening l => listBytes (fun e => be 2 e.1 ++ screenImage e.2) l
  | .mailbox l => listBytes (fun e => match e.2 with
      | none => List.replicate 7 0
      | some r => be 1 1 ++ mailImage e.1 r) l
  | .point l => listBytes (fun e => match e.2 with
      | none => List.replicate 7 0
      | some r => be 1 1 ++ pointRowImage e.1 r) l

def journalCountBytes (c : JournalCounts) : List Byte := be 2 c.written ++ be 1 c.reserved ++ be 2 c.free

def replyItems (b : ReplyBody) : List Byte :=
  match b with
  | .none => []
  | .status x => statusBytes x
  | .flags pending lost outstanding count =>
      be 2 pending.toNat ++ flagByte lost ++ flagByte outstanding ++ be 1 count
  | .params p => paramsBytes p
  | .clock t => todBytes t
  | .counter n => be 4 n
  | .cause c => be 1 (resetCode c)
  | .conditions c r m a => flagByte c ++ flagByte r ++ flagByte m ++ flagByte a
  | .busy n => be 1 n
  | .run r lanes => be 1 (runCode r) ++ be 1 lanes
  | .channel c => channelBytes c
  | .staged count => be 2 count
  | .removed n count => be 2 n ++ be 2 count
  | .stageItems items count => itemsBytes items ++ be 2 count
  | .tableItems items count generation check => itemsBytes items ++ be 2 count ++ be 4 generation ++ be 4 check.toNat
  | .committed t generation check count => be 1 (tableCode t) ++ be 4 generation ++ be 4 check.toNat ++ be 2 count
  | .invalid index reason => be 2 index ++ be 1 (commitCode reason)
  | .mailbox m => mailboxBytes m
  | .mailboxQueue m entries => mailboxBytes m ++ listBytes queueEntryBytes entries
  | .point p => pointBytes p
  | .summaries l next => listBytes summaryBytes l ++ be 4 next
  | .document slot d uptime => docImage slot d uptime
  | .pages n l => be 2 n ++ listBytes pageImageBytes l
  | .entries l counts unrecorded =>
      listBytes (fun e => entryImage e.1 e.2) l ++ journalCountBytes counts ++ be 2 unrecorded
  | .journalCounts counts => journalCountBytes counts

/-! ### Notices (section 11.3) -/

/-- R197, section 10.7: a notice's fields in their order; the block position of PAGE_DAMAGED, which section 11.1 gives no
type, in 2 bytes (log 48, DESIGN CHOICE). -/
def occurrenceBytes (o : Occurrence) : List Byte :=
  match o with
  | .callRefused ch called cause => be 1 ch ++ strBytes digitRoom called ++ be 1 (causeCode cause)
  | .callDropped ch receipt cause => be 1 ch ++ be 4 receipt ++ be 1 (causeCode cause)
  | .docQueued receipt mailbox pages => be 4 receipt ++ be 1 mailbox ++ be 2 pages
  | .docQuarantined receipt mailbox pages => be 4 receipt ++ be 1 mailbox ++ be 2 pages
  | .docDelivered receipt mailbox point pages damaged attempts =>
      be 4 receipt ++ be 1 mailbox ++ be 1 point ++ be 2 pages ++ be 2 damaged ++ be 1 attempts
  | .deliverySuspended reason receipt mailbox point attempts delay =>
      be 1 (suspendCode reason) ++ be 4 receipt ++ be 1 mailbox ++ be 1 point ++ be 1 attempts ++ be 2 delay
  | .docHeld receipt mailbox reason => be 4 receipt ++ be 1 mailbox ++ be 1 (holdCode reason)
  | .pageDamaged receipt page pos => be 4 receipt ++ be 2 page ++ be 2 pos
  | .pressureChanged before after free => be 1 (levelCode before) ++ be 1 (levelCode after) ++ be 2 free
  | .journalLow free mark written reserved => be 2 free ++ be 2 mark ++ be 2 written ++ be 1 reserved
  | .lineLinkChanged st => be 1 (linkCode st)
  | .channelUnresponsive ch receipt => be 1 ch ++ be 4 receipt
  | .pointChanged p before after => be 1 p ++ be 1 (pointStateCode before) ++ be 1 (pointStateCode after)
  | .intakeChanged before after => be 1 (intakeCode before) ++ be 1 (intakeCode after)
  | .restarted cause => be 1 (resetCode cause)

/-- A notice's kind, its stamp and its fields; SUMMARY is kind 16. -/
def noticeBytes (n : Notice) : List Byte :=
  match n.body with
  | .event o => be 1 (noticeCode (Occurrence.kind o)) ++ todBytes n.stamp ++ occurrenceBytes o
  | .summary flags => be 1 16 ++ todBytes n.stamp ++ be 2 flags.toNat

/-! ### The frames the 6024 sends (sections 11.2 and 11.3) -/

def lineKind (b : LineBody) : Nat :=
  match b with
  | .answer _ => 33
  | .refuse _ => 34
  | .drop _ => 35
  | .confirm _ => 36

def lineBody (b : LineBody) : List Byte :=
  match b with
  | .answer receipt => be 4 receipt
  | .refuse cause => be 1 (causeCode cause)
  | .drop cause => be 1 (causeCode cause)
  | .confirm c => be 1 (confirmCode c)

/-- Section 11.2: kind, channel, body length, body, CRC-16. -/
def lineRunOf (kind channel : Nat) (body : List Byte) : List Byte :=
  let run := be 1 kind ++ be 1 channel ++ be 2 body.length ++ body
  run ++ be 2 (crc16 run).toNat

def lineFrameBytes (f : LineFrame) : List Byte := lineRunOf (lineKind f.body) f.channel (lineBody f.body)

def officeKind (b : OfficeBody) : Nat :=
  match b with
  | .offer _ _ _ _ _ _ _ => 1
  | .pageHead _ _ _ _ _ _ _ _ => 2
  | .pageData _ _ _ => 3
  | .pageTail _ _ => 4
  | .withdraw _ => 5
  | .slotReturn _ _ => 6
  | .reply r => r.code
  | .notice _ => 32
  | .linkAlive => 127

/-- 7.1: a reply carries the tag of its request, every other frame tag 0. -/
def officeTag (b : OfficeBody) : Nat :=
  match b with
  | .reply r => r.tag
  | _ => 0

def officePayload (b : OfficeBody) : List Byte :=
  match b with
  | .offer receipt mailbox cls pages first total station =>
      be 4 receipt ++ be 1 mailbox ++ be 1 (classCode cls) ++ be 2 pages ++ be 2 first ++ be 4 total
        ++ optStrBytes stationRoom station
  | .pageHead receipt page slot length res width verdict last =>
      be 4 receipt ++ be 2 page ++ be 1 slot ++ be 4 length ++ be 1 (resolutionCode res) ++ be 1 (widthCode width)
        ++ be 1 (verdictCode verdict) ++ flagByte last
  | .pageData slot offset bytes => be 1 slot ++ be 4 offset ++ bytes
  | .pageTail slot check => be 1 slot ++ be 4 check.toNat
  | .withdraw receipt => be 4 receipt
  | .slotReturn slot reason => be 1 slot ++ be 1 (returnCode reason)
  | .reply r => be 1 (resultCode r.result) ++ replyItems r.body
  | .notice n => noticeBytes n
  | .linkAlive => []

/-- Section 11.3: destination, source, kind, tag, payload length, payload, CRC-32. -/
def officeRunOf (dest src kind tag : Nat) (payload : List Byte) : List Byte :=
  let run := be 1 dest ++ be 1 src ++ be 1 kind ++ be 1 tag ++ be 2 payload.length ++ payload
  run ++ be 4 (crc32 run).toNat

/-- R120: a frame of the 6024 carries source 0. -/
def officeFrameBytes (f : OfficeFrame) : List Byte :=
  officeRunOf f.dest 0 (officeKind f.body) (officeTag f.body) (officePayload f.body)

end Sys2Proof.Machine
end

