-- ==== Sys2Proof/Machine/Pressure.lean ====
section
/-! DEFINITION. The Pressure Monitor (spec/04_store_pressure.md): the conditions of a level, one evaluation, and
the parameter change. -/

namespace Sys2Proof.Machine

/-- R77, column "Enter condition". -/
def enterHolds (p : PressureParams) (level : Level) (free : Nat) : Bool :=
  match level with
  | .normal => free < p.tight
  | .tight => free < p.critical
  | .critical => false

/-- R77, column "Exit condition". -/
def exitHolds (p : PressureParams) (level : Level) (free : Nat) : Bool :=
  match level with
  | .normal => false
  | .tight => p.tight + p.hysteresis ≤ free
  | .critical => p.critical + p.hysteresis ≤ free

/-- One step up (R77). -/
def Level.up (l : Level) : Level :=
  match l with
  | .normal => .tight
  | .tight => .critical
  | .critical => .critical

/-- One step down (R77). -/
def Level.down (l : Level) : Level :=
  match l with
  | .normal => .normal
  | .tight => .normal
  | .critical => .tight

/-- R78: the counters and the level after an evaluation that reads a free block count. -/
def Pressure.evaluate (p : Pressure) (free : Nat) : Pressure :=
  let enter := if enterHolds p.params p.level free then p.enter + 1 else 0
  let exit := if exitHolds p.params p.level free then p.exit + 1 else 0
  if p.params.enterDebounce + 1 ≤ enter then { p with level := Level.up p.level, enter := 0, exit := 0 }
  else if p.params.exitDebounce + 1 ≤ exit then { p with level := Level.down p.level, enter := 0, exit := 0 }
  else { p with enter := enter, exit := exit }

/-- R80: a move of the level is raised as PRESSURE_CHANGED. -/
def State.pressureMoved (s : State) (before after : Level) (free : Nat) : State :=
  if before = after then s else s.raise .pressureMonitor (.pressureChanged before after free)

/-- R83: an evaluation that ends at CRITICAL makes a release request. -/
def State.releaseAsked (s : State) (level : Level) : State :=
  if level = .critical then { s with waiting := { s.waiting with releases := s.waiting.releases + 1 } } else s

/-- R76: an evaluation. -/
def State.evaluate (s : State) : State :=
  let free := s.store.free.length
  let p := s.pressure.evaluate free
  ({ s with pressure := p }.pressureMoved s.pressure.level p.level free).releaseAsked p.level

/-- R81: a parameter change installs the values, sets both counters to 0 and makes one evaluation. -/
def State.pressureChange (s : State) (p : PressureParams) : State :=
  { s with pressure := { s.pressure with params := p, enter := 0, exit := 0 } }.evaluate

end Sys2Proof.Machine
end

