-- ==== Sys2Proof/Machine/Store.lean ====
section
/-! DEFINITION. The Page Store (spec/01_documents_pages_and_the_page_store.md, sections 1.1 to 1.3): the free
block list, page records, and the block operations of the memory port. -/

namespace Sys2Proof.Machine

open Sys2Proof.Config

/-! ### The free block list (R2) -/

/-- R2: a release appends the blocks at the tail; a release of no block is none (R12, R21). -/
def State.releaseBlocks (s : State) (blocks : List Nat) : State :=
  if blocks.isEmpty then s else { s with store := { s.store with free := s.store.free ++ blocks } }.evaluate

/-- R5: the write of a buffer of a channel into the first free block, for a page record; none where no block is
free (R3). The evaluation follows the allocation. -/
def State.beginWrite (s : State) (ch : Nat) (buf : BufId) (r : Nat) (x : PageRecord) : Option State :=
  match s.store.free with
  | [] => none
  | b :: rest =>
    some { s with store := { s.store with
      free := rest
      records := tablePut r { x with blocks := x.blocks ++ [b] } s.store.records
      port := s.store.port ++ [PortOp.write ch buf r b] } }.evaluate

/-! ### Page records (R8, R9, R12) -/

/-- R8: the free record with the lowest index. -/
def State.freeRecord (s : State) : Option Nat := lowestFree recordCount 0 s.store.records

/-- R9: a record at its allocation. -/
def PageRecord.fresh (slot number resends : Nat) (res : Resolution) (width : Width) : PageRecord :=
  { slot := slot, number := number, blocks := [], length := 0, res := res, width := width, finish := none,
    resends := resends, sends := 0 }

/-- The blocks of a page record, in block-list order. -/
def State.blocksOf (s : State) (r : Nat) : List Nat := ((s.record r).map PageRecord.blocks).getD []

/-- The record returned to the pool. -/
def State.dropRecord (s : State) (r : Nat) : State :=
  { s with store := { s.store with records := tableDel r s.store.records } }

/-- R12: a page discarded: its blocks released as one release, its record returned. -/
def State.discardPage (s : State) (r : Nat) : State := (s.dropRecord r).releaseBlocks (s.blocksOf r)

/-- Whether a block write of a channel for a page record is in flight. -/
def State.writing (s : State) (ch r : Nat) : Bool :=
  s.store.port.any (fun o => match o with
    | .write c _ x _ => c == ch && x == r
    | .read _ _ _ _ _ => false)

/-- R4, R6: a lane's request for one block of a page record, by its position from 1. -/
def State.beginRead (s : State) (lane record pos receipt : Nat) : State :=
  { s with store := { s.store with
    port := s.store.port ++ [PortOp.read lane record pos ((s.blocksOf record).getD (pos - 1) 0) receipt] } }

/-! ### Block operations at the memory port -/

/-- What a block that has not been written since the reset carries (R1; its check value is log 10). -/
def Block.unwritten : Block := { used := 0, check := crc16 [] }

def State.block (s : State) (b : Nat) : Block := (tableGet b s.store.blocks).getD Block.unwritten

/-- R4: the operation at the head of the port queue has completed. -/
def State.portDone (s : State) : State :=
  { s with store := { s.store with port := s.store.port.tail } }

/-- R5, R6: the bytes stored in the block, its used length and its check value. -/
def State.storeBlock (s : State) (b : Nat) (bytes : List Byte) : State :=
  { s with store := { s.store with
    mem := Memory.writeBlock b bytes s.store.mem
    blocks := tablePut b { used := bytes.length, check := crc16 bytes } s.store.blocks } }

/-- R7: cells of a block that have lost what was written (log 9). -/
def State.decayBlock (s : State) (b : Nat) (cells : List (Nat × Byte)) : State :=
  { s with store := { s.store with mem := Memory.decay b cells s.store.mem } }

/-- R6: the used bytes of a block. -/
def State.blockBytesOf (s : State) (b : Nat) : List Byte :=
  Memory.readRun (b * blockBytes) (s.block b).used s.store.mem

/-- R6: PASS where the CRC-16 over the used bytes equals the stored check value. -/
def State.blockPasses (s : State) (b : Nat) : Bool := crc16 (s.blockBytesOf b) == (s.block b).check

/-- R10: a write completion adds its bytes to the page's byte length. -/
def State.growRecord (s : State) (r n : Nat) : State :=
  match s.record r with
  | none => s
  | some x => s.setRecord r { x with length := x.length + n }

/-- R187: the free page-record count. -/
def State.freeRecords (s : State) : Nat := recordCount - s.store.records.length

end Sys2Proof.Machine
end

