-- ==== Sys2Proof/Machine/Mailbox.lean ====
section
/-! DEFINITION. The Mailbox Unit (spec/06_mailboxes_and_delivery_order.md): pages held, the class segments of a
queue, and candidate reports. -/

namespace Sys2Proof.Machine

open Sys2Proof.Config

/-- R102: pages held of a department mailbox raised; mailbox 64 holds none. -/
def State.heldUp (s : State) (m n : Nat) : State :=
  if m < mailboxCount then s.setBox m { s.box m with held := (s.box m).held + n } else s

/-- R102: pages held of a department mailbox lowered. -/
def State.heldDown (s : State) (m n : Nat) : State :=
  if m < mailboxCount then s.setBox m { s.box m with held := (s.box m).held - n } else s

/-- R103: whether the document of a slot stands in the URGENT segment. -/
def State.urgent (s : State) (slot : Nat) : Bool :=
  match s.doc slot with
  | none => false
  | some d => d.cls == .urgent

/-- R104: a queue with a document at the tail of its class segment. -/
def State.atTail (s : State) (slot : Nat) (queue : List Nat) : List Nat :=
  if s.urgent slot then queue.takeWhile s.urgent ++ slot :: queue.dropWhile s.urgent else queue ++ [slot]

/-- R105: a queue with a document at the head of its class segment. -/
def State.atHead (s : State) (slot : Nat) (queue : List Nat) : List Nat :=
  if s.urgent slot then slot :: queue else queue.takeWhile s.urgent ++ slot :: queue.dropWhile s.urgent

/-- R107: a candidate report where a department mailbox has another document as its head than before. -/
def State.headReport (s : State) (m : Nat) (before after : Option Nat) : State :=
  if m < mailboxCount && after.isSome && after != before then s.trigger (.candidate m) else s

/-- R107: a candidate report where a department mailbox's delivering flag becomes yes. -/
def State.flagReport (s : State) (m : Nat) (before : Bool) : State :=
  if m < mailboxCount && !before then s.trigger (.candidate m) else s

/-- R107: whether uptime has yet to reach the not-before of a document that becomes the head. -/
def State.waits (s : State) (head : Option Nat) : Bool :=
  ((head.bind s.doc).bind Doc.notBefore).any (fun due => decide (s.mgmt.uptime < due))

/-- A queue changed, with the candidate report of R107, and the record of a not-before that lies ahead of a new head. -/
def State.setQueue (s : State) (m : Nat) (queue : List Nat) : State :=
  let b := s.box m
  let ahead := if queue.head? = b.queue.head? then b.ahead else s.waits queue.head?
  (s.setBox m { b with queue := queue, ahead := ahead }).headReport m b.queue.head? queue.head?

/-- R104: a document placed at the tail of its class segment. -/
def State.queueTail (s : State) (m slot : Nat) : State := s.setQueue m (s.atTail slot (s.box m).queue)

/-- R105: a document returned to the head of its class segment. -/
def State.queueHead (s : State) (m slot : Nat) : State := s.setQueue m (s.atHead slot (s.box m).queue)

/-- R106: a document removed from a queue. -/
def State.unqueue (s : State) (m slot : Nat) : State :=
  s.setQueue m ((s.box m).queue.filter (fun x => x != slot))

/-- R63: whether a department mailbox takes a call; mailbox 64 always does. -/
def State.takes (s : State) (m : Nat) : Bool :=
  if m = quarantine then true
  else match s.mailRow m with
    | none => false
    | some row => (s.box m).accepting && (s.box m).held < row.quota

/-- R173: the flags of mailboxes that a swap has brought into use or taken out of use. A delivering flag that becomes
yes makes its candidate report (R107, R109; log 37). -/
def State.openBoxes (s : State) (ms : List Nat) : State :=
  match ms with
  | [] => s
  | m :: t =>
    ((s.setBox m { s.box m with accepting := true, delivering := true }).flagReport m (s.box m).delivering).openBoxes t

end Sys2Proof.Machine
end

