-- ==== Sys2Proof/Machine/Documents.lean ====
section
/-! DEFINITION. The Document Table (spec/01_documents_pages_and_the_page_store.md, sections 1.4 and 1.5): claims,
creation, freeing, retention, and what other blocks ask of a record. -/

namespace Sys2Proof.Machine

open Sys2Proof.Config

/-- R13: the lowest FREE slot claimed for a channel. -/
def State.claimSlot (s : State) (ch : Nat) : Option (Nat × State) :=
  match lowestFree slotCount 0 s.docs.slots with
  | none => none
  | some slot => some (slot, { s with docs := { s.docs with slots := tablePut slot (.claimed ch) s.docs.slots } })

/-- A slot made FREE: a claim dropped (R13), or the end of a record (R21). -/
def State.freeSlot (s : State) (slot : Nat) : State :=
  { s with docs := { s.docs with slots := tableDel slot s.docs.slots } }

/-- R14: the counter after it has assigned a number. -/
def nextNumber (n : Nat) : Option Nat := if n < max32 then some (n + 1) else none

/-- R187: the free document-slot count. -/
def State.freeSlots (s : State) : Nat := slotCount - s.docs.slots.length

/-- The blocks of a document, page by page, each in block-list order (R2). -/
def State.docBlocks (s : State) (pages : List Nat) : List Nat := pages.flatMap s.blocksOf

/-- The page records of a document returned to the pool. -/
def State.dropRecords (s : State) (pages : List Nat) : State :=
  { s with store := { s.store with records := s.store.records.filter (fun e => !pages.contains e.1) } }

/-- R21 step 1: pages held lowered for a document freed in RECEIVING, QUEUED or HELD, or in DELIVERING by
DOC_PURGE; a QUEUED document removed from its queue. -/
def State.leaveMailbox (s : State) (slot : Nat) (d : Doc) (purged : Bool) : State :=
  match d.state with
  | .receiving => s.heldDown d.current d.pages.length
  | .queued => (s.heldDown d.current d.pages.length).unqueue d.current slot
  | .held => s.heldDown d.current d.pages.length
  | .delivering => if purged then s.heldDown d.current d.pages.length else s
  | .retained => s

/-- R21: a document freed. -/
def State.freeDoc (s : State) (slot : Nat) (d : Doc) (purged : Bool) : State :=
  (((s.leaveMailbox slot d purged).dropRecords d.pages).releaseBlocks (s.docBlocks d.pages)).freeSlot slot

/-! ### Changes of a record asked for by another block -/

/-- A record in use changed; nothing where the slot holds none. -/
def State.updDoc (s : State) (slot : Nat) (f : Doc → Doc) : State :=
  match s.doc slot with
  | none => s
  | some d => s.setDoc slot (f d)

/-- R25, R113: a document becomes HELD. -/
def Doc.toHeld (d : Doc) (reason : HoldReason) : Doc := { d with state := .held, hold := some reason }

/-- R153: acknowledged-through 0 and no resume point. -/
def Doc.restart (d : Doc) : Doc := { d with ackThrough := 0, resume := none }

/-- R18: a delivered document RETAINED. -/
def Doc.retain (d : Doc) (now : Nat) : Doc :=
  { d with
    state := .retained, expiry := some (now + d.hours * hourMs), ackThrough := 0, resume := none,
    notBefore := none, hold := none }

/-- R169: what a document names: its current and its routed mailbox. -/
def Doc.names (d : Doc) (m : Nat) : Bool := d.current == m || d.routed == m

/-! ### Retention (R19, R20) -/

/-- R20: the RETAINED document with the earliest expiry, and of those the lowest receipt number. -/
def earlier (a b : Nat × Doc) : Nat × Doc :=
  let x := (a.2.expiry.getD 0, a.2.receipt)
  let y := (b.2.expiry.getD 0, b.2.receipt)
  if y.1 < x.1 || (y.1 == x.1 && y.2 < x.2) then b else a

def State.retained (s : State) : List (Nat × Doc) := s.docList.filter (fun e => e.2.state == .retained)

def State.firstRetained (s : State) : Option (Nat × Doc) :=
  match s.retained with
  | [] => none
  | e :: t => some (t.foldl earlier e)

/-- R20, R83: one release request taken by the Document Table. -/
def State.releaseRetained (s : State) : State :=
  match s.firstRetained with
  | none => s
  | some e => s.freeDoc e.1 e.2 false

/-- PRESSURE_RELEASE_REQUEST (R20, R83): the Document Table takes one release request that waits. -/
def execPressureReleaseRequest (s : State) : Host.Outcome State Fault Refusal :=
  act (fun s =>
    if s.waiting.releases = 0 then s
    else { s with waiting := { s.waiting with releases := s.waiting.releases - 1 } }.releaseRetained) s

/-- PRESSURE_PARAMETER_CHANGE (R81): the Pressure Monitor takes the oldest part handed to it. -/
def execPressureParameterChange (s : State) : Host.Outcome State Fault Refusal :=
  act (fun s => match s.waiting.pressureParts with
    | [] => s
    | p :: rest => { s with waiting := { s.waiting with pressureParts := rest } }.pressureChange p) s

/-- RETENTION_EXPIRY (R19): the retention timer of a RETAINED document; the clocks move on to it (log 3). -/
def execRetentionExpiry (receipt : Nat) (s : State) : Host.Outcome State Fault Refusal :=
  act (fun s => match s.docOf receipt with
    | none => s
    | some e =>
      match e.2.state, expiring e.2.expiry with
      | .retained, some due => (s.advanceTo due).freeDoc e.1 e.2 false
      | _, _ => s) s

/-- NOT_BEFORE_REACHED (R107): uptime reaches the not-before of a department mailbox's head. A not-before that had
passed when the document became the head, or that has been reported, makes no report (log 19). -/
def execNotBeforeReached (m : Nat) (s : State) : Host.Outcome State Fault Refusal :=
  act (fun s =>
    if m < mailboxCount && (s.box m).ahead then
      match ((s.box m).queue.head?.bind s.doc).bind (fun d => expiring d.notBefore) with
      | none => s
      | some due => ((s.advanceTo due).setBox m { s.box m with ahead := false }).trigger (.candidate m)
    else s) s

end Sys2Proof.Machine
end

