-- ==== Sys2Proof/Machine/Journal.lean ====
section
/-! DEFINITION. The Receipt Journal (spec/05_the_receipt_journal.md): reservations, entries, the low mark. -/

namespace Sys2Proof.Machine

open Sys2Proof.Config

/-- 5.1: free entries, derived from the two counts. -/
def Journal.free (j : Journal) : Nat := journalRoom - (j.log.length + j.reserved)

/-- R95: JOURNAL_LOW is raised, and disarmed, where free entries is below the low mark while armed. -/
def State.lowTest (s : State) : State :=
  let j := s.journal
  if j.free < j.lowMark && j.lowArmed then
    { s with journal := { j with lowArmed := false } }.raise .journal
      (.journalLow j.free j.lowMark j.log.length j.reserved)
  else s

/-- R88: whether a reservation is granted. -/
def Journal.roomy (j : Journal) : Bool := j.log.length + j.reserved < journalRoom

/-- R88, R95: a granted reservation, and the test of the condition. -/
def State.reserve (s : State) : State :=
  { s with journal := { s.journal with reserved := s.journal.reserved + 1 } }.lowTest

/-- R89: a refused reservation is counted. -/
def State.countUnrecorded (s : State) : State :=
  { s with journal := { s.journal with unrecorded := bump max16 s.journal.unrecorded } }

/-- R90: a reserved entry written at the tail of the log. -/
def State.writeEntry (s : State) (e : Entry) : State :=
  { s with journal := { s.journal with log := s.journal.log ++ [e], reserved := s.journal.reserved - 1 } }

/-- R66: the entry of a refused call. -/
def refusedEntry (ch : Nat) (d : Decision) (now : TimeOfDay) (cause : Cause) (routeGen : Option Nat)
    (screening : ScreenResult) : Entry :=
  { receipt := none, channel := ch, openTime := d.openTime, closeTime := now, called := d.called,
    caller := d.caller, station := none, outcome := .refused, cause := cause, pages := 0, damaged := 0,
    mailbox := none, routeGen := routeGen, screening := screening }

/-- R93: the outcome of a close entry. -/
def closeOutcome (d : Doc) : JournalOutcome :=
  if d.incomplete || d.pages.isEmpty then .receivedIncomplete else .received

/-- R92: the entry of an answered call, from the document as it stands after its close. -/
def closeEntry (ch : Nat) (d : Doc) (cause : Cause) : Entry :=
  { receipt := some d.receipt, channel := ch, openTime := d.openTime, closeTime := d.closeTime.getD ⟨0, 0⟩,
    called := d.called, caller := d.caller, station := d.station, outcome := closeOutcome d, cause := cause,
    pages := d.pages.length, damaged := d.damaged, mailbox := some d.current, routeGen := some d.routeGen,
    screening := d.screening }

/-- R96: a new low mark installed and tested against the present free entries. -/
def State.installLowMark (s : State) (mark : Nat) : State :=
  let j := { s.journal with lowMark := mark }
  if mark ≤ j.free then { s with journal := { j with lowArmed := true } }
  else { s with journal := j }.lowTest

/-- LOW_MARK_INSTALL (R96): the Receipt Journal takes the oldest mark handed to it. -/
def execLowMarkInstall (s : State) : Host.Outcome State Fault Refusal :=
  act (fun s => match s.waiting.lowMarks with
    | [] => s
    | mark :: rest => { s with waiting := { s.waiting with lowMarks := rest } }.installLowMark mark) s

end Sys2Proof.Machine
end

