-- ==== Sys2Proof/Machine/Line.lean ====
section
/-! DEFINITION. The Line Port (spec/02_the_line_port_and_call_handling.md, section 2.1): the link state, the
link silence timer, the error count and the outgoing frames. -/

namespace Sys2Proof.Machine

open Sys2Proof.Config

/-- R27: a good frame makes a DOWN link UP, raises LINE_LINK_CHANGED, and starts the link silence timer. -/
def State.lineGood (s : State) : State :=
  let up := { s with line := { s.line with link := .up, silence := some (s.after linkSilence) } }
  match s.line.link with
  | .up => up
  | .down => up.raise .linePort (.lineLinkChanged .up)

/-- R28: a frame that is not good is counted and reaches nothing. -/
def State.lineBad (s : State) : State :=
  { s with line := { s.line with errors := bump max16 s.line.errors } }

/-- R30: whether the Line Port discards a frame handed to it: every frame while the link is DOWN. R50: also the
ANSWER of a decision that was under way when the link went DOWN, although a later frame has made the link UP (log 5);
every other frame handed while the link is UP is sent. -/
def State.lineDiscards (s : State) (ch : Nat) (body : LineBody) : Bool :=
  match s.line.link, body with
  | .down, _ => true
  | .up, .answer _ => (s.channel ch).loss
  | .up, .refuse _ => false
  | .up, .drop _ => false
  | .up, .confirm _ => false

/-- R30: a frame handed to the Line Port: discarded, or the newest of the outgoing frame queue. -/
def State.sendLine (s : State) (ch : Nat) (body : LineBody) : State :=
  if s.lineDiscards ch body then s
  else { s with line := { s.line with queue := s.line.queue ++ [{ channel := ch, body := body }] } }

/-- LINK_ALIVE (R29): the Line Port takes it itself. -/
def execLinkAlive (s : State) : Host.Outcome State Fault Refusal := act State.lineGood s

/-- BAD_LINE_FRAME (R28). -/
def execBadLineFrame (s : State) : Host.Outcome State Fault Refusal := act State.lineBad s

/-- R27, R30, R50: the link goes DOWN: the timer stops, the waiting frames are discarded, the change is raised,
and every channel has the loss to take as an event of its own. -/
def State.lineDown (s : State) : State :=
  { s with
    line := { s.line with link := .down, silence := none, queue := [] }
    calls := { s.calls with channels := s.calls.channels.map (fun c : Channel => { c with loss := true }) }
  }.raise .linePort (.lineLinkChanged .down)

/-- LINE_SILENCE_EXPIRY (R27). -/
def execLineSilenceExpiry (s : State) : Host.Outcome State Fault Refusal :=
  act (fun s => match expiring s.line.silence with
    | none => s
    | some due => (s.advanceTo due).lineDown) s

/-- LINE_FRAME_SENT (R30): the oldest frame handed has left the link (log 16). -/
def execLineFrameSent (s : State) : Host.Outcome State Fault Refusal :=
  act (fun s => match s.line.queue with
    | [] => s
    | f :: rest => { s with line := { s.line with queue := rest, output := some f } }) s

end Sys2Proof.Machine
end

