-- ==== Sys2Proof/Machine/Answer.lean ====
section
/-! DEFINITION. The answer decision and the two screenings (spec/03_routing_screening_and_the_answer_decision.md).
A decision is run act by act: steps 1 to 6 of R53, the resolution (R58), the answering step (R67). -/

namespace Sys2Proof.Machine

open Sys2Proof.Config

/-! ### Matching (R59, R61, R69) -/

/-- Whether the first string is a leading part of the second. -/
def leads (stem s : Str) : Bool :=
  match stem, s with
  | [], _ => true
  | _ :: _, [] => false
  | a :: t, b :: u => a == b && leads t u

/-- The longer of two optional winners; the first of equals. -/
def longer {α : Type} (key : α → Str) (best : Option α) (e : α) : Option α :=
  match best with
  | none => some e
  | some b => if (key b).length < (key e).length then some e else some b

/-- The entry whose key is the longest leading part of a string. -/
def bestLead {α : Type} (key : α → Str) (s : Str) (l : List α) : Option α :=
  (l.filter (fun e => leads (key e) s)).foldl (longer key) none

/-- R69: a station string without its trailing spaces (character code 32). -/
def trim (s : Str) : Str := (s.reverse.dropWhile (fun c => c == 32)).reverse

/-- R59: the winning CALLER entry; none where the identity is absent. -/
def callerMatch (l : List ScreenEntry) (caller : Option Str) : Option ScreenEntry :=
  match caller with
  | none => none
  | some id => bestLead ScreenEntry.str id (l.filter (fun e => e.kind == .caller))

/-- R61: the winning route. -/
def routeMatch (l : List RouteEntry) (called : Str) : Option RouteEntry := bestLead RouteEntry.stem called l

/-- R69: the matching STATION entry. -/
def stationMatch (l : List ScreenEntry) (id : Str) : Option ScreenEntry :=
  l.find? (fun e => e.kind == .station && trim e.str == trim id)

/-! ### The resolution (R58 to R64) -/

/-- What a resolution hands back: a placement, or a refusal with the route generation and the caller-stage
result that its entry carries (R66). -/
inductive Resolved
  | placed (p : Placement)
  | refused (cause : Cause) (routeGen : Option Nat) (screening : ScreenResult)
deriving DecidableEq, Repr

/-- R60: the caller-stage result. -/
def callerResult (m : Option ScreenEntry) : ScreenResult :=
  match m with
  | none => .none
  | some e => match e.action with
    | .accept => .accept
    | .quarantine => .quarantine
    | .redirect => .redirect
    | .refuse => .none

/-- R60: the candidate mailbox. -/
def candidateBox (m : Option ScreenEntry) (routed : Nat) : Nat :=
  match m with
  | none => routed
  | some e => match e.action with
    | .quarantine => quarantine
    | .redirect => e.target.getD routed
    | _ => routed

/-- R64: the cause that describes a mailbox that did not take the call. -/
def State.boxCause (s : State) (m : Nat) : Cause :=
  if (s.mailRow m).isSome && (s.box m).accepting then .mailboxFull else .mailboxClosed

/-- R64: the mailbox of the overflow step. -/
def State.overflowBox (s : State) (m : Nat) : Option Nat := (s.mailRow m).bind MailRow.overflow

/-- R63, R64: the final mailbox, or the cause of the refusal at step 10. -/
def State.place (s : State) (m : Nat) : Except Cause Nat :=
  if s.takes m then .ok m
  else match s.overflowBox m with
    | none => .error (s.boxCause m)
    | some o => if s.takes o then .ok o else .error (s.boxCause o)

/-- R58: steps 7 to 10 as one event. -/
def State.resolve (s : State) (called : Str) (caller : Option Str) : Resolved :=
  let m := callerMatch s.tables.screening.live caller
  let gen := s.tables.routing.generation
  if m.any (fun e => e.action == .refuse) then .refused .screened none .none
  else match routeMatch s.tables.routing.live called with
    | none => .refused .noRoute (some gen) (callerResult m)
    | some r =>
      if s.pressure.level = .tight && r.shed then .refused .storeTight (some gen) (callerResult m)
      else match s.place (candidateBox m r.mailbox) with
        | .error cause => .refused cause (some gen) (callerResult m)
        | .ok final => .placed { routed := r.mailbox, final := final, cls := r.cls, hours := r.hours,
                                 routeGen := gen, screening := callerResult m }

/-! ### Refusal and answer -/

/-- R66 step 1: a claim dropped. -/
def State.dropClaim (s : State) (claim : Option Nat) : State :=
  match claim with
  | none => s
  | some slot => s.freeSlot slot

/-- R33, R54, R66: a decision ends in a refusal. -/
def State.refuse (s : State) (ch : Nat) (d : Decision) (cause : Cause) (routeGen : Option Nat)
    (screening : ScreenResult) : State :=
  let s := s.dropClaim d.claim
  let s := if d.reserved then s.writeEntry (refusedEntry ch d s.mgmt.tod cause routeGen screening) else s
  ((s.setChannel ch { s.channel ch with decision := none }).sendLine ch (.refuse cause)).raise .callController
    (.callRefused ch d.called cause)

/-- R15, R68: the document record at its creation. -/
def createdDoc (ch receipt : Nat) (d : Decision) (p : Placement) : Doc :=
  { receipt := receipt, state := .receiving, channel := some ch, called := d.called, caller := d.caller,
    station := none, routed := p.routed, current := p.final, cls := p.cls, hours := p.hours,
    routeGen := p.routeGen, screening := p.screening, openTime := d.openTime, closeTime := none, pages := [],
    incomplete := false, damaged := 0, hold := none, attempts := 0, notBefore := none, ackThrough := 0,
    resume := none, expiry := none }

/-- R49: when the silence timer of a channel expires if it starts now. -/
def State.silenceDue (s : State) : Nat := s.after (s.calls.silenceTimeout * 1000)

/-- R33, R67: the call is answered. -/
def State.answerCall (s : State) (ch slot receipt : Nat) (d : Decision) (p : Placement) : State :=
  let s := { s with docs := { slots := tablePut slot (.inUse (createdDoc ch receipt d p)) s.docs.slots,
                              counter := nextNumber receipt } }
  (s.setChannel ch { s.channel ch with
      state := .answered, doc := some slot, resends := 0, decision := none, silence := some s.silenceDue
    }).sendLine ch (.answer receipt)

/-- R67: the answering step: intake OPEN, level not CRITICAL, counter not exhausted, in this order. -/
def State.answeringStep (s : State) (ch slot : Nat) (d : Decision) (p : Placement) : State :=
  let no := fun cause => s.refuse ch d cause (some p.routeGen) p.screening
  match s.mgmt.intake with
  | .closed => no .intakeClosed
  | .draining => no .draining
  | .opened =>
    if s.pressure.level = .critical then no .storeCritical
    else match s.docs.counter with
      | none => no .numbersExhausted
      | some receipt => s.answerCall ch slot receipt d p

/-! ### The decision, act by act (R53) -/

def State.setDecision (s : State) (ch : Nat) (d : Option Decision) : State :=
  s.setChannel ch { s.channel ch with decision := d }

/-- The act a decision makes next. A refusal at steps 1 to 4 writes no entry, since no reservation is held. -/
def State.decisionAct (s : State) (ch : Nat) (d : Decision) : State :=
  match d.next with
  | .enabled =>
    if (s.channel ch).enabled then s.setDecision ch (some { d with next := .intake })
    else s.refuse ch d .channelDisabled none .none
  | .intake =>
    match s.mgmt.intake with
    | .opened => s.setDecision ch (some { d with next := .numbers })
    | .closed => s.refuse ch d .intakeClosed none .none
    | .draining => s.refuse ch d .draining none .none
  | .numbers =>
    if s.docs.counter.isSome then s.setDecision ch (some { d with next := .reserve })
    else s.refuse ch d .numbersExhausted none .none
  | .reserve =>
    if s.journal.roomy then s.reserve.setDecision ch (some { d with next := .pressure, reserved := true })
    else s.countUnrecorded.refuse ch d .journalFull none .none
  | .pressure =>
    if s.pressure.level = .critical then s.refuse ch d .storeCritical none .none
    else s.setDecision ch (some { d with next := .claim })
  | .claim =>
    match s.claimSlot ch with
    | none => s.refuse ch d .noDocumentSlot none .none
    | some (slot, s') => s'.setDecision ch (some { d with next := .resolve, claim := some slot })
  | .resolve =>
    match s.resolve d.called d.caller with
    | .refused cause routeGen screening => s.refuse ch d cause routeGen screening
    | .placed p => s.setDecision ch (some { d with next := .answer, placement := some p })
  | .answer =>
    match d.claim, d.placement with
    | some slot, some p => s.answeringStep ch slot d p
    | _, _ => s.refuse ch d .noDocumentSlot none .none

/-- A decision carried on, at most `n` acts, to its end or up to just before an act (log 4). -/
def State.decisionRun (s : State) (ch : Nat) (stop : DecisionStop) (n : Nat) : State :=
  match n with
  | 0 => s
  | n + 1 =>
    match (s.channel ch).decision with
    | none => s
    | some d => if stop = .before d.next then s else (s.decisionAct ch d).decisionRun ch stop n

/-- A decision has at most eight acts. -/
def State.decideOn (s : State) (ch : Nat) (stop : DecisionStop) : State := s.decisionRun ch stop 8

/-- R53: the decision a CALL_OPEN starts. -/
def Decision.start (called : Str) (caller : Option Str) (now : TimeOfDay) : Decision :=
  { called := called, caller := caller, openTime := now, next := .enabled, reserved := false, claim := none,
    placement := none }

end Sys2Proof.Machine
end

