-- ==== Sys2Proof/Machine/Operands.lean ====
section
/-! DEFINITION. The operand checks of the commands: which values a frame's or a request's fields may take
(R196, R197, and the limits each request's rule names). -/

namespace Sys2Proof.Machine

open Sys2Proof.Config

/-- Section 11.1: a digit (48 to 57), star (42) or hash (35). -/
def isDigitChar (c : Nat) : Bool := (48 ≤ c && c ≤ 57) || c == 42 || c == 35

/-- Section 11.1: a printable character, 32 to 126. -/
def isPrintable (c : Nat) : Bool := 32 ≤ c && c ≤ 126

/-- A digit string: 0 to 16 characters (Conventions). -/
def digitsOk (s : Str) : Bool := s.length ≤ 16 && s.all isDigitChar

/-- A station string: 0 to 20 printable characters (Conventions). -/
def stationOk (s : Str) : Bool := s.length ≤ 20 && s.all isPrintable

/-- `lo ≤ n ≤ hi`. -/
def within (lo hi n : Nat) : Bool := lo ≤ n && n ≤ hi

/-- An optional value is absent or passes the check. -/
def optionOk {α : Type} (ok : α → Bool) (o : Option α) : Bool :=
  match o with
  | none => true
  | some x => ok x

/-- R196: the channel of a line frame. -/
def channelOk (ch : Nat) : Bool := ch < channelCount

/-- R197: the source of a delivery frame. -/
def pointOk (p : Nat) : Bool := within 1 pointCount p

/-- R196: the fields of a CALL_OPEN. -/
def callOpenOk (ch : Nat) (part : CallOpenPart) : Bool :=
  match part with
  | .frame called caller _ => channelOk ch && digitsOk called && optionOk digitsOk caller
  | .onward _ => channelOk ch

/-- R196: the fields of a SENDER_INFO. -/
def senderInfoOk (ch : Nat) (ident : Str) : Bool := channelOk ch && stationOk ident

/-- R196: the fields of a PAGE_START. -/
def pageStartOk (ch page : Nat) : Bool := channelOk ch && within 1 pageLimit page

/-- Section 11.2: the fields of a line PAGE_DATA. -/
def pageDataOk (ch seq : Nat) (payload : List Byte) : Bool :=
  channelOk ch && seq ≤ 255 && within 1 payloadBytes payload.length

/-- Section 2.1: the fields of a PAGE_END. -/
def pageEndOk (ch lines errs : Nat) : Bool := channelOk ch && lines ≤ max16 && errs ≤ max16

/-- R197: a receipt number in ACCEPT or DECLINE is 1 or more; it is a 4-byte field. -/
def receiptOk (r : Nat) : Bool := within 1 max32 r

/-- R197, section 11.1: a slot id is one byte. -/
def slotOk (s : Nat) : Bool := s ≤ 255

/-- R197, section 11.1: a capacity is 1 to 16,777,215. -/
def capacityOk (c : Nat) : Bool := within 1 16777215 c

/-- Section 9.1: a routing entry's fields lie in their ranges (R162). -/
def routeOk (e : RouteEntry) : Bool := digitsOk e.stem && e.mailbox < mailboxCount && e.hours ≤ 720

/-- Section 9.1: a screening key's match string lies in its range (R162). -/
def screenStrOk (k : MatchKind) (s : Str) : Bool :=
  match k with
  | .caller => digitsOk s
  | .station => stationOk s

/-- Section 9.1: a screening entry's fields lie in their ranges; relations between them are COMMIT's (R162). -/
def screenOk (e : ScreenEntry) : Bool :=
  screenStrOk e.kind e.str && optionOk (fun t => decide (t < mailboxCount)) e.target

/-- Section 9.1: a mailbox row's fields lie in their ranges (R162). -/
def mailRowOk (e : Nat × MailRow) : Bool :=
  e.1 < mailboxCount && within 1 pointCount e.2.primary && optionOk (within 1 pointCount) e.2.alternate
    && within 1 blockCount e.2.quota && optionOk (fun t => decide (t < mailboxCount)) e.2.overflow

/-- Section 9.1: a point row's fields lie in their ranges (R162). -/
def pointPutOk (e : Nat × PointPut) : Bool :=
  within 1 pointCount e.1 && optionOk (within 1 30) e.2.accept && optionOk (within 1 60) e.2.ack
    && optionOk (within 5 120) e.2.wait && optionOk (within 1 16) e.2.maxSlots

/-- R162: 1 to 8 entries, each with its fields in range. -/
def stageEntriesOk (es : StageEntries) : Bool :=
  match es with
  | .routing l => within 1 8 l.length && l.all routeOk
  | .screening l => within 1 8 l.length && l.all screenOk
  | .mailbox l => within 1 8 l.length && l.all mailRowOk
  | .point l => within 1 8 l.length && l.all pointPutOk

/-- R163: the length limit of a match string as a key. -/
def screenKeyOk (k : MatchKind × Str) : Bool :=
  match k.1 with
  | .caller => k.2.length ≤ 16
  | .station => k.2.length ≤ 20

/-- R163: 1 to 8 keys, each of a form inside its limits. -/
def stageKeysOk (ks : StageKeys) : Bool :=
  match ks with
  | .routing l => within 1 8 l.length && l.all (fun k => decide (k.length ≤ 16))
  | .screening l => within 1 8 l.length && l.all screenKeyOk
  | .mailbox l => within 1 8 l.length && l.all (fun k => decide (k < mailboxCount))
  | .point l => within 1 8 l.length && l.all (within 1 pointCount)

/-- R75: the pressure fields, judged among the values the request carries. -/
def pressureFieldsOk (p : ParamFields) : Bool :=
  within 1 blockCount p.tight && p.critical < blockCount && p.critical < p.tight
    && p.hysteresis ≤ 4096 && p.tight + p.hysteresis ≤ blockCount
    && p.enterDebounce ≤ 15 && p.exitDebounce ≤ 15

/-- R183: every value in its range; mode code 1 or 2; no mask for RESTARTED (bit 14) nor for no kind (bit 15). -/
def paramFieldsOk (p : ParamFields) : Bool :=
  within 5 60 p.silence && pressureFieldsOk p && p.lowMark ≤ journalRoom
    && within 1 2 p.mode && !p.masks.getLsbD 14 && !p.masks.getLsbD 15

/-- R189: a name CLEAR_FLAGS may carry: a notice kind but RESTARTED (1 to 14), or one of 17 to 21. -/
def clearNameOk (n : Nat) : Bool := within 1 14 n || within 17 21 n

/-- R189: 1 to 24 names, each known and none RESTARTED. -/
def clearNamesOk (ns : List Nat) : Bool := within 1 24 ns.length && ns.all clearNameOk

end Sys2Proof.Machine
end

