-- ==== Sys2Proof/Machine/Channel.lean ====
section
/-! DEFINITION. The channel contexts of the Call Controller (spec/02_the_line_port_and_call_handling.md): what a
channel does with each frame, each timer and each write completion, page assembly, DROP and the close. -/

namespace Sys2Proof.Machine

open Sys2Proof.Config

/-! ### Buffers (section 2.2, R37) -/

def Channel.buf (c : Channel) (b : BufId) : Buffer := match b with | .first => c.bufA | .second => c.bufB

def Channel.setBuf (c : Channel) (b : BufId) (x : Buffer) : Channel :=
  match b with | .first => { c with bufA := x } | .second => { c with bufB := x }

def BufId.other (b : BufId) : BufId := match b with | .first => .second | .second => .first

/-- R37: the filling buffer with the bytes it holds; none when both are WRITING. -/
def Channel.filling (c : Channel) : Option (BufId × List Byte) :=
  match c.bufA, c.bufB with
  | .filling x, _ => some (.first, x)
  | _, .filling x => some (.second, x)
  | .empty, _ => some (.first, [])
  | _, .empty => some (.second, [])
  | _, _ => none

/-- R37: the space left. -/
def Channel.spaceLeft (c : Channel) : Nat :=
  match c.filling with
  | none => 0
  | some (b, x) => blockBytes - x.length + (if c.buf (BufId.other b) = .empty then blockBytes else 0)

/-- R45 step 5: a FILLING buffer becomes EMPTY, a WRITING one stays. -/
def Buffer.abandon (b : Buffer) : Buffer := match b with | .writing x => .writing x | _ => .empty

/-- The bytes of a buffer. -/
def Buffer.bytes (b : Buffer) : List Byte :=
  match b with | .empty => [] | .filling x => x | .writing x => x

def State.setBuf (s : State) (ch : Nat) (b : BufId) (x : Buffer) : State :=
  s.setChannel ch ((s.channel ch).setBuf b x)

/-! ### Giving up a page, DROP, and the close (section 2.5) -/

/-- The states in which the silence timer runs (R49). -/
def ChannelState.live (st : ChannelState) : Bool :=
  match st with
  | .idle => false
  | .releasing => false
  | _ => true

/-- The receipt number of a channel's document. -/
def State.receiptOf (s : State) (ch : Nat) : Nat :=
  (((s.channel ch).doc.bind s.doc).map Doc.receipt).getD 0

/-- R12, R45: the page under construction given up: discarded, or held for its writes in flight. -/
def State.giveUp (s : State) (ch : Nat) : State :=
  match (s.channel ch).page with
  | none => s
  | some r =>
    let c := { s.channel ch with page := none, ended := none, mark := false }
    if s.writing ch r then s.setChannel ch { c with discards := c.discards ++ [r] }
    else (s.setChannel ch c).discardPage r

/-- The incomplete flag of a channel's document set. -/
def State.cut (s : State) (ch : Nat) : State :=
  match (s.channel ch).doc with
  | none => s
  | some slot => s.updDoc slot (fun d => { d with incomplete := true })

/-- R47: a channel sends DROP. -/
def State.drop (s : State) (ch : Nat) (cause : Cause) : State :=
  let receipt := s.receiptOf ch
  let s := if (s.channel ch).page.isSome then (s.cut ch).giveUp ch else s
  ((s.setChannel ch { s.channel ch with
      state := .releasing, drop := some cause, silence := none, release := some (s.after releaseTime)
    }).sendLine ch (.drop cause)).raise .callController (.callDropped ch receipt cause)

/-- R17, R92: a document with pages is QUEUED in its current mailbox. -/
def State.queueClosed (s : State) (slot : Nat) (d : Doc) : State :=
  (s.queueTail d.current slot).raise .documentTable
    (if d.current = quarantine then .docQuarantined d.receipt d.current d.pages.length
     else .docQueued d.receipt d.current d.pages.length)

/-- R17, R45 step 4: the document closed and the journal entry written. -/
def State.closeDoc (s : State) (ch slot : Nat) (d : Doc) (cause : Cause) (cut : Bool) : State :=
  let d := { d with closeTime := some s.mgmt.tod, channel := none, incomplete := d.incomplete || cut }
  if d.pages.isEmpty then (s.writeEntry (closeEntry ch d cause)).freeDoc slot d false
  else
    let d := { d with state := .queued }
    ((s.setDoc slot d).writeEntry (closeEntry ch d cause)).queueClosed slot d

/-- R45 steps 1, 5 and 6: the channel at the end of a close. -/
def Channel.closed (c : Channel) : Channel :=
  { c with
    state := .idle, doc := none, drop := none, page := none, ended := none, mark := false, resends := 0,
    expected := 0, received := 0, bufA := c.bufA.abandon, bufB := c.bufB.abandon, silence := none, release := none }

/-- R51: the all-idle report, made when the busy channel count has fallen to 0. -/
def State.idleReport (s : State) : State :=
  if s.busy = 0 then { s with waiting := { s.waiting with idleReports := s.waiting.idleReports + 1 } } else s

/-- R45: the close of a call completes. -/
def State.closeCall (s : State) (ch : Nat) (cause : Cause) : State :=
  let c := s.channel ch
  let cut := c.page.isSome || c.drop.isSome || cause != .normal
  let s := s.giveUp ch
  let s := match c.doc with
    | none => s
    | some slot => match s.doc slot with
      | none => s
      | some d => s.closeDoc ch slot d cause cut
  (s.setChannel ch (s.channel ch).closed).idleReport

/-- R50: a channel that is not IDLE closes with LINK_LOST. -/
def State.loseLink (s : State) (ch : Nat) : State :=
  if (s.channel ch).state = .idle then s else s.closeCall ch .linkLost

/-- R50: a channel takes a loss of the link that it has not taken yet. -/
def State.takeLoss (s : State) (ch : Nat) : State :=
  if (s.channel ch).loss then (s.setChannel ch { s.channel ch with loss := false }).loseLink ch else s

/-- R29, R50: a decision under way ends first; then a loss of the link that has not been taken is (log 5). -/
def State.settle (s : State) (ch : Nat) : State := (s.decideOn ch .done).takeLoss ch

/-- R50: a decision carried on; where it ends with a loss of the link not yet taken, the channel takes the loss at
once, so that no other event finds the call that was answered meanwhile (log 5). -/
def State.carryOn (s : State) (ch : Nat) (stop : DecisionStop) : State :=
  let t := s.decideOn ch stop
  if (s.channel ch).decision.isSome && (t.channel ch).decision.isNone then t.takeLoss ch else t

/-! ### What every frame shares -/

/-- R49: the silence timer starts again at a good frame in the states in which it runs. -/
def State.restartSilence (s : State) (ch : Nat) : State :=
  if ChannelState.live (s.channel ch).state
  then s.setChannel ch { s.channel ch with silence := some s.silenceDue } else s

/-- R27, R29: a frame for a channel. One whose fields lie outside their ranges is not good (R28; log 6). -/
def State.lineFrame (s : State) (ok : Bool) (ch : Nat) (f : State → State) : State :=
  if ok then f ((s.lineGood.settle ch).restartSilence ch) else s.lineBad

/-- R32: a protocol error of a channel. -/
def State.channelError (s : State) (ch : Nat) : State :=
  s.setChannel ch { s.channel ch with errors := bump max16 (s.channel ch).errors }

/-- R32, R47: a frame not taken in the present state: ignored in RELEASING, a protocol error elsewhere. -/
def State.notTaken (s : State) (ch : Nat) : State :=
  if (s.channel ch).state = .releasing then s else s.channelError ch

/-! ### Opening a call (section 2.3) -/

/-- R33: a CALL_OPEN in IDLE starts the decision; in any other state it is a protocol error. -/
def State.callOpen (s : State) (ch : Nat) (called : Str) (caller : Option Str) (stop : DecisionStop) : State :=
  if (s.channel ch).state = .idle
  then (s.setDecision ch (some (Decision.start called caller s.mgmt.tod))).decideOn ch stop
  else s.channelError ch

/-- CALL_OPEN (R33): the frame, or a further stretch of the decision it started (log 4). -/
def execCallOpen (ch : Nat) (part : CallOpenPart) (s : State) : Host.Outcome State Fault Refusal :=
  act (fun s => match part with
    | .frame called caller stop => s.lineFrame (callOpenOk ch part) ch (fun s => s.callOpen ch called caller stop)
    | .onward stop => s.carryOn ch stop) s

/-- R70: what a matching STATION entry does to the document and its channel. -/
def State.stationAction (s : State) (ch slot : Nat) (d : Doc) (e : ScreenEntry) : State :=
  match e.action with
  | .refuse => s.drop ch .screened
  | .quarantine => s.setDoc slot { d with current := quarantine, screening := .quarantine }
  | .accept => s.setDoc slot { d with current := d.routed, screening := .accept }
  | .redirect =>
    match e.target with
    | none => s
    | some m => if s.takes m then s.setDoc slot { d with current := m, screening := .redirect } else s

/-- R34, R69: the first SENDER_INFO of an answered call. -/
def State.senderInfo (s : State) (ch : Nat) (ident : Str) : State :=
  match (s.channel ch).state, (s.channel ch).doc with
  | .answered, some slot =>
    match s.doc slot with
    | none => s.channelError ch
    | some d =>
      if d.station.isSome then s.channelError ch
      else
        let d := { d with station := some ident }
        let s := s.setDoc slot d
        match stationMatch s.tables.screening.live ident with
        | none => s
        | some e => s.stationAction ch slot d e
  | _, _ => s.notTaken ch

/-- SENDER_INFO (R34). -/
def execSenderInfo (ch : Nat) (ident : Str) (s : State) : Host.Outcome State Fault Refusal :=
  act (fun s => s.lineFrame (senderInfoOk ch ident) ch (fun s => s.senderInfo ch ident)) s

/-! ### Receiving pages (section 2.4) -/

/-- R35 case 4: the page record becomes the page under construction. -/
def State.beginPage (s : State) (ch r slot page : Nat) (res : Resolution) (width : Width) : State :=
  let c := s.channel ch
  (s.setRecord r (PageRecord.fresh slot page c.resends res width)).setChannel ch
    { c with state := .receivingPage, page := some r, mark := false, ended := none, expected := 0, received := 0 }

/-- R35: a PAGE_START in ANSWERED or BETWEEN_PAGES, case by case. -/
def State.pageStart (s : State) (ch page : Nat) (res : Resolution) (width : Width) : State :=
  let c := s.channel ch
  if c.state = .answered ∨ c.state = .betweenPages then
    match c.doc.bind (fun slot => (s.doc slot).map (fun d => (slot, d.pages.length))) with
    | none => s.channelError ch
    | some (slot, n) =>
      if n = pageLimit then s.drop ch .pageLimit
      else if page ≠ n + 1 then s.channelError ch
      else match s.freeRecord with
        | none => s.drop ch .pagePoolEmpty
        | some r => s.beginPage ch r slot page res width
  else s.notTaken ch

/-- PAGE_START (R35). -/
def execPageStart (ch page : Nat) (res : Resolution) (width : Width) (s : State) :
    Host.Outcome State Fault Refusal :=
  act (fun s => s.lineFrame (pageStartOk ch page) ch (fun s => s.pageStart ch page res width)) s

/-- R5: a buffer handed to the Page Store for the page under construction; none where no block is free. -/
def State.handOver (s : State) (ch : Nat) (b : BufId) (bytes : List Byte) : Option State :=
  match (s.channel ch).page with
  | none => some s
  | some r => match s.record r with
    | none => some s
    | some x => (s.beginWrite ch b r x).map (fun s => s.setBuf ch b (.writing bytes))

/-- R41: a hand-over that finds the free block list empty. -/
def State.storeFull (s : State) (ch : Nat) (b : BufId) : State :=
  (((s.setBuf ch b .empty).giveUp ch).cut ch).drop ch .storeFull

/-- R37: a payload that fits, placed in the buffers. -/
def State.placeBytes (s : State) (ch : Nat) (b : BufId) (held kept : List Byte) : State :=
  let bytes := held ++ kept
  let s := s.setChannel ch { s.channel ch with received := (s.channel ch).received + kept.length }
  if bytes.length < blockBytes then s.setBuf ch b (.filling bytes)
  else match s.handOver ch b (bytes.take blockBytes) with
    | none => s.storeFull ch b
    | some s =>
      if (bytes.drop blockBytes).isEmpty then s
      else s.setBuf ch (BufId.other b) (.filling (bytes.drop blockBytes))

/-- The page mark set. -/
def State.markPage (s : State) (ch : Nat) (m : Bool) : State :=
  s.setChannel ch { s.channel ch with mark := (s.channel ch).mark || m }

/-- R36: the sequence compared and advanced. -/
def State.sequence (s : State) (ch seq : Nat) : State :=
  let c := s.channel ch
  s.setChannel ch { c with mark := c.mark || seq != c.expected, expected := (seq + 1) % 256 }

/-- R37 to R39: the payload cut to the page's length limit, then placed, or lost to an overrun. -/
def State.takePayload (s : State) (ch : Nat) (payload : List Byte) : State :=
  let c := s.channel ch
  let room := pageBytes - c.received
  if room = 0 then s.markPage ch true
  else
    let kept := payload.take room
    let s := s.markPage ch (room < payload.length)
    match c.filling with
    | none => s.markPage ch true
    | some (b, held) => if kept.length ≤ c.spaceLeft then s.placeBytes ch b held kept else s.markPage ch true

/-- R36: a PAGE_DATA in RECEIVING_PAGE before the page's end was taken. -/
def State.pageData (s : State) (ch seq : Nat) (payload : List Byte) : State :=
  if (s.channel ch).state = .receivingPage ∧ (s.channel ch).ended = none
  then (s.sequence ch seq).takePayload ch payload else s.notTaken ch

/-- PAGE_DATA (R36). -/
def execPageData (ch seq : Nat) (payload : List Byte) (s : State) : Host.Outcome State Fault Refusal :=
  act (fun s => s.lineFrame (pageDataOk ch seq payload) ch (fun s => s.pageData ch seq payload)) s

/-- R11: the verdict of a finished page. -/
def pageVerdict (mark : Bool) (v : ModemVerdict) : Verdict :=
  if mark then .damaged else match v with
    | .good => .good
    | .marginal => .marginal
    | .bad => .damaged

/-- R43: the channel once its page is finalized. A buffer that a block of an earlier call is still being written
from stays with that write (R5, R45; log 35). -/
def Channel.pageDone (c : Channel) (resends : Nat) : Channel :=
  { c with
    state := .betweenPages, page := none, ended := none, mark := false, received := 0, bufA := c.bufA.abandon,
    bufB := c.bufB.abandon, resends := resends }

/-- R43, R44: the page asked for again: its blocks released, its record returned. -/
def State.resendPage (s : State) (ch r : Nat) : State :=
  ((s.setChannel ch ((s.channel ch).pageDone ((s.channel ch).resends + 1))).sendLine ch (.confirm .resend)).discardPage r

/-- R11, R43: the page joins its document. -/
def State.joinPage (s : State) (ch r slot : Nat) (x : PageRecord) (f : Finish) : State :=
  let s := (s.setRecord r { x with finish := some f }).setChannel ch ((s.channel ch).pageDone 0)
  let s := s.sendLine ch (.confirm .accepted)
  match s.doc slot with
  | none => s
  | some d =>
    (s.setDoc slot { d with
        pages := d.pages ++ [r], damaged := d.damaged + (if f.verdict = .damaged then 1 else 0)
      }).heldUp d.current 1

/-- R42 to R44: the page under construction finalized. -/
def State.finalize (s : State) (ch : Nat) : State :=
  let c := s.channel ch
  match c.page, c.ended, c.doc with
  | some r, some e, some slot =>
    match s.record r with
    | none => s
    | some x =>
      let verdict := pageVerdict c.mark e.verdict
      if x.length = 0 ∧ 2 ≤ c.resends then (s.cut ch).drop ch .pageEmpty
      else if (x.length = 0 ∨ verdict = .damaged) ∧ c.resends < 2 then s.resendPage ch r
      else s.joinPage ch r slot x { lines := e.lines, errs := e.errs, verdict := verdict }
  | _, _, _ => s

/-- R42: finalization, where no write of the page is in flight. -/
def State.finalizeIfDone (s : State) (ch : Nat) : State :=
  match (s.channel ch).page with
  | none => s
  | some r => if s.writing ch r then s else s.finalize ch

/-- R42: a PAGE_END in RECEIVING_PAGE, not yet taken for the page. -/
def State.pageEnd (s : State) (ch : Nat) (e : PageEnd) : State :=
  if (s.channel ch).state = .receivingPage ∧ (s.channel ch).ended = none then
    let s := s.setChannel ch { s.channel ch with ended := some e }
    match (s.channel ch).filling with
    | none => s.finalizeIfDone ch
    | some (_, []) => s.finalizeIfDone ch
    | some (b, bytes) =>
      match s.handOver ch b bytes with
      | none => s.storeFull ch b
      | some s => s.finalizeIfDone ch
  else s.notTaken ch

/-- PAGE_END (R42). -/
def execPageEnd (ch lines errs : Nat) (verdict : ModemVerdict) (s : State) : Host.Outcome State Fault Refusal :=
  act (fun s => s.lineFrame (pageEndOk ch lines errs) ch
    (fun s => s.pageEnd ch { lines := lines, errs := errs, verdict := verdict })) s

/-! ### Ending a call -/

/-- R46: the cause a CALL_CLOSE carries. -/
def ShelfCause.cause (c : ShelfCause) : Cause :=
  match c with
  | .normal => .normal
  | .lineLost => .lineLost
  | .farEndAbort => .farEndAbort
  | .protocol => .protocol
  | .released => .released

/-- R46, R47: a CALL_CLOSE, with the frame's cause or, in RELEASING, with the drop cause. -/
def State.callClose (s : State) (ch : Nat) (cause : ShelfCause) : State :=
  match (s.channel ch).state with
  | .idle => s.channelError ch
  | .releasing => s.closeCall ch ((s.channel ch).drop.getD (ShelfCause.cause cause))
  | _ => s.closeCall ch (ShelfCause.cause cause)

/-- CALL_CLOSE (R46). -/
def execCallClose (ch : Nat) (cause : ShelfCause) (s : State) : Host.Outcome State Fault Refusal :=
  act (fun s => s.lineFrame (channelOk ch) ch (fun s => s.callClose ch cause)) s

/-- CHANNEL_LINK_LOSS (R50): a channel takes a loss of the line link, after a decision under way. -/
def execChannelLinkLoss (ch : Nat) (s : State) : Host.Outcome State Fault Refusal :=
  act (fun s => if (s.channel ch).loss then s.settle ch else s) s

/-- CHANNEL_SILENCE_EXPIRY (R49). -/
def execChannelSilenceExpiry (ch : Nat) (s : State) : Host.Outcome State Fault Refusal :=
  act (fun s => match expiring (s.channel ch).silence with
    | none => s
    | some due => (s.advanceTo due).drop ch .timeout) s

/-- RELEASE_TIMER_EXPIRY (R48). -/
def execReleaseTimerExpiry (ch : Nat) (s : State) : Host.Outcome State Fault Refusal :=
  act (fun s => match expiring (s.channel ch).release with
    | none => s
    | some due =>
      ((s.advanceTo due).closeCall ch .noRelease).raise .callController
        (.channelUnresponsive ch (s.receiptOf ch))) s

/-- CHANNEL_INTAKE_ABORT (R51, R181): a channel takes an abort passed to it, after a decision under way. -/
def execChannelIntakeAbort (ch : Nat) (s : State) : Host.Outcome State Fault Refusal :=
  act (fun s =>
    if (s.channel ch).aborts = 0 then s
    else
      let s := s.carryOn ch .done
      let s := s.setChannel ch { s.channel ch with aborts := (s.channel ch).aborts - 1 }
      if ChannelState.live (s.channel ch).state then s.drop ch .engineClosed else s) s

/-- SILENCE_TIMEOUT_INSTALL (R49, R183): the Call Controller takes the oldest timeout handed to it. -/
def execSilenceTimeoutInstall (s : State) : Host.Outcome State Fault Refusal :=
  act (fun s => match s.waiting.silences with
    | [] => s
    | t :: rest =>
      { s with waiting := { s.waiting with silences := rest }, calls := { s.calls with silenceTimeout := t } }) s

/-! ### Write completions (R40) -/

/-- R40 step 3: a page awaiting discard whose last write has completed. -/
def State.heldDiscard (s : State) (ch r : Nat) : State :=
  let c := s.channel ch
  if c.discards.contains r && !s.writing ch r
  then (s.setChannel ch { c with discards := c.discards.filter (fun x => x != r) }).discardPage r
  else s

/-- R40: what the channel does on the completion of its write. -/
def State.writeDone (s : State) (ch : Nat) (b : BufId) (r : Nat) : State :=
  let s := s.setBuf ch b .empty
  if (s.channel ch).page = some r then
    if (s.channel ch).ended.isSome then s.finalizeIfDone ch else s
  else s.heldDiscard ch r

/-- R5, R40: a block write served at the memory port. -/
def State.completeWrite (s : State) (ch : Nat) (b : BufId) (r block : Nat) : State :=
  let bytes := ((s.channel ch).buf b).bytes
  ((((s.portDone.storeBlock block bytes).growRecord r bytes.length).carryOn ch .done).writeDone ch b r)

/-- WRITE_COMPLETION (R5, R40): the block write at the head of the port queue. -/
def execWriteCompletion (s : State) : Host.Outcome State Fault Refusal :=
  match s.store.port with
  | .write ch b r block :: _ =>
    if block < blockCount then act (fun s => s.completeWrite ch b r block) s else .fault .noSuchBlock
  | _ => act (fun s => s) s

end Sys2Proof.Machine
end

