-- ==== Sys2Proof/Machine/Office.lean ====
section
/-! DEFINITION. The Office Port (spec/07_delivery_lanes_on_the_office_link.md, section 7.1), the state of a point
context, and the reply list and notice queue of the Management Unit
(spec/10_management_requests_notices_and_engine_states.md, sections 10.1 and 10.7). -/

namespace Sys2Proof.Machine

open Sys2Proof.Config

/-! ### The link (R117, R118) -/

/-- R117: a frame with a correct CRC-32 makes a DOWN link UP, which is reported to the Management Unit, and starts
the office silence timer. -/
def State.officeGood (s : State) : State :=
  let up := { s with office := { s.office with link := .up, silence := some (s.after linkSilence) } }
  match s.office.link with
  | .up => up
  | .down => up.portReport (.link .up)

/-- R118: a frame counted in the office frame error count. -/
def State.officeBad (s : State) : State :=
  { s with office := { s.office with errors := bump max16 s.office.errors } }

/-! ### Point contexts (R123) -/

/-- R123: a change of a point's state, raised as POINT_CHANGED. -/
def State.pointState (s : State) (p : Nat) (st : PointState) : State :=
  (s.setPoint p { s.point p with state := st }).raise .deliveryUnit (.pointChanged p (s.point p).state st)

/-- R119, R123: frame seen returns a STALLED point to READY, which is an arbiter trigger (R132). -/
def State.frameSeen (s : State) (p : Nat) : State :=
  if pointOk p ∧ (s.point p).state = .stalled then (s.pointState p .ready).trigger (.pointReady p) else s

/-- R117, R119: a good frame addressed to 0, from a source. -/
def State.officeArrival (s : State) (src : Nat) : State := s.officeGood.frameSeen src

/-! ### Handing frames (R120) -/

/-- R120: what the discarding of a waiting frame is answered with. -/
def State.discarded (s : State) (h : Hander) (f : OfficeFrame) : State :=
  match h with
  | .lane i => { s with waiting := { s.waiting with laneDiscards := s.waiting.laneDiscards ++ [i] } }
  | .reply => s.portReport (.discardedReply (match f.body with
      | .reply r => r.restart
      | _ => false))
  | .notice => s.portReport .discardedNotice
  | .point _ => s

/-- R120: a frame handed to the Office Port; while the link is DOWN it is discarded. -/
def State.handOffice (s : State) (h : Hander) (f : OfficeFrame) : State :=
  match s.office.link with
  | .up => { s with office := { s.office with queue := s.office.queue ++ [(h, f)] } }
  | .down => s.discarded h f

/-- R120: the frames waiting, discarded one after the other. -/
def State.discardAll (s : State) (l : List (Hander × OfficeFrame)) : State :=
  match l with
  | [] => s
  | e :: t => (s.discarded e.1 e.2).discardAll t

/-- R120: how many SLOT_RETURN frames of point contexts wait. -/
def State.returnsWaiting (s : State) : Nat :=
  s.office.queue.countP (fun e => match e.1 with
    | .point _ => true
    | _ => false)

/-- R122: the unsent-return count of a point raised. -/
def State.countUnsent (s : State) (p n : Nat) : State :=
  s.setPoint p { s.point p with unsent := min ((s.point p).unsent + n) max8 }

/-- R120, R125: a point context hands a SLOT_RETURN; where 32 already wait it is counted instead. -/
def State.returnSlot (s : State) (p slot : Nat) (reason : ReturnReason) : State :=
  if s.returnsWaiting < returnLimit then s.handOffice (.point p) { dest := p, body := .slotReturn slot reason }
  else s.countUnsent p 1

/-- R125: SLOT_RETURN frames for several slots, in order. -/
def State.returnSlots (s : State) (p : Nat) (slots : List Nat) (reason : ReturnReason) : State :=
  match slots with
  | [] => s
  | x :: t => (s.returnSlot p x reason).returnSlots p t reason

/-! ### Replies (R176 to R178) -/

/-- R177: the slot once a reply has been handed: free where the reply was that of the request holding it; for
RESTART it stays held. -/
def slotAfter (r : Reply) (slot : ReqSlot) : ReqSlot := if r.holds && !r.restart then .free else slot

/-- R178: the reply at the head of the list handed, where none of the Management Unit waits at the port. It is handed
in the event that produces it (log 39, DESIGN CHOICE); a request that arrived together with the one answered is BUSY
all the same (R176, `second`). -/
def State.handReply (s : State) : State :=
  if s.mgmt.replyOut then s
  else match s.mgmt.replies with
    | [] => s
    | r :: rest =>
      { s with mgmt := { s.mgmt with replies := rest, replyOut := true, slot := slotAfter r s.mgmt.slot }
      }.handOffice .reply { dest := r.dest, body := .reply r }

/-- R178: a reply joins the tail of the list, and the head is handed where nothing waits. -/
def State.addReply (s : State) (r : Reply) : State :=
  { s with mgmt := { s.mgmt with replies := s.mgmt.replies ++ [r] } }.handReply

/-- R177: the reply of the request that holds the slot. -/
def State.reply (s : State) (h : ReqHead) (k : ReqKind) (result : Result) (body : ReplyBody) : State :=
  { s with mgmt := { s.mgmt with slot := .replying } }.addReply
    { dest := h.src, tag := h.tag, code := replyCode k, result := result, body := body, holds := true,
      restart := false }

/-- R178: an immediate reply; where 7 of them are in the list the request is dropped and counted. -/
def State.immediate (s : State) (h : ReqHead) (code : Nat) (result : Result) : State :=
  if s.mgmt.replies.countP (fun r => !r.holds) < immediateLimit then
    s.addReply { dest := h.src, tag := h.tag, code := code, result := result, body := .none, holds := false,
                 restart := false }
  else { s with mgmt := { s.mgmt with dropped := bump max16 s.mgmt.dropped } }

/-- R176 step 1: whether a source may send requests. -/
def State.permitted (s : State) (src : Nat) : Bool :=
  src == station || (pointOk src && ((s.pointRow src).map PointRow.manage).getD false)

/-- The record of whether the latest request, or one that arrived together with it, took the slot (log 39). -/
def State.noteTaken (s : State) (took : Bool) : State := { s with mgmt := { s.mgmt with tookSlot := took } }

/-- R176: a request that arrived together with one that has taken the slot. -/
def State.second (s : State) (h : ReqHead) : Bool := h.together && s.mgmt.tookSlot

/-- R119, R176: the state in which a request that takes the slot acts. -/
def State.taking (s : State) (src : Nat) : State := (s.officeArrival src).noteTaken true

/-- R119, R176: the state in which a request is answered that takes no slot. -/
def State.answering (s : State) (h : ReqHead) : State := (s.officeArrival h.src).noteTaken (s.second h)

/-- R176: a request of a known kind arrives: permission, the slot, then its own fields' form, then the request
carried out by `f`. BUSY is the answer where another request holds the slot, and where it arrived together with one
that took the slot before it. -/
def State.request (s : State) (h : ReqHead) (k : ReqKind) (f : State → State) : State :=
  if !s.permitted h.src then (s.answering h).immediate h (replyCode k) .notPermitted
  else if s.mgmt.slot ≠ .free ∨ s.second h = true then (s.answering h).immediate h (replyCode k) .busy
  else if !h.formed then (s.taking h.src).reply h k .badArgument .none
  else f (s.taking h.src)

/-- UNKNOWN_REQUEST (R176): a kind that is no request kind. -/
def execUnknownRequest (h : ReqHead) (kind : Nat) (s : State) : Host.Outcome State Fault Refusal :=
  act (fun s =>
    let a := s.answering h
    if !s.permitted h.src then a.immediate h ((kind + 64) % 256) .notPermitted
    else a.immediate h 255 .unknownRequest) s

/-! ### Notices (R188 to R192) -/

/-- R192: the notice at the head of the queue handed for point 31, while the link is UP and none is out. The test is
of the link itself, not of the reports of it that the Management Unit has taken (log 41, DESIGN CHOICE). -/
def State.handNotice (s : State) : State :=
  if s.mgmt.noticeOut then s
  else match s.office.link, s.mgmt.notices with
    | .up, n :: _ =>
      { s with mgmt := { s.mgmt with noticeOut := true } }.handOffice .notice { dest := station, body := .notice n }
    | _, _ => s

/-- R190: a notice at the tail of the queue; with 32 in it the notice is lost. -/
def Management.appendNotice (m : Management) (body : NoticeBody) : Management :=
  if m.notices.length < noticeLimit then { m with notices := m.notices ++ [{ stamp := m.tod, body := body }] }
  else { m with lost := true }

/-- R190, R191: an occurrence reported, in the mode in force. -/
def Management.report (m : Management) (o : Occurrence) : Management :=
  match m.params.mode with
  | .streaming => m.appendNotice (.event o)
  | .summary =>
    if m.outstanding then m
    else if m.notices.length < noticeLimit then { m.appendNotice (.summary m.flags) with outstanding := true }
    else { m with lost := true }

/-- R188: an occurrence sets its kind's pending flag and is reported where its mask is clear. -/
def Management.occur (m : Management) (o : Occurrence) : Management :=
  let code := noticeCode (Occurrence.kind o)
  let m := { m with flags := setFlag code m.flags }
  if flagOn code m.params.masks then m else m.report o

/-- The oldest occurrence that a block has raised and the Management Unit has not taken (log 15). -/
def takeOccurrence (src : Source) (l : List (Source × Occurrence)) : Option (Occurrence × List (Source × Occurrence)) :=
  match l with
  | [] => none
  | e :: t =>
    if e.1 = src then some (e.2, t)
    else (takeOccurrence src t).map (fun r => (r.1, e :: r.2))

/-- NOTICE_OCCURRENCE (R188): the Management Unit takes the oldest occurrence a block has raised. -/
def execNoticeOccurrence (src : Source) (s : State) : Host.Outcome State Fault Refusal :=
  act (fun s => match takeOccurrence src s.waiting.occurrences with
    | none => s
    | some (o, rest) =>
      { s with waiting := { s.waiting with occurrences := rest }, mgmt := s.mgmt.occur o }.handNotice) s

/-! ### Frames the Office Port takes itself -/

/-- LINK_ALIVE of the office link (R117, R119). -/
def execOfficeLinkAlive (s : State) : Host.Outcome State Fault Refusal := act State.officeGood s

/-- BAD_OFFICE_FRAME (R118, R197): counted; where its CRC-32 is correct it also restarts the timer. -/
def execBadOfficeFrame (crcOk : Bool) (s : State) : Host.Outcome State Fault Refusal :=
  act (fun s => if crcOk then s.officeGood.officeBad else s.officeBad) s

/-- FOREIGN_OFFICE_FRAME (R117, R118): a correct frame for another destination, discarded without being counted. -/
def execForeignOfficeFrame (s : State) : Host.Outcome State Fault Refusal := act State.officeGood s

/-- R117: a frame has left the link: the second without a frame starts again. -/
def State.officeSent (s : State) (f : OfficeFrame) : State :=
  { s with office := { s.office with output := some f, keepalive := s.after keepalive } }

/-- OFFICE_KEEPALIVE_SEND (R117): a second has passed in which no frame was sent; in both link states. -/
def execOfficeKeepaliveSend (s : State) : Host.Outcome State Fault Refusal :=
  act (fun s => match expiring (some s.office.keepalive) with
    | none => s
    | some due => (s.advanceTo due).officeSent { dest := 0, body := .linkAlive }) s

end Sys2Proof.Machine
end

