-- ==== Sys2Proof/Machine/Withdraw.lean ====
section
/-! DEFINITION. What DOC_HOLD, DOC_REROUTE and DOC_PURGE do to a record, at once or when its lane has given it up
(spec/06_mailboxes_and_delivery_order.md, section 6.6; spec/01_documents_pages_and_the_page_store.md, R25). -/

namespace Sys2Proof.Machine

open Sys2Proof.Config

/-- R113: the hold reason by the mailbox a document is held in. -/
def holdReasonIn (m : Nat) : HoldReason := if m = quarantine then .quarantine else .management

/-- R113: a QUEUED document, or one that a lane has given up (R156), becomes HELD. -/
def State.holdDoc (s : State) (slot : Nat) (d : Doc) : State :=
  ((s.setDoc slot (d.toHeld (holdReasonIn d.current))).unqueue d.current slot).raise .mailboxUnit
    (.docHeld d.receipt d.current (holdReasonIn d.current))

/-- R102: pages held moved between two mailboxes. -/
def State.moveHeld (s : State) (a b n : Nat) : State := (s.heldDown a n).heldUp b n

/-- R115, R116: a QUEUED document, or one that a lane has given up, placed at the tail of its class segment in
another mailbox. -/
def State.rerouteDoc (s : State) (slot : Nat) (d : Doc) (t : Nat) : State :=
  let s := s.unqueue d.current slot
  let s := s.setDoc slot { d with state := .queued, current := t, notBefore := none }
  ((s.moveHeld d.current t d.pages.length).queueTail t slot).raise .mailboxUnit
    (.docQueued d.receipt t d.pages.length)

/-- R115: a HELD document moved to another mailbox. -/
def State.rerouteHeld (s : State) (slot : Nat) (d : Doc) (t : Nat) : State :=
  (s.setDoc slot { d with current := t }).moveHeld d.current t d.pages.length

/-- R116, column DOC_HOLD. A document that is gone is RANGE, whatever freed it (log 45). -/
def State.completeHold (s : State) (h : ReqHead) (receipt : Nat) : State :=
  match s.docOf receipt with
  | none => s.reply h .docHold .range .none
  | some (slot, d) =>
    match d.state with
    | .queued => (s.holdDoc slot d).reply h .docHold .ok .none
    | .delivering => (s.holdDoc slot d).reply h .docHold .ok .none
    | _ => s.reply h .docHold .wrongState .none

/-- R115, R116: a reroute of a document that is in a queue or HELD. -/
def State.rerouteTo (s : State) (slot : Nat) (d : Doc) (t : Nat) : State :=
  if d.current = t then s
  else match d.state with
    | .held => s.rerouteHeld slot d t
    | _ => s.rerouteDoc slot d t

/-- R116, column DOC_REROUTE. A document withdrawn for a reroute to its own mailbox goes to the tail (log 25);
one that is gone is RANGE, whatever freed it (log 45). -/
def State.completeReroute (s : State) (h : ReqHead) (receipt t : Nat) : State :=
  match s.docOf receipt with
  | none => s.reply h .docReroute .range .none
  | some (slot, d) =>
    match d.state with
    | .queued => (s.rerouteTo slot d t).reply h .docReroute .ok .none
    | .held => (s.rerouteTo slot d t).reply h .docReroute .ok .none
    | .delivering => (s.rerouteDoc slot d t).reply h .docReroute .ok .none
    | _ => s.reply h .docReroute .wrongState .none

/-- R25: the purge completes against the document's present state; a document already gone is OK, also where pressure
release or retention expiry freed it after its last acknowledgement (log 45, DESIGN CHOICE). -/
def State.completePurge (s : State) (h : ReqHead) (receipt : Nat) : State :=
  match s.docOf receipt with
  | none => s.reply h .docPurge .ok .none
  | some (slot, d) =>
    match d.state with
    | .receiving => s.reply h .docPurge .wrongState .none
    | _ => (s.freeDoc slot d true).reply h .docPurge .ok .none

/-- R25, R116: the request held in the slot for a document completes against the document as it stands. -/
def State.completeDeferred (s : State) (receipt : Nat) : State :=
  match s.mgmt.slot with
  | .deferred h kind r _ =>
    if r = receipt then
      match kind with
      | .hold => s.completeHold h receipt
      | .reroute t => s.completeReroute h receipt t
      | .purge => s.completePurge h receipt
    else s
  | _ => s

end Sys2Proof.Machine
end

