-- ==== Sys2Proof/Machine/Lanes.lean ====
section
/-! DEFINITION. The operations of a delivery lane (spec/07_delivery_lanes_on_the_office_link.md, sections 7.3 to 7.8;
spec/08_delivery_faults_retry_and_withdrawal.md): reading, beginning a page, and every way a delivery ends. -/

namespace Sys2Proof.Machine

open Sys2Proof.Config

/-! ### A lane's record (section 7.4) -/

def Lane.buf (l : Lane) (k : BufId) : PageBuf := match k with | .first => l.buf0 | .second => l.buf1

def Lane.setBuf (l : Lane) (k : BufId) (x : PageBuf) : Lane :=
  match k with | .first => { l with buf0 := x } | .second => { l with buf1 := x }

def PageBuf.goes (b : PageBuf) : Bool := match b with | .goingOut _ _ _ => true | _ => false

def PageBuf.out (b : PageBuf) : Bool := match b with | .outstanding _ _ _ _ => true | _ => false

/-- The slot in use by a buffer: GOING_OUT or OUTSTANDING (section 7.3). -/
def PageBuf.slot (b : PageBuf) : Option Nat :=
  match b with
  | .goingOut _ _ slot => some slot
  | .outstanding _ _ slot _ => some slot
  | _ => none

/-- The page of a buffer that is GOING_OUT or OUTSTANDING, with its slot (R141). -/
def PageBuf.sent (b : PageBuf) : Option (Nat × Nat) :=
  match b with
  | .goingOut k _ slot => some (k, slot)
  | .outstanding k _ slot _ => some (k, slot)
  | _ => none

def Lane.goingOut (l : Lane) : Bool := l.buf0.goes || l.buf1.goes

def Lane.outstanding (l : Lane) : Bool := l.buf0.out || l.buf1.out

/-- R125: whether a slot id is in use by a lane. -/
def Lane.usesSlot (l : Lane) (slot : Nat) : Bool := l.buf0.slot == some slot || l.buf1.slot == some slot

/-- The buffer that is OUTSTANDING in a slot, with its page and bytes. -/
def Lane.outstandingIn (l : Lane) (slot : Nat) : Option (BufId × Nat × List Byte) :=
  match l.buf0, l.buf1 with
  | .outstanding k bytes x _, other =>
    if x = slot then some (.first, k, bytes)
    else match other with
      | .outstanding k' bytes' x' _ => if x' = slot then some (.second, k', bytes') else none
      | _ => none
  | _, .outstanding k bytes x _ => if x = slot then some (.second, k, bytes) else none
  | _, _ => none

/-- R135: the EMPTY buffer a read begins in, buffer 0 first. -/
def Lane.emptyBuf (l : Lane) : Option BufId :=
  match l.buf0, l.buf1 with
  | .empty, _ => some .first
  | _, .empty => some .second
  | _, _ => none

/-- R129, R137: the state of a lane between its ACCEPT and its end (log 18). -/
def Lane.derived (l : Lane) : LaneState :=
  if l.goingOut then .sending
  else if !l.order.isEmpty then .waitingIntake
  else if l.outstanding then .waitingAck
  else .sending

/-- The states in which a lane reads and begins pages. -/
def LaneState.transfers (st : LaneState) : Bool :=
  match st with
  | .sending => true
  | .waitingIntake => true
  | .waitingAck => true
  | _ => false

/-- The document a lane serves, with its slot. -/
def State.laneDoc (s : State) (i : Nat) : Option (Nat × Doc) :=
  (s.lane i).job.bind (fun j => (s.doc j.slot).map (fun d => (j.slot, d)))

/-! ### Frames (R130) -/

/-- R130: the next frame handed, where none is handed and not yet sent. -/
def State.handLane (s : State) (i : Nat) : State :=
  match (s.lane i).pending, (s.lane i).produced with
  | .none, f :: rest =>
    (s.setLane i { s.lane i with produced := rest, pending := .current }).handOffice (.lane i) f
  | _, _ => s

/-- Frames produced. -/
def State.produce (s : State) (i : Nat) (fs : List OfficeFrame) : State :=
  s.setLane i { s.lane i with produced := (s.lane i).produced ++ fs }

def OfficeFrame.isReturn (f : OfficeFrame) : Bool := match f.body with | .slotReturn _ _ => true | _ => false

/-- R154 step 3: a PAGE_HEAD, a PAGE_DATA or a PAGE_TAIL. -/
def OfficeFrame.ofPage (f : OfficeFrame) : Bool :=
  match f.body with
  | .pageHead .. => true
  | .pageData .. => true
  | .pageTail .. => true
  | _ => false

/-! ### Reading (R135) -/

/-- R135: a read begun where none is in flight, a buffer is EMPTY, and a page is left to read. -/
def State.laneReads (s : State) (i : Nat) : State :=
  let l := s.lane i
  match l.reading, l.nextRead, l.emptyBuf, s.laneDoc i with
  | .none, some k, some b, some (_, d) =>
    if k ≤ d.pages.length then
      (s.setLane i { l.setBuf b (.reading k []) with nextRead := some (k + 1), reading := .live }).beginRead i
        (d.pages.getD (k - 1) 0) 1 d.receipt
    else s
  | _, _, _, _ => s

/-! ### Beginning a page (R126, R136) -/

/-- R126: slots too small for the page returned; past 16 returns waiting they are counted instead. -/
def State.returnSmall (s : State) (i p : Nat) (small : List IntakeSlot) : State :=
  let room := tooSmallLimit - (s.lane i).produced.countP OfficeFrame.isReturn
  (s.produce i ((small.take room).map (fun x => { dest := p, body := .slotReturn x.id .tooSmall }))).countUnsent p
    (small.length - room)

/-- R136: the PAGE_DATA frames of a page from an offset on, at most `n` of them. -/
def dataFrames (p slot offset : Nat) (bytes : List Byte) (n : Nat) : List OfficeFrame :=
  match n with
  | 0 => []
  | n + 1 =>
    match bytes with
    | [] => []
    | _ => { dest := p, body := .pageData slot offset (bytes.take payloadBytes) }
            :: dataFrames p slot (offset + payloadBytes) (bytes.drop payloadBytes) n

/-- R136: the frames of a page, head, data and tail. -/
def pageFrames (p slot : Nat) (d : Doc) (x : PageRecord) (bytes : List Byte) (v : Verdict) : List OfficeFrame :=
  { dest := p, body := .pageHead d.receipt x.number slot bytes.length x.res x.width v
      (x.number == d.pages.length) }
    :: dataFrames p slot 0 bytes bytes.length
    ++ [{ dest := p, body := .pageTail slot (crc32 bytes) }]

/-- R136: the page of a buffer begun into a slot taken. -/
def State.sendPage (s : State) (i p slot : Nat) (b : BufId) (rest : List BufId) (k : Nat) (bytes : List Byte) :
    State :=
  let l := s.lane i
  let s := s.setLane i { l.setBuf b (.goingOut k bytes slot) with order := rest, waitTimer := none }
  match s.laneDoc i with
  | none => s
  | some (_, d) =>
    let r := d.pages.getD (k - 1) 0
    match s.record r with
    | none => s
    | some x =>
      let x := { x with sends := x.sends + 1 }
      (s.setRecord r x).produce i
        (pageFrames p slot d x bytes ((x.finish.map Finish.verdict).getD .damaged))

/-- R126: no slot is left for the page: the intake-wait timer starts where it does not run. -/
def State.awaitSlot (s : State) (i p : Nat) : State :=
  let l := s.lane i
  match l.waitTimer with
  | some _ => s
  | none =>
    s.setLane i { l with waitTimer := some (s.after ((((s.pointRow p).map PointRow.wait).getD 0) * 1000)) }

/-- R126: the oldest slots tested for a page. -/
def State.tryPage (s : State) (i p : Nat) (b : BufId) (rest : List BufId) (k : Nat) (bytes : List Byte) : State :=
  let intake := (s.point p).intake
  let small := intake.takeWhile (fun x => decide (x.cap < bytes.length))
  let s := s.returnSmall i p small
  match intake.drop small.length with
  | [] => (s.setPoint p { s.point p with intake := [] }).awaitSlot i p
  | x :: more => (s.setPoint p { s.point p with intake := more }).sendPage i p x.id b rest k bytes

/-- R136: the page in the first buffer of the send order begun, where no other page is GOING_OUT. -/
def State.laneBegins (s : State) (i : Nat) : State :=
  let l := s.lane i
  if l.goingOut then s
  else match l.order, l.job with
    | b :: rest, some j =>
      match l.buf b with
      | .read k bytes => s.tryPage i j.point b rest k bytes
      | _ => s
    | _, _ => s

/-- R135 to R138: a lane goes on: it reads, it begins, its state follows, and it hands its next frame. -/
def State.laneOn (s : State) (i : Nat) : State :=
  if LaneState.transfers (s.lane i).state then
    let s := (s.laneReads i).laneBegins i
    (s.setLane i { s.lane i with state := (s.lane i).derived }).handLane i
  else s.handLane i

/-! ### The end of a delivery -/

/-- R152: a frame handed and not yet sent is of an ended delivery. -/
def Pending.ended (p : Pending) : Pending := match p with | .none => .none | _ => .stale

/-- R152: a read in flight is abandoned. -/
def Reading.ended (r : Reading) : Reading := match r with | .none => .none | _ => .abandoned

/-- R152: the record of a lane whose delivery has ended; only SLOT_RETURN frames are kept. -/
def Lane.ended (l : Lane) : Lane :=
  { Lane.initial with
    produced := l.produced.filter OfficeFrame.isReturn, pending := l.pending.ended, reading := l.reading.ended }

/-- R148 step 6, R152: the lane goes IDLE and its point has no serving lane; an arbiter trigger (R132). -/
def State.endLane (s : State) (i : Nat) : State :=
  let s := match (s.lane i).job with
    | none => s
    | some j => s.setPoint j.point { s.point j.point with lane := none }
  ((s.setLane i (s.lane i).ended).trigger (.laneIdle i)).handLane i

/-- Where a lane was WITHDRAWING, the request held for its document completes (R155, R159). -/
def State.completeIf (s : State) (was : LaneState) (receipt : Nat) : State :=
  if was = .withdrawing then s.completeDeferred receipt else s

/-- R105: a document handed back QUEUED, with the not-before given. -/
def State.handBack (s : State) (slot : Nat) (d : Doc) (notBefore : Option Nat) : State :=
  (s.setDoc slot { d with state := .queued, notBefore := notBefore }).queueHead d.current slot

/-- R149: where a document goes after its counted attempt. -/
def State.afterAttempt (s : State) (slot : Nat) (d : Doc) : State :=
  if d.attempts < attemptLimit then s.handBack slot d (some (s.after (backoff d.attempts * 1000)))
  else s.setDoc slot { d.toHeld .deliveryFailed with notBefore := none }

/-- R150: whether a counted suspension's reason is one of the three timeouts. -/
def SuspendReason.timeout (r : SuspendReason) : Bool :=
  match r with
  | .acceptTimeout => true
  | .ackTimeout => true
  | .intakeUnavailable => true
  | _ => false

/-- R148 step 4. -/
def State.failPoint (s : State) (p : Nat) (reason : SuspendReason) : State :=
  let s := s.setPoint p { s.point p with failures := bump max8 (s.point p).failures }
  if SuspendReason.timeout reason then s.pointState p .stalled else s

/-- R148 step 5, R149: DELIVERY_SUSPENDED, and DOC_HELD after it at the eighth attempt. -/
def State.suspendNotices (s : State) (p : Nat) (d : Doc) (reason : SuspendReason) : State :=
  if d.attempts < attemptLimit then
    s.raise .deliveryUnit (.deliverySuspended reason d.receipt d.current p d.attempts (backoff d.attempts))
  else
    (s.raise .deliveryUnit (.deliverySuspended reason d.receipt d.current p d.attempts 0)).raise .deliveryUnit
      (.docHeld d.receipt d.current .deliveryFailed)

/-- R148: a counted suspension. -/
def State.suspendCounted (s : State) (i : Nat) (reason : SuspendReason) : State :=
  match (s.lane i).job, s.laneDoc i with
  | some j, some (slot, d) =>
    let d := { d with attempts := d.attempts + 1 }
    ((((s.afterAttempt slot d).failPoint j.point reason).suspendNotices j.point d reason).endLane i).completeIf
      (s.lane i).state d.receipt
  | _, _ => s

/-- R151: an uncounted suspension; the change of the point's state is its caller's. -/
def State.suspendUncounted (s : State) (i : Nat) (reason : SuspendReason) : State :=
  match (s.lane i).job, s.laneDoc i with
  | some j, some (slot, d) =>
    (((s.handBack slot d none).raise .deliveryUnit
        (.deliverySuspended reason d.receipt d.current j.point d.attempts 0)).endLane i).completeIf
      (s.lane i).state d.receipt
  | _, _ => s

/-- R151: the serving lane of a point ends with an uncounted suspension. -/
def State.suspendServing (s : State) (p : Nat) (reason : SuspendReason) : State :=
  match (s.point p).lane with
  | none => s
  | some i => s.suspendUncounted i reason

/-- R18: what becomes of a delivered document. -/
def State.delivered (s : State) (slot : Nat) (d : Doc) : State :=
  if d.hours = 0 then s.freeDoc slot d false else s.setDoc slot (d.retain s.now)

/-- R140: the delivery is complete. -/
def State.completeDelivery (s : State) (i slot : Nat) (d : Doc) (p : Nat) : State :=
  let was := (s.lane i).state
  let s := s.raise .deliveryUnit (.docDelivered d.receipt d.current p d.pages.length d.damaged d.attempts)
  let s := (s.heldDown d.current d.pages.length).delivered slot d
  let s := s.setPoint p { s.point p with failures := 0 }
  (s.endLane i).completeIf was d.receipt

/-- R156: a withdrawal ends: the not-before is absent, the lane goes IDLE, and the held request completes. -/
def State.endWithdrawal (s : State) (i : Nat) : State :=
  match s.laneDoc i with
  | none => s
  | some (slot, d) =>
    ((s.setDoc slot { d with notBefore := none }).endLane i).completeDeferred d.receipt

/-- R156: a withdrawal ends at the later of the WITHDRAW's sent report and the completion of a read the lane has
in flight, be it a read abandoned by an earlier delivery of the lane (R152). -/
def State.withdrawalMayEnd (s : State) (i : Nat) : State :=
  let l := s.lane i
  if l.state = .withdrawing ∧ l.withdrawn ∧ l.reading = .none then s.endWithdrawal i else s

/-! ### Acknowledgements (R138, R139) -/

/-- A page number put into the acknowledged set, which is kept in rising order. -/
def addNumber (k : Nat) (l : List Nat) : List Nat :=
  match l with
  | [] => [k]
  | a :: t => if k < a then k :: a :: t else if k = a then a :: t else a :: addNumber k t

/-- R138 step 3: acknowledged-through run over the contiguous numbers of the set. -/
def runAcked (ack : Nat) (acked : List Nat) : Nat × List Nat :=
  match acked with
  | [] => (ack, [])
  | k :: t => if k = ack + 1 then runAcked (ack + 1) t else (ack, k :: t)

/-- R138 steps 1 to 3, R139: one page acknowledged at a lane's document. -/
def State.ackPage (s : State) (i slot : Nat) (d : Doc) (p : Nat) (b : BufId) (k : Nat) : State :=
  let l := s.lane i
  let run := runAcked d.ackThrough (addNumber k l.acked)
  let resume := if d.ackThrough = 0 ∧ 0 < run.1 then some p else d.resume
  (s.setLane i { l.setBuf b .empty with acked := run.2 }).setDoc slot
    { d with ackThrough := run.1, resume := resume }

end Sys2Proof.Machine
end

