-- ==== Sys2Proof/Machine/Delivery.lean ====
section
/-! DEFINITION. The commands of the Delivery Unit (spec/07_delivery_lanes_on_the_office_link.md;
spec/08_delivery_faults_retry_and_withdrawal.md): delivery frames, lane timers, the arbiter, read completions,
withdrawal requests, and the loss of the office link. -/

namespace Sys2Proof.Machine

open Sys2Proof.Config

/-! ### What every delivery frame shares (R118, R119, R124) -/

/-- R124: a protocol error of a point. -/
def State.pointError (s : State) (p : Nat) : State :=
  s.setPoint p { s.point p with errors := bump max16 (s.point p).errors }

/-- R119, R124: a delivery frame of a point. One that fails the checks of its kind is discarded and counted
(R118, R197; log 6); one from a point not in use is a protocol error. -/
def State.deliveryFrame (s : State) (ok : Bool) (p : Nat) (f : State → State) : State :=
  if ok then
    let s := s.officeArrival p
    if (s.pointRow p).isSome then f s else s.pointError p
  else s.officeGood.officeBad

/-- R124: the five kinds that an OFFLINE point's context discards and counts. -/
def State.atReady (s : State) (p : Nat) (f : State → State) : State :=
  if (s.point p).state = .offline then s.pointError p else f s

/-! ### POINT_UP and POINT_DOWN (R123) -/

/-- R123, row POINT_UP. -/
def State.pointUp (s : State) (p : Nat) : State :=
  let before := (s.point p).state
  let s := s.setPoint p { s.point p with intake := [], failures := 0 }
  let s := s.pointState p .ready
  match before with
  | .ready => s.suspendServing p .pointDown
  | _ => s.trigger (.pointReady p)

/-- POINT_UP (R123). -/
def execPointUp (p : Nat) (s : State) : Host.Outcome State Fault Refusal :=
  act (fun s => s.deliveryFrame (pointOk p) p (fun s => s.pointUp p)) s

/-- A point goes OFFLINE and its list is discarded (R121, R123, R174). -/
def State.pointOff (s : State) (p : Nat) : State :=
  (s.setPoint p { s.point p with intake := [] }).pointState p .offline

/-- R123, row POINT_DOWN. -/
def State.pointDown (s : State) (p : Nat) : State :=
  if (s.point p).state = .offline then s else (s.pointOff p).suspendServing p .pointDown

/-- POINT_DOWN (R123). -/
def execPointDown (p : Nat) (s : State) : Host.Outcome State Fault Refusal :=
  act (fun s => s.deliveryFrame (pointOk p) p (fun s => s.pointDown p)) s

/-! ### ACCEPT and DECLINE (R134, R147) -/

/-- R157: the lane that is offering a receipt number to a point, with its document. -/
def State.offering (s : State) (p receipt : Nat) : Option (Nat × Nat × Doc) :=
  match (s.point p).lane with
  | none => none
  | some i =>
    match s.laneDoc i with
    | none => none
    | some (slot, d) => if (s.lane i).state = .offering ∧ d.receipt = receipt then some (i, slot, d) else none

/-- R134 step 2: the send counts of a document's pages set to 0. -/
def State.clearSends (s : State) (pages : List Nat) : State :=
  { s with store := { s.store with
    records := s.store.records.map (fun e => if pages.contains e.1 then (e.1, { e.2 with sends := 0 }) else e) } }

/-- R134: the transfer begins. -/
def State.accepted (s : State) (i : Nat) (d : Doc) : State :=
  let s := s.clearSends d.pages
  (s.setLane i { s.lane i with
      state := .sending, acceptTimer := none, nextRead := some (d.ackThrough + 1), acked := [] }).laneOn i

/-- ACCEPT (R134). -/
def execAccept (p receipt : Nat) (s : State) : Host.Outcome State Fault Refusal :=
  act (fun s => s.deliveryFrame (pointOk p && receiptOk receipt) p (fun s => s.atReady p (fun s =>
    match s.offering p receipt with
    | none => s.pointError p
    | some (i, _, d) => s.accepted i d))) s

/-- R147: the document returns with the delay the point asked for. -/
def State.declined (s : State) (i slot : Nat) (d : Doc) (p retry : Nat) : State :=
  ((s.handBack slot d (some (s.after (retry * 1000)))).raise .deliveryUnit
    (.deliverySuspended .declined d.receipt d.current p d.attempts retry)).endLane i

/-- DECLINE (R147). -/
def execDecline (p receipt retry : Nat) (s : State) : Host.Outcome State Fault Refusal :=
  act (fun s => s.deliveryFrame (pointOk p && receiptOk receipt && within 0 max8 retry) p (fun s => s.atReady p (fun s =>
    match s.offering p receipt with
    | none => s.pointError p
    | some (i, slot, d) => s.declined i slot d p retry))) s

/-! ### INTAKE_POST, PAGE_ACK and PAGE_NAK (R125, R138, R146) -/

/-- R125: whether the serving lane of a point uses a slot id. -/
def State.slotServed (s : State) (p slot : Nat) : Bool :=
  match (s.point p).lane with
  | none => false
  | some i => (s.lane i).usesSlot slot

/-- R125 case 3: a waiting lane tries the list at once. -/
def State.tryWaiting (s : State) (p : Nat) : State :=
  match (s.point p).lane with
  | none => s
  | some i => if (s.lane i).state = .waitingIntake then s.laneOn i else s

/-- R125: the three cases in order. -/
def State.intakePost (s : State) (p slot cap : Nat) : State :=
  let x := s.point p
  if x.intake.any (fun y => y.id == slot) || s.slotServed p slot then s.returnSlot p slot .duplicate
  else if ((s.pointRow p).map PointRow.maxSlots).getD 0 ≤ x.intake.length then s.returnSlot p slot .overLimit
  else (s.setPoint p { x with intake := x.intake ++ [{ id := slot, cap := cap }] }).tryWaiting p

/-- INTAKE_POST (R125). -/
def execIntakePost (p slot cap : Nat) (s : State) : Host.Outcome State Fault Refusal :=
  act (fun s => s.deliveryFrame (pointOk p && slotOk slot && capacityOk cap) p (fun s =>
    s.atReady p (fun s => s.intakePost p slot cap))) s

/-- R157: the buffer of the serving lane that is OUTSTANDING in a slot; in WITHDRAWING only before the WITHDRAW
has been sent. -/
def State.outstandingAt (s : State) (p slot : Nat) : Option (Nat × BufId × Nat × List Byte) :=
  match (s.point p).lane with
  | none => none
  | some i =>
    if (s.lane i).state = .withdrawing ∧ (s.lane i).withdrawn then none
    else ((s.lane i).outstandingIn slot).map (fun x => (i, x))

/-- R138, R155: a PAGE_ACK for an OUTSTANDING page k in buffer b. -/
def State.pageAcked (s : State) (i p : Nat) (b : BufId) (k : Nat) : State :=
  match s.laneDoc i with
  | none => s
  | some (slot, d) =>
    let s := s.ackPage i slot d p b k
    match s.doc slot with
    | none => s
    | some d =>
      if d.ackThrough = d.pages.length then s.completeDelivery i slot d p
      else if (s.lane i).state = .withdrawing then s
      else s.laneOn i

/-- PAGE_ACK (R138). -/
def execPageAck (p slot : Nat) (s : State) : Host.Outcome State Fault Refusal :=
  act (fun s => s.deliveryFrame (pointOk p && slotOk slot) p (fun s => s.atReady p (fun s =>
    match s.outstandingAt p slot with
    | none => s.pointError p
    | some (i, b, k, _) => s.pageAcked i p b k))) s

/-- The send count of page k of the document a lane serves. -/
def State.sendsOf (s : State) (i k : Nat) : Nat :=
  match s.laneDoc i with
  | none => 0
  | some (_, d) => ((s.record (d.pages.getD (k - 1) 0)).map PageRecord.sends).getD 0

/-- R146, R155: a PAGE_NAK for an OUTSTANDING page k in buffer b. -/
def State.pageRefused (s : State) (i : Nat) (b : BufId) (k : Nat) (bytes : List Byte) : State :=
  let l := s.lane i
  if l.state = .withdrawing then s.setLane i (l.setBuf b .empty)
  else if s.sendsOf i k < sendLimit then
    (s.setLane i { l.setBuf b (.read k bytes) with order := l.order ++ [b] }).laneOn i
  else s.suspendCounted i .pageRejected

/-- PAGE_NAK (R146). -/
def execPageNak (p slot : Nat) (s : State) : Host.Outcome State Fault Refusal :=
  act (fun s => s.deliveryFrame (pointOk p && slotOk slot) p (fun s => s.atReady p (fun s =>
    match s.outstandingAt p slot with
    | none => s.pointError p
    | some (i, b, k, bytes) => s.pageRefused i b k bytes))) s

/-! ### Lane timers (R143 to R145) -/

/-- A lane's timer expires, where it runs (log 3). -/
def State.laneExpiry (s : State) (i : Nat) (timer : Option Nat) (reason : SuspendReason) : State :=
  match expiring timer with
  | none => s
  | some due => (s.advanceTo due).suspendCounted i reason

/-- ACCEPT_TIMER_EXPIRY (R143). -/
def execAcceptTimerExpiry (i : Nat) (s : State) : Host.Outcome State Fault Refusal :=
  act (fun s => s.laneExpiry i (s.lane i).acceptTimer .acceptTimeout) s

/-- The ack timer of a buffer. -/
def PageBuf.due (b : PageBuf) : Option Nat :=
  match b with
  | .outstanding _ _ _ due => due
  | _ => none

/-- ACK_TIMER_EXPIRY (R144). -/
def execAckTimerExpiry (i : Nat) (b : BufId) (s : State) : Host.Outcome State Fault Refusal :=
  act (fun s => s.laneExpiry i ((s.lane i).buf b).due .ackTimeout) s

/-- INTAKE_WAIT_EXPIRY (R145). -/
def execIntakeWaitExpiry (i : Nat) (s : State) : Host.Outcome State Fault Refusal :=
  act (fun s => s.laneExpiry i (s.lane i).waitTimer .intakeUnavailable) s

/-! ### The arbiter (R131 to R133) -/

/-- R131: whether a point is READY. -/
def State.readyPoint (s : State) (p : Nat) : Bool := (s.point p).state == .ready

/-- R131: the target point of a head. -/
def State.target (s : State) (row : MailRow) (d : Doc) : Option Nat :=
  let resumes := d.resume.filter (fun r => (r == row.primary || row.alternate == some r) && s.readyPoint r)
  match resumes with
  | some r => some r
  | none =>
    if s.readyPoint row.primary then some row.primary else row.alternate.filter s.readyPoint

/-- R131: a grant that could be made: mailbox, slot, document, target. -/
structure Grant where
  box : Nat
  slot : Nat
  doc : Doc
  point : Nat
deriving DecidableEq, Repr

/-- R107, R131: the head of a department mailbox as a candidate. -/
def State.candidate (s : State) (m : Nat) : Option Grant :=
  match (s.box m).queue.head?, s.mailRow m with
  | some slot, some row =>
    match s.doc slot with
    | none => none
    | some d =>
      match s.target row d with
      | none => none
      | some p =>
        if s.mgmt.run = .running ∧ (s.box m).delivering = true ∧ d.notBefore.getD 0 ≤ s.now ∧ (s.point p).lane = none
        then some { box := m, slot := slot, doc := d, point := p } else none
  | _, _ => none

/-- R132 step 2: the mailboxes from the one after the last served, round to it. -/
def servingOrder (last : Nat) : List Nat :=
  (List.range mailboxCount).map (fun k => (last + 1 + k) % mailboxCount)

/-- R132: the grant of a round, URGENT heads before ROUTINE ones. -/
def State.choose (s : State) : Option Grant :=
  let l := (servingOrder s.mail.lastServed).filterMap s.candidate
  match l.find? (fun g => g.doc.cls == .urgent) with
  | some g => some g
  | none => l.head?

/-- R132 step 3: the lowest-numbered IDLE lane. -/
def State.idleLane (s : State) : Option Nat := s.delivery.lanes.findIdx? (fun l => l.state == .idle)

/-- R133: the bytes of the pages from acknowledged-through + 1 on. -/
def State.bytesLeft (s : State) (d : Doc) : Nat :=
  ((d.pages.drop d.ackThrough).map (fun r => ((s.record r).map PageRecord.length).getD 0)).sum

/-- R133: where delivery resumes at a grant to a point. -/
def Doc.resumeAt (d : Doc) (p : Nat) : Doc := if d.resume.isSome && d.resume != some p then d.restart else d

/-- R133: the OFFER of a document to a point. -/
def State.offerOf (s : State) (d : Doc) (p : Nat) : OfficeFrame :=
  { dest := p, body := .offer d.receipt d.current d.cls d.pages.length (d.ackThrough + 1) (s.bytesLeft d) d.station }

/-- R132, R133: one grant. -/
def State.grant (s : State) (i : Nat) (g : Grant) : State :=
  let d := ({ g.doc with state := .delivering, notBefore := none } : Doc).resumeAt g.point
  let s := s.unqueue g.box g.slot
  let s := { s with mail := { s.mail with lastServed := g.box } }
  let s := (s.setDoc g.slot d).setPoint g.point { s.point g.point with lane := some i }
  let s := s.setLane i { s.lane i with state := .offering, job := some { slot := g.slot, point := g.point } }
  (s.produce i [s.offerOf d g.point]).handLane i

/-- R132: grants one after another, at most one to each lane. -/
def State.grants (s : State) (n : Nat) : State :=
  match n with
  | 0 => s
  | n + 1 =>
    match s.idleLane, s.choose with
    | some i, some g => (s.grant i g).grants n
    | _, _ => s

/-- ARBITER_ROUND (R132): a round for the oldest trigger not yet taken. -/
def execArbiterRound (s : State) : Host.Outcome State Fault Refusal :=
  act (fun s => match s.waiting.triggers with
    | [] => s
    | _ :: rest => { s with waiting := { s.waiting with triggers := rest } }.grants laneCount) s

/-! ### Read completions (R6, R7, R135, R152, R158) -/

/-- R7: a failed check makes the page DAMAGED, raises the damaged count and PAGE_DAMAGED, if the record is still
in the page list of the document with the receipt number (R152) and was not DAMAGED already. -/
def State.checkFailed (s : State) (r pos receipt : Nat) : State :=
  match s.docOf receipt, s.record r with
  | some (slot, d), some x =>
    match x.finish with
    | none => s
    | some f =>
      if d.pages.contains r ∧ f.verdict ≠ .damaged then
        ((s.setRecord r { x with finish := some { f with verdict := .damaged } }).setDoc slot
          { d with damaged := d.damaged + 1 }).raise .pageStore (.pageDamaged receipt x.number pos)
      else s
  | _, _ => s

/-- The buffer a lane is reading into. -/
def Lane.readingBuf (l : Lane) : Option (BufId × Nat × List Byte) :=
  match l.buf0, l.buf1 with
  | .reading k bytes, _ => some (.first, k, bytes)
  | _, .reading k bytes => some (.second, k, bytes)
  | _, _ => none

/-- R135: the bytes of a block placed in the buffer; then the next block asked for, or the page READ. -/
def State.takeBlock (s : State) (i r pos receipt : Nat) (bytes : List Byte) : State :=
  let l := s.lane i
  match l.readingBuf with
  | none => s.setLane i { l with reading := .none }
  | some (b, k, held) =>
    if pos < (s.blocksOf r).length then
      (s.setLane i (l.setBuf b (.reading k (held ++ bytes)))).beginRead i r (pos + 1) receipt
    else
      (s.setLane i { l.setBuf b (.read k (held ++ bytes)) with order := l.order ++ [b], reading := .none }).laneOn i

/-- R155: in WITHDRAWING the bytes are dropped and the buffer becomes EMPTY. -/
def State.dropBlock (s : State) (i : Nat) : State :=
  let l := s.lane i
  let l := match l.readingBuf with
    | none => l
    | some (b, _, _) => l.setBuf b .empty
  (s.setLane i { l with reading := .none }).withdrawalMayEnd i

/-- What a lane does with the bytes of a read completed (R135, R152, R155); an abandoned read too may be what a
withdrawal waits for (R156). -/
def State.readDone (s : State) (i r pos receipt : Nat) (bytes : List Byte) : State :=
  match (s.lane i).reading with
  | .live =>
    if (s.lane i).state = .withdrawing then s.dropBlock i else s.takeBlock i r pos receipt bytes
  | _ => ((s.setLane i { s.lane i with reading := .none }).laneOn i).withdrawalMayEnd i

/-- R6: a block read served at the memory port. -/
def State.completeRead (s : State) (i r pos block receipt : Nat) (decay : List (Nat × Byte)) : State :=
  let s := s.portDone.decayBlock block decay
  let bytes := s.blockBytesOf block
  let s := if s.blockPasses block then s else s.checkFailed r pos receipt
  s.readDone i r pos receipt bytes

/-- READ_COMPLETION (R6): the block read at the head of the port queue; `decay` lists the cells of the block that
no longer hold what was written (log 9). -/
def execReadCompletion (decay : List (Nat × Byte)) (s : State) : Host.Outcome State Fault Refusal :=
  match s.store.port with
  | .read i r pos block receipt :: _ =>
    if block < blockCount then act (fun s => s.completeRead i r pos block receipt decay) s else .fault .noSuchBlock
  | _ => act (fun s => s) s

/-! ### Withdrawal (R154) -/

/-- The lane that serves the document with a receipt number. -/
def State.laneServing (s : State) (receipt : Nat) : Option Nat :=
  (List.range laneCount).find? (fun i => ((s.laneDoc i).map (fun e => e.2.receipt)) == some receipt)

/-- R154 step 1: an ack timer stopped. -/
def PageBuf.stopped (b : PageBuf) : PageBuf :=
  match b with
  | .outstanding k bytes slot _ => .outstanding k bytes slot none
  | x => x

/-- R154: a lane enters WITHDRAWING: its page frames not yet handed are dropped, and WITHDRAW follows what is left:
TOO_SMALL returns, and an OFFER that waits behind a frame of an ended delivery (R152). -/
def State.withdraw (s : State) (i p receipt : Nat) : State :=
  let l := s.lane i
  (s.setLane i { l with
      state := .withdrawing, acceptTimer := none, waitTimer := none, buf0 := l.buf0.stopped, buf1 := l.buf1.stopped,
      produced := l.produced.filter (fun f => !f.ofPage) ++ [{ dest := p, body := .withdraw receipt }],
      withdrawn := false }).handLane i

/-- R154: the request is taken by the Delivery Unit. -/
def State.takeWithdrawal (s : State) (receipt : Nat) : State :=
  match s.laneServing receipt with
  | none => s.completeDeferred receipt
  | some i => s.withdraw i (((s.lane i).job.map Job.point).getD 0) receipt

/-- WITHDRAWAL_REQUEST (R154): the Delivery Unit takes the withdrawal asked for by the request in the slot. -/
def execWithdrawalRequest (s : State) : Host.Outcome State Fault Refusal :=
  act (fun s => match s.mgmt.slot with
    | .deferred h kind receipt false =>
      { s with mgmt := { s.mgmt with slot := .deferred h kind receipt true } }.takeWithdrawal receipt
    | _ => s) s

/-! ### The loss of the office link (R117, R121, R159) -/

/-- R121 step 1: the points that are not OFFLINE, from address p on. -/
def State.pointsDown (s : State) (p n : Nat) : State :=
  match n with
  | 0 => s
  | n + 1 =>
    let s := if (s.point p).state = .offline then s else s.pointOff p
    s.pointsDown (p + 1) n

/-- R121 step 2: the lanes that are not IDLE, from lane i on. -/
def State.lanesDown (s : State) (i n : Nat) : State :=
  match n with
  | 0 => s
  | n + 1 =>
    let s := if (s.lane i).state = .idle then s else s.suspendUncounted i .officeLinkDown
    s.lanesDown (i + 1) n

/-- R117, R120: the link goes DOWN; its waiting frames are discarded first. -/
def State.officeDown (s : State) : State :=
  let s := { s with office := { s.office with queue := [] } }.discardAll s.office.queue
  let s := { s with office := { s.office with link := .down, silence := none } }.portReport (.link .down)
  (s.pointsDown 1 pointCount).lanesDown 0 laneCount

/-- OFFICE_SILENCE_EXPIRY (R117, R121). -/
def execOfficeSilenceExpiry (s : State) : Host.Outcome State Fault Refusal :=
  act (fun s => match expiring s.office.silence with
    | none => s
    | some due => (s.advanceTo due).officeDown) s

end Sys2Proof.Machine
end

