-- ==== Sys2Proof/Machine/Reset.lean ====
section
/-! DEFINITION. Resets, the pins, the stop of the clock (spec/10_management_requests_notices_and_engine_states.md,
sections 10.5, 10.8 and 10.9), and the Office Port's reports, one of which makes a restart. -/

namespace Sys2Proof.Machine

open Sys2Proof.Config

/-- R193: power-on and pin reset: the clock is not kept. The bytes of the store stay (R1; log 11). -/
def State.coldReset (s : State) (cause : ResetCause) : State :=
  State.afterReset s.pending s.store.mem (Management.afterReset cause ⟨0, 0⟩ false)

/-- R184, R194: a restart keeps the time-of-day and the clock-set flag. -/
def State.restartReset (s : State) : State :=
  State.afterReset s.pending s.store.mem (Management.afterReset .restart s.mgmt.tod s.mgmt.clockSet)

/-- POWER_ON_RESET (R193). With the reset input asserted the 6024 stays in reset and will leave it with cause
POWER_ON (log 12). -/
def execPowerOnReset (s : State) : Host.Outcome State Fault Refusal :=
  .next { s.coldReset .powerOn with heldReset := s.heldReset.map (fun _ => .powerOn) }

/-- PIN_RESET_ASSERT (R193): the 6024 is held in reset while the input stays asserted. -/
def execPinResetAssert (s : State) : Host.Outcome State Fault Refusal :=
  match s.heldReset with
  | some _ => .next s
  | none => .next { s.coldReset .pin with heldReset := some .pin }

/-- PIN_RESET_RELEASE (R193): the 6024 leaves reset and records the cause. -/
def execPinResetRelease (s : State) : Host.Outcome State Fault Refusal :=
  match s.heldReset with
  | none => .next s
  | some cause => .next (s.coldReset cause)

/-- TIME_OF_DAY_LIMIT (R184): the time-of-day reaches its last value and stops there (log 33). -/
def execTimeOfDayLimit (s : State) : Host.Outcome State Fault Refusal :=
  act (fun s => s.advance (todMax - TimeOfDay.total s.mgmt.tod)) s

/-! ### Reports of the Office Port (R120) -/

/-- R137: the buffer whose PAGE_TAIL has been sent becomes OUTSTANDING; in WITHDRAWING its ack timer does not
start (log 17). -/
def State.tailSent (s : State) (i : Nat) : State :=
  let l := s.lane i
  let wait := ((l.job.bind (fun j => s.pointRow j.point)).map PointRow.ack).getD 0
  let due := if l.state = .withdrawing then none else some (s.after (wait * 1000))
  match l.buf0, l.buf1 with
  | .goingOut k bytes slot, _ => s.setLane i { l with buf0 := .outstanding k bytes slot due }
  | _, .goingOut k bytes slot => s.setLane i { l with buf1 := .outstanding k bytes slot due }
  | _, _ => s

/-- R133: the accept timer starts at the OFFER's sent report, while the lane is OFFERING. -/
def State.offerSent (s : State) (i : Nat) : State :=
  let l := s.lane i
  let wait := ((l.job.bind (fun j => s.pointRow j.point)).map PointRow.accept).getD 0
  if l.state = .offering then s.setLane i { l with acceptTimer := some (s.after (wait * 1000)) } else s

/-- R156: the WITHDRAW has been sent. -/
def State.withdrawSent (s : State) (i : Nat) : State :=
  (s.setLane i { s.lane i with withdrawn := true }).withdrawalMayEnd i

/-- R133, R137, R156: what the sent report of a frame of the present delivery does besides freeing the way. -/
def State.laneFrameSent (s : State) (i : Nat) (f : OfficeFrame) : State :=
  match f.body with
  | .offer _ _ _ _ _ _ _ => s.offerSent i
  | .pageTail _ _ => s.tailSent i
  | .withdraw _ => s.withdrawSent i
  | _ => s

/-- R130: a lane's report: a frame of an ended delivery only frees the way (R152). -/
def State.laneSent (s : State) (i : Nat) (f : OfficeFrame) : State :=
  let was := (s.lane i).pending
  let s := s.setLane i { s.lane i with pending := .none }
  (if was = .current then s.laneFrameSent i f else s).laneOn i

/-- R178, R194: the reply has left or been discarded; that of RESTART resets the 6024, at any discarded report of it
(log 42, DESIGN CHOICE). -/
def State.replyDone (s : State) (restart : Bool) : State :=
  if restart then s.restartReset else { s with mgmt := { s.mgmt with replyOut := false } }.handReply

/-- R192: the notice has been sent: it leaves the queue and the next is handed. -/
def State.noticeSent (s : State) : State :=
  { s with mgmt := { s.mgmt with notices := s.mgmt.notices.tail, noticeOut := false } }.handNotice

/-- R120: the report to the hander of a frame that has left the link. -/
def State.sentTo (s : State) (h : Hander) (f : OfficeFrame) : State :=
  match h with
  | .lane i => s.laneSent i f
  | .reply => s.replyDone (match f.body with
      | .reply r => r.restart
      | _ => false)
  | .notice => s.noticeSent
  | .point _ => s

/-- FRAME_SENT_REPORT (R120): the oldest frame handed has left the link. -/
def execFrameSentReport (s : State) : Host.Outcome State Fault Refusal :=
  act (fun s => match s.office.queue with
    | [] => s
    | (h, f) :: rest => ({ s with office := { s.office with queue := rest } }.officeSent f).sentTo h f) s

/-- R130: a discarded report frees the way and starts no timer. -/
def State.laneDiscarded (s : State) (i : Nat) : State :=
  { s with waiting := { s.waiting with laneDiscards := eraseFirst i s.waiting.laneDiscards } }.setLane i
    { s.lane i with pending := .none }

/-- FRAME_DISCARDED_REPORT (R120): a lane, or the Management Unit, takes a discarded report. -/
def execFrameDiscardedReport (dest : Reportee) (s : State) : Host.Outcome State Fault Refusal :=
  act (fun s => match dest with
    | .lane i => if s.waiting.laneDiscards.contains i then (s.laneDiscarded i).laneOn i else s
    | .management =>
      match s.waiting.portReports with
      | .discardedReply restart :: rest =>
        { s with waiting := { s.waiting with portReports := rest } }.replyDone restart
      | .discardedNotice :: rest =>
        { s with waiting := { s.waiting with portReports := rest }, mgmt := { s.mgmt with noticeOut := false } }
      | _ => s) s

/-- OFFICE_LINK_STATE_REPORT (R117, R192): at a report of UP the Management Unit resumes handing notices. -/
def execOfficeLinkStateReport (s : State) : Host.Outcome State Fault Refusal :=
  act (fun s => match s.waiting.portReports with
    | .link st :: rest =>
      let s := { s with waiting := { s.waiting with portReports := rest } }
      match st with
      | .up => s.handNotice
      | .down => s
    | _ => s) s

end Sys2Proof.Machine
end

