-- ==== Sys2Proof/Machine/Tables.lean ====
section
/-! DEFINITION. The Table Unit (spec/09_loaded_tables_staging_commit_and_generations.md): canonical order, staging,
the examination and the completion of a COMMIT, the swap and its effects. -/

namespace Sys2Proof.Machine

open Sys2Proof.Config

/-! ### Keys and canonical order (section 9.1, R161) -/

/-- R161: characters rank 0, 1 to 9, then star, then hash. -/
def digitRank (c : Nat) : Nat := if c = 42 then 10 else if c = 35 then 11 else c - 48

/-- Character by character; a shorter string before any longer one that begins with it. -/
def strLt (rank : Nat → Nat) (a b : Str) : Bool :=
  match a, b with
  | [], [] => false
  | [], _ :: _ => true
  | _ :: _, [] => false
  | x :: t, y :: u => if rank x < rank y then true else if rank y < rank x then false else strLt rank t u

def routeLt (a b : RouteEntry) : Bool := strLt digitRank a.stem b.stem

/-- R161: CALLER entries before STATION entries. -/
def screenLt (a b : ScreenEntry) : Bool :=
  match a.kind, b.kind with
  | .caller, .caller => strLt digitRank a.str b.str
  | .caller, .station => true
  | .station, .caller => false
  | .station, .station => strLt (fun c => c) (trim a.str) (trim b.str)

/-- An entry put before the first that is not before it. -/
def insertBy {α : Type} (lt : α → α → Bool) (a : α) (l : List α) : List α :=
  match l with
  | [] => [a]
  | b :: t => if lt b a then b :: insertBy lt a t else a :: b :: t

/-- A list in the order of `lt`. -/
def sortBy {α : Type} (lt : α → α → Bool) (l : List α) : List α :=
  match l with
  | [] => []
  | a :: t => insertBy lt a (sortBy lt t)

/-- Section 9.1: when two screening keys are equal. -/
def screenKeyEq (k : MatchKind) (s : Str) (e : ScreenEntry) : Bool :=
  e.kind == k && (match k with
    | .caller => e.str == s
    | .station => trim e.str == trim s)

/-! ### The four tables as one -/

/-- R160: entries of a routing or screening copy, rows in use of a mailbox or point copy. -/
def TableUnit.stagingCount (u : TableUnit) (t : TableId) : Nat :=
  match t with
  | .routing => u.routing.staging.length
  | .screening => u.screening.staging.length
  | .mailbox => u.mailbox.staging.length
  | .point => u.point.staging.length

def TableUnit.liveCount (u : TableUnit) (t : TableId) : Nat :=
  match t with
  | .routing => u.routing.live.length
  | .screening => u.screening.live.length
  | .mailbox => u.mailbox.live.length
  | .point => u.point.live.length

def TableUnit.generation (u : TableUnit) (t : TableId) : Nat :=
  match t with
  | .routing => u.routing.generation
  | .screening => u.screening.generation
  | .mailbox => u.mailbox.generation
  | .point => u.point.generation

def TableUnit.check (u : TableUnit) (t : TableId) : BitVec 32 :=
  match t with
  | .routing => u.routing.check
  | .screening => u.screening.check
  | .mailbox => u.mailbox.check
  | .point => u.point.check

def Copies.setStaging {α : Type} (c : Copies α) (l : List α) : Copies α := { c with staging := l }

/-- R164: STAGE_CLEAR. -/
def TableUnit.clear (u : TableUnit) (t : TableId) : TableUnit :=
  match t with
  | .routing => { u with routing := u.routing.setStaging [] }
  | .screening => { u with screening := u.screening.setStaging [] }
  | .mailbox => { u with mailbox := u.mailbox.setStaging [] }
  | .point => { u with point := u.point.setStaging [] }

/-- R164: STAGE_REVERT. -/
def TableUnit.revert (u : TableUnit) (t : TableId) : TableUnit :=
  match t with
  | .routing => { u with routing := u.routing.setStaging u.routing.live }
  | .screening => { u with screening := u.screening.setStaging u.screening.live }
  | .mailbox => { u with mailbox := u.mailbox.setStaging u.mailbox.live }
  | .point => { u with point := u.point.setStaging u.point.live }

/-! ### STAGE_PUT and STAGE_REMOVE (R162, R163) -/

/-- R162: a STATION string is stored without its trailing spaces. -/
def storedScreen (e : ScreenEntry) : ScreenEntry :=
  match e.kind with
  | .caller => e
  | .station => { e with str := trim e.str }

/-- Section 9.1: the values of fields a STAGE_PUT leaves unstated. -/
def storedPoint (e : PointPut) : PointRow :=
  { manage := e.manage.getD false, accept := e.accept.getD 5, ack := e.ack.getD 15, wait := e.wait.getD 30,
    maxSlots := e.maxSlots.getD 8 }

/-- Rows put in turn; of two for the same row the later stands. -/
def putRows {α : Type} (rows : List (Nat × α)) (l : List (Nat × α)) : List (Nat × α) :=
  rows.foldl (fun l e => tablePut e.1 e.2 l) l

/-- R162: the entries taken into the staging copy; none where they would exceed its limit. -/
def TableUnit.put (u : TableUnit) (es : StageEntries) : Option TableUnit :=
  match es with
  | .routing l =>
    if u.routing.staging.length + l.length ≤ routeLimit
    then some { u with routing := u.routing.setStaging (u.routing.staging ++ l) } else none
  | .screening l =>
    if u.screening.staging.length + l.length ≤ screenLimit
    then some { u with screening := u.screening.setStaging (u.screening.staging ++ l.map storedScreen) } else none
  | .mailbox l => some { u with mailbox := u.mailbox.setStaging (putRows l u.mailbox.staging) }
  | .point l =>
    some { u with point := u.point.setStaging (putRows (l.map (fun e => (e.1, storedPoint e.2))) u.point.staging) }

def StageEntries.table (es : StageEntries) : TableId :=
  match es with
  | .routing _ => .routing
  | .screening _ => .screening
  | .mailbox _ => .mailbox
  | .point _ => .point

def StageKeys.table (ks : StageKeys) : TableId :=
  match ks with
  | .routing _ => .routing
  | .screening _ => .screening
  | .mailbox _ => .mailbox
  | .point _ => .point

/-- R163: every entry with one of the keys removed. -/
def TableUnit.remove (u : TableUnit) (ks : StageKeys) : TableUnit :=
  match ks with
  | .routing l =>
    { u with routing := u.routing.setStaging (u.routing.staging.filter (fun e => !l.contains e.stem)) }
  | .screening l =>
    { u with
      screening :=
        u.screening.setStaging (u.screening.staging.filter (fun e => !l.any (fun k => screenKeyEq k.1 k.2 e))) }
  | .mailbox l => { u with mailbox := u.mailbox.setStaging (u.mailbox.staging.filter (fun e => !l.contains e.1)) }
  | .point l => { u with point := u.point.setStaging (u.point.staging.filter (fun e => !l.contains e.1)) }

/-! ### Reading a copy (R165) -/

/-- Entries at positions i to i + c − 1, each with its position. -/
def positioned {α : Type} (i c : Nat) (l : List α) : List (Nat × α) :=
  ((l.drop i).take c).zipIdx.map (fun e => (e.2 + i, e.1))

/-- Rows i to i + c − 1 of those up to `last`, each with what it holds when in use. -/
def rowsFrom {α : Type} (i c last : Nat) (l : List (Nat × α)) : List (Nat × Option α) :=
  ((List.range c).filter (fun k => decide (i + k ≤ last))).map (fun k => (i + k, tableGet (i + k) l))

/-- R165: how a reading fares: its result and its items. -/
def listReading {α : Type} (limit i c : Nat) (l : List α) (f : List (Nat × α) → TableItems) :
    Result × Option TableItems :=
  if !within 1 8 c || limit ≤ i then (.badArgument, none)
  else if l.length ≤ i then (.range, none)
  else (.ok, some (f (positioned i c l)))

def rowReading {α : Type} (first last i c : Nat) (l : List (Nat × α)) (f : List (Nat × Option α) → TableItems) :
    Result × Option TableItems :=
  if !within 1 8 c || !within first last i then (.badArgument, none) else (.ok, some (f (rowsFrom i c last l)))

/-- R165: STAGE_READ. -/
def TableUnit.readStaging (u : TableUnit) (t : TableId) (i c : Nat) : Result × Option TableItems :=
  match t with
  | .routing => listReading routeLimit i c u.routing.staging .routing
  | .screening => listReading screenLimit i c u.screening.staging .screening
  | .mailbox => rowReading 0 63 i c u.mailbox.staging .mailbox
  | .point => rowReading 1 pointCount i c u.point.staging .point

/-- R165: TABLE_READ. -/
def TableUnit.readLive (u : TableUnit) (t : TableId) (i c : Nat) : Result × Option TableItems :=
  match t with
  | .routing => listReading routeLimit i c u.routing.live .routing
  | .screening => listReading screenLimit i c u.screening.live .screening
  | .mailbox => rowReading 0 63 i c u.mailbox.live .mailbox
  | .point => rowReading 1 pointCount i c u.point.live .point

/-! ### The examination (R167, R168) -/

/-- A failure a COMMIT reports: the entry index and the reason. -/
abbrev Failure := Option (Nat × CommitReason)

def TableUnit.mailLive (u : TableUnit) (m : Nat) : Bool := (tableGet m u.mailbox.live).isSome

def TableUnit.pointLive (u : TableUnit) (p : Nat) : Bool := (tableGet p u.point.live).isSome

/-- R167: routing entries in staging order, `seen` those before. -/
def TableUnit.testRoutes (u : TableUnit) (seen l : List RouteEntry) : Failure :=
  match l with
  | [] => none
  | e :: t =>
    if seen.any (fun x => x.stem == e.stem) then some (seen.length, .duplicateKey)
    else if !u.mailLive e.mailbox then some (seen.length, .mailboxUndefined)
    else u.testRoutes (seen ++ [e]) t

/-- R167, BAD_FIELD: a target is present for REDIRECT and for no other action. -/
def screenFieldOk (e : ScreenEntry) : Bool := (e.action == .redirect) == e.target.isSome

/-- R167: screening entries in staging order. -/
def TableUnit.testScreens (u : TableUnit) (seen l : List ScreenEntry) : Failure :=
  match l with
  | [] => none
  | e :: t =>
    if seen.any (screenKeyEq e.kind e.str) then some (seen.length, .duplicateKey)
    else if !screenFieldOk e then some (seen.length, .badField)
    else if e.action == .redirect && !optionOk u.mailLive e.target then some (seen.length, .mailboxUndefined)
    else u.testScreens (seen ++ [e]) t

/-- R167: mailbox rows in ascending order; overflow is tested within the staging copy. -/
def TableUnit.testMailRows (u : TableUnit) (l : List (Nat × MailRow)) : Failure :=
  match l with
  | [] => none
  | (m, r) :: t =>
    if r.alternate == some r.primary || r.overflow == some m then some (m, .badField)
    else if !optionOk (fun o => (tableGet o u.mailbox.staging).isSome) r.overflow then some (m, .mailboxUndefined)
    else if !u.pointLive r.primary || !optionOk u.pointLive r.alternate then some (m, .pointUndefined)
    else u.testMailRows t

/-- R168: the rows in use in the live copy and not in the staging copy, in ascending order. -/
def removedRows {α : Type} (c : Copies (Nat × α)) : List Nat :=
  (c.live.filter (fun e => (tableGet e.1 c.staging).isNone)).map Prod.fst

/-- The rows in use in the staging copy and not in the live copy, in ascending order. -/
def addedRows {α : Type} (c : Copies (Nat × α)) : List Nat :=
  (c.staging.filter (fun e => (tableGet e.1 c.live).isNone)).map Prod.fst

/-- R168 test 1: whether a live route or screen names a mailbox. -/
def TableUnit.namesMailbox (u : TableUnit) (m : Nat) : Bool :=
  u.routing.live.any (fun e => e.mailbox == m)
    || u.screening.live.any (fun e => e.action == .redirect && e.target == some m)

/-- R168 test 2: whether a live mailbox row names a point. -/
def TableUnit.namesPoint (u : TableUnit) (p : Nat) : Bool :=
  u.mailbox.live.any (fun e => e.2.primary == p || e.2.alternate == some p)

/-- R168 test 3: whether a source would lose its permission. -/
def TableUnit.losesManager (u : TableUnit) (src : Nat) : Bool :=
  pointOk src && !((tableGet src u.point.staging).map PointRow.manage).getD false

/-- The first number of a list that passes a test, as a failure. -/
def failAt (l : List Nat) (p : Nat → Bool) (reason : CommitReason) : Failure :=
  (l.find? p).map (fun n => (n, reason))

/-- The first failure of two. -/
def orElseFail (a b : Failure) : Failure := match a with | none => b | some x => some x

/-- R167, R168: the examination of a COMMIT from a source (its time is log 23). -/
def TableUnit.examine (u : TableUnit) (t : TableId) (src : Nat) : Failure :=
  match t with
  | .routing => u.testRoutes [] u.routing.staging
  | .screening => u.testScreens [] u.screening.staging
  | .mailbox =>
    orElseFail (u.testMailRows u.mailbox.staging) (failAt (removedRows u.mailbox) u.namesMailbox .mailboxUndefined)
  | .point =>
    orElseFail (failAt (removedRows u.point) u.namesPoint .pointUndefined)
      (if u.losesManager src then some (src, .pointManagerLost) else none)

/-! ### The completion event (R169 to R171) -/

/-- R72, R169: whether a document in use or a pending placement names a mailbox. -/
def State.mailboxNamed (s : State) (m : Nat) : Bool :=
  s.docList.any (fun e => e.2.names m)
    || s.calls.channels.any (fun c => match c.decision.bind Decision.placement with
        | none => false
        | some p => p.routed == m || p.final == m)

/-- R169 test 2: whether a point has a serving lane. -/
def State.pointServed (s : State) (p : Nat) : Bool := (s.point p).lane.isSome

/-- R169: the tests against traffic. -/
def State.trafficTests (s : State) (t : TableId) : Failure :=
  match t with
  | .mailbox => failAt (removedRows s.tables.mailbox) s.mailboxNamed .mailboxInUse
  | .point => failAt (removedRows s.tables.point) s.pointServed .pointInUse
  | _ => none

/-- R171: the staging copy, in canonical order, becomes live, with its new generation and check value. -/
def Copies.swap {α : Type} (c : Copies α) (order : List α → List α) (image : α → List Byte) : Copies α :=
  let l := order c.staging
  { live := l, staging := l, generation := bump max32 c.generation, check := crc32 (l.flatMap image) }

/-- R171: the swap of one table; rows are kept in ascending key order. -/
def TableUnit.swap (u : TableUnit) (t : TableId) : TableUnit :=
  match t with
  | .routing => { u with routing := u.routing.swap (sortBy routeLt) routeImage }
  | .screening => { u with screening := u.screening.swap (sortBy screenLt) screenImage }
  | .mailbox => { u with mailbox := u.mailbox.swap (fun l => l) (fun e => mailImage e.1 e.2) }
  | .point => { u with point := u.point.swap (fun l => l) (fun e => pointRowImage e.1 e.2) }

/-- R171: the effects of a swap, to be taken by their owners as events that follow it (log 24). -/
def State.swapEffects (s : State) (t : TableId) : State :=
  match t with
  | .mailbox =>
    { s with waiting := { s.waiting with
      mailSwaps := s.waiting.mailSwaps ++ [removedRows s.tables.mailbox ++ addedRows s.tables.mailbox] } }
  | .point =>
    { s with waiting := { s.waiting with pointSwaps := s.waiting.pointSwaps ++ [removedRows s.tables.point] } }
  | _ => s

/-- R171: a commit that passes. -/
def State.swapTable (s : State) (h : ReqHead) (t : TableId) : State :=
  let s := s.swapEffects t
  let s := { s with tables := s.tables.swap t }
  s.reply h .commit .ok (.committed t (s.tables.generation t) (s.tables.check t) (s.tables.liveCount t))

/-- R169: the completion event of a COMMIT. -/
def State.completeCommit (s : State) (h : ReqHead) (t : TableId) : State :=
  match orElseFail (s.tables.examine t h.src) (s.trafficTests t) with
  | some (index, reason) => s.reply h .commit .tableInvalid (.invalid index reason)
  | none => s.swapTable h t

/-- COMMIT_COMPLETION (R169). -/
def execCommitCompletion (s : State) : Host.Outcome State Fault Refusal :=
  act (fun s => match s.mgmt.slot with
    | .commit h t => s.completeCommit h t
    | _ => s) s

/-! ### Effects of a swap (R173, R174) -/

/-- R173: whether a document's resume point is tested, and fails against the new row of its current mailbox. -/
def TableUnit.resumeLost (u : TableUnit) (d : Doc) : Bool :=
  (d.state == .queued || d.state == .held) && decide (d.current < mailboxCount) && (match d.resume with
    | none => false
    | some r => match tableGet d.current u.mailbox.live with
      | none => true
      | some row => row.primary != r && row.alternate != some r)

/-- R173: the resume points of QUEUED and HELD documents tested as one event. -/
def State.testResumes (s : State) : State :=
  { s with docs := { s.docs with
    slots := s.docs.slots.map (fun e => match e.2 with
      | .claimed _ => e
      | .inUse d => if s.tables.resumeLost d then (e.1, .inUse d.restart) else e) } }

/-- MAILBOX_SWAP_EFFECTS (R173): flags, resume points, arbiter trigger, for the oldest swap not yet taken. -/
def execMailboxSwapEffects (s : State) : Host.Outcome State Fault Refusal :=
  act (fun s => match s.waiting.mailSwaps with
    | [] => s
    | rows :: rest =>
      (({ s with waiting := { s.waiting with mailSwaps := rest } }.openBoxes rows).testResumes).trigger
        (.swap .mailbox)) s

/-- R174: points removed become OFFLINE. One that was OFFLINE already raises no POINT_CHANGED (log 51, DESIGN CHOICE). -/
def State.pointsRemoved (s : State) (ps : List Nat) : State :=
  match ps with
  | [] => s
  | p :: t =>
    let s := if (s.point p).state = .offline then s.setPoint p { s.point p with intake := [] } else s.pointOff p
    s.pointsRemoved t

/-- R125, R174: slots past the new maximum returned, newest first. -/
def State.cutIntake (s : State) (p max : Nat) : State :=
  let l := (s.point p).intake
  (s.setPoint p { s.point p with intake := l.take max }).returnSlots p
    ((l.drop max).reverse.map IntakeSlot.id) .overLimit

/-- R174: every point still in use keeps at most its maximum of slots; the points in ascending address (log 38, DESIGN
CHOICE). -/
def State.cutIntakes (s : State) (rows : List (Nat × PointRow)) : State :=
  match rows with
  | [] => s
  | e :: t => (s.cutIntake e.1 e.2.maxSlots).cutIntakes t

/-- POINT_SWAP_EFFECTS (R174): the oldest point swap not yet taken: the points removed, then the points in use, each
in ascending address (log 38, DESIGN CHOICE). -/
def execPointSwapEffects (s : State) : Host.Outcome State Fault Refusal :=
  act (fun s => match s.waiting.pointSwaps with
    | [] => s
    | removed :: rest =>
      (({ s with waiting := { s.waiting with pointSwaps := rest } }.pointsRemoved removed).cutIntakes
        s.tables.point.live).trigger (.swap .point)) s

end Sys2Proof.Machine
end

