-- ==== Sys2Proof/Machine/Requests.lean ====
section
/-! DEFINITION. The management requests on the engine, its parameters, clocks, flags, channels, tables and points
(spec/10_management_requests_notices_and_engine_states.md; R52, R141, R162 to R166). -/

namespace Sys2Proof.Machine

open Sys2Proof.Config

/-! ### Status and flags (R187, R189) -/

/-- R187: the items of READ_STATUS, read at one event (log 20). -/
def State.status (s : State) : StatusImage :=
  { intake := s.mgmt.intake, run := s.mgmt.run, cause := s.mgmt.cause, clockSet := s.mgmt.clockSet,
    unacknowledged := s.mgmt.unacknowledged, tod := s.mgmt.tod, uptime := s.mgmt.uptime, mode := s.mgmt.params.mode,
    noticeCount := s.mgmt.notices.length, lost := s.mgmt.lost, outstanding := s.mgmt.outstanding,
    dropped := s.mgmt.dropped, busy := s.busy, lineLink := s.line.link, lineErrors := s.line.errors,
    officeLink := s.office.link, officeErrors := s.office.errors, freeBlocks := s.store.free.length,
    freeRecords := s.freeRecords, level := s.pressure.level, freeSlots := s.freeSlots,
    counter := s.docs.counter.getD 0, written := s.journal.log.length, reserved := s.journal.reserved,
    unrecorded := s.journal.unrecorded, lanes := s.lanesBusy,
    tables := [TableId.routing, TableId.screening, TableId.mailbox, TableId.point].map
      (fun t => (s.tables.generation t, s.tables.check t)) }

/-- READ_STATUS (R187). -/
def execReadStatus (h : ReqHead) (s : State) : Host.Outcome State Fault Refusal :=
  act (fun s => s.request h .readStatus (fun s => s.reply h .readStatus .ok (.status s.status))) s

/-- READ_FLAGS (R189, R191): the mark becomes no after the reply is built. -/
def execReadFlags (h : ReqHead) (s : State) : Host.Outcome State Fault Refusal :=
  act (fun s => s.request h .readFlags (fun s =>
    { s with mgmt := { s.mgmt with outstanding := false } }.reply h .readFlags .ok
      (.flags s.mgmt.flags s.mgmt.lost s.mgmt.outstanding s.mgmt.notices.length))) s

/-- R189: one name cleared: a flag or NOTICES_LOST at once, a count by an event at its owner. A count already named and
not yet cleared gets no second event (log 40, DESIGN CHOICE). -/
def State.clearName (s : State) (n : Nat) : State :=
  match countName n with
  | some c =>
    if s.waiting.clears.contains c then s
    else { s with waiting := { s.waiting with clears := s.waiting.clears ++ [c] } }
  | none =>
    if n = 17 then { s with mgmt := { s.mgmt with lost := false } }
    else { s with mgmt := { s.mgmt with flags := clearFlag n s.mgmt.flags } }

/-- R189: the names of a list cleared. -/
def State.clearAll (s : State) (names : List Nat) : State := names.foldl State.clearName s

/-- CLEAR_FLAGS (R189). -/
def execClearFlags (h : ReqHead) (names : List Nat) (s : State) : Host.Outcome State Fault Refusal :=
  act (fun s => s.request h .clearFlags (fun s =>
    if clearNamesOk names then (s.clearAll names).reply h .clearFlags .ok .none
    else s.reply h .clearFlags .badArgument .none)) s

/-- R28, R89, R118, R178: a count becomes 0 at its owner. -/
def State.clearCount (s : State) (c : CountName) : State :=
  match c with
  | .unrecordedRefusals => { s with journal := { s.journal with unrecorded := 0 } }
  | .lineFrameErrors => { s with line := { s.line with errors := 0 } }
  | .officeFrameErrors => { s with office := { s.office with errors := 0 } }
  | .droppedRequests => { s with mgmt := { s.mgmt with dropped := 0 } }

/-- COUNT_CLEAR (R189): the owner of a count takes its clear. -/
def execCountClear (name : CountName) (s : State) : Host.Outcome State Fault Refusal :=
  act (fun s =>
    if s.waiting.clears.contains name then
      { s with waiting := { s.waiting with clears := eraseFirst name s.waiting.clears } }.clearCount name
    else s) s

/-! ### Parameters and clocks (R183 to R186) -/

def ParamFields.pressure (p : ParamFields) : PressureParams :=
  { tight := p.tight, critical := p.critical, hysteresis := p.hysteresis, enterDebounce := p.enterDebounce,
    exitDebounce := p.exitDebounce }

def ParamFields.installed (p : ParamFields) : Parameters :=
  { silence := p.silence, pressure := ParamFields.pressure p, lowMark := p.lowMark,
    mode := if p.mode = 1 then .streaming else .summary, masks := p.masks }

/-- R183, R191: the nine parameters installed; each other owner is handed its part as an event of its own. -/
def State.install (s : State) (p : Parameters) : State :=
  { s with
    mgmt := { s.mgmt with params := p, outstanding := s.mgmt.outstanding && s.mgmt.params.mode == p.mode }
    waiting := { s.waiting with
      pressureParts := s.waiting.pressureParts ++ [p.pressure]
      lowMarks := s.waiting.lowMarks ++ [p.lowMark]
      silences := s.waiting.silences ++ [p.silence] } }

/-- SET_PARAMETERS (R183). -/
def execSetParameters (h : ReqHead) (p : ParamFields) (s : State) : Host.Outcome State Fault Refusal :=
  act (fun s => s.request h .setParameters (fun s =>
    if paramFieldsOk p then
      (s.install (ParamFields.installed p)).reply h .setParameters .ok (.params (ParamFields.installed p))
    else s.reply h .setParameters .badArgument .none)) s

/-- READ_PARAMETERS (R183). -/
def execReadParameters (h : ReqHead) (s : State) : Host.Outcome State Fault Refusal :=
  act (fun s => s.request h .readParameters (fun s => s.reply h .readParameters .ok (.params s.mgmt.params))) s

/-- SET_CLOCK (R185). -/
def execSetClock (h : ReqHead) (secs ms : Nat) (s : State) : Host.Outcome State Fault Refusal :=
  act (fun s => s.request h .setClock (fun s =>
    if ms ≤ 999 ∧ secs ≤ max32 then
      { s with mgmt := { s.mgmt with tod := ⟨secs, ms⟩, clockSet := true } }.reply h .setClock .ok
        (.clock ⟨secs, ms⟩)
    else s.reply h .setClock .badArgument .none)) s

/-- R186: whether a slot is claimed. -/
def State.claimStands (s : State) : Bool :=
  s.docs.slots.any (fun e => match e.2 with
    | .claimed _ => true
    | .inUse _ => false)

/-- SET_RECEIPT_BASE (R186); the reply carries the counter with OK alone (log 21). -/
def execSetReceiptBase (h : ReqHead) (base : Nat) (s : State) : Host.Outcome State Fault Refusal :=
  act (fun s => s.request h .setReceiptBase (fun s =>
    if !receiptOk base then s.reply h .setReceiptBase .badArgument .none
    else if s.mgmt.intake ≠ .closed ∨ s.docList ≠ [] then s.reply h .setReceiptBase .wrongState .none
    else if s.claimStands then s.reply h .setReceiptBase .inUse .none
    else { s with docs := { s.docs with counter := some base } }.reply h .setReceiptBase .ok (.counter base))) s

/-! ### Restart (R194, R195) -/

/-- ACK_RESTART (R195). -/
def execAckRestart (h : ReqHead) (s : State) : Host.Outcome State Fault Refusal :=
  act (fun s => s.request h .ackRestart (fun s =>
    { s with mgmt := { s.mgmt with unacknowledged := false, flags := clearFlag 15 s.mgmt.flags } }.reply h
      .ackRestart .ok (.cause s.mgmt.cause))) s

/-- RESTART (R194): the reply joins the list at once; its report will reset the 6024. -/
def execRestart (h : ReqHead) (s : State) : Host.Outcome State Fault Refusal :=
  act (fun s => s.request h .restart (fun s =>
    { s with mgmt := { s.mgmt with slot := .restarting } }.addReply
      { dest := h.src, tag := h.tag, code := replyCode .restart, result := .ok, body := .none, holds := true,
        restart := true })) s

/-! ### Intake (R179 to R181) -/

/-- 10.2: a change of intake state raises INTAKE_CHANGED. -/
def State.setIntake (s : State) (st : IntakeState) : State :=
  if s.mgmt.intake = st then s
  else { s with mgmt := { s.mgmt with intake := st } }.raise .management (.intakeChanged s.mgmt.intake st)

/-- R179: the four conditions of INTAKE OPEN. -/
def State.intakeReady (s : State) : Bool :=
  s.mgmt.clockSet && decide (1 ≤ s.tables.routing.generation) && decide (1 ≤ s.tables.mailbox.generation)
    && !s.mgmt.unacknowledged

/-- INTAKE OPEN (R179). -/
def execIntakeOpen (h : ReqHead) (s : State) : Host.Outcome State Fault Refusal :=
  act (fun s => s.request h .intake (fun s =>
    if s.mgmt.intake = .opened then s.reply h .intake .ok .none
    else if s.intakeReady then (s.setIntake .opened).reply h .intake .ok .none
    else s.reply h .intake .notReady (.conditions s.mgmt.clockSet (1 ≤ s.tables.routing.generation)
      (1 ≤ s.tables.mailbox.generation) (!s.mgmt.unacknowledged)))) s

/-- INTAKE DRAIN (R180): by the busy channel count as it stands, also where it has fallen to 0 and the all-idle report
of that still waits to be taken (log 49, DESIGN CHOICE). -/
def execIntakeDrain (h : ReqHead) (s : State) : Host.Outcome State Fault Refusal :=
  act (fun s => s.request h .intake (fun s =>
    let s := if s.mgmt.intake = .opened then s.setIntake (if s.busy = 0 then .closed else .draining) else s
    s.reply h .intake .ok .none)) s

/-- R181: an abort passed to every channel, to be taken as an event of its own. -/
def State.abortAll (s : State) : State :=
  { s with calls := { s.calls with
    channels := s.calls.channels.map (fun c : Channel => { c with aborts := c.aborts + 1 }) } }

/-- INTAKE ABORT (R181). -/
def execIntakeAbort (h : ReqHead) (s : State) : Host.Outcome State Fault Refusal :=
  act (fun s => s.request h .intake (fun s =>
    (s.setIntake .closed).abortAll.reply h .intake .ok (.busy s.busy))) s

/-- ALL_IDLE_REPORT (R180): the Management Unit takes a report that all channels are idle. -/
def execAllIdleReport (s : State) : Host.Outcome State Fault Refusal :=
  act (fun s =>
    if s.waiting.idleReports = 0 then s
    else
      let s := { s with waiting := { s.waiting with idleReports := s.waiting.idleReports - 1 } }
      if s.mgmt.intake = .draining then s.setIntake .closed else s) s

/-! ### Delivery (R182) -/

/-- R182: the run state after the request, and the lanes not IDLE. -/
def State.replyRun (s : State) (h : ReqHead) : State := s.reply h .delivery .ok (.run s.mgmt.run s.lanesBusy)

/-- DELIVERY RUN (R182). -/
def execDeliveryRun (h : ReqHead) (s : State) : Host.Outcome State Fault Refusal :=
  act (fun s => s.request h .delivery (fun s =>
    let s := match s.mgmt.run with
      | .running => s
      | .stopped => { s with mgmt := { s.mgmt with run := .running } }.trigger .deliveryRun
    s.replyRun h)) s

/-- DELIVERY STOP (R182). -/
def execDeliveryStop (h : ReqHead) (s : State) : Host.Outcome State Fault Refusal :=
  act (fun s => s.request h .delivery (fun s =>
    { s with mgmt := { s.mgmt with run := .stopped } }.replyRun h)) s

/-! ### Channels (R52) -/

/-- R52: the page number a channel expects, n + 1; none without a document (log 26). -/
def State.expectedPage (s : State) (ch : Nat) : Option Nat :=
  ((s.channel ch).doc.bind s.doc).map (fun d => d.pages.length + 1)

/-- R52: the channel image; received length and page mark are those of a page under construction (log 26). -/
def State.channelImage (s : State) (ch : Nat) : ChannelImage :=
  let c := s.channel ch
  { state := c.state, enabled := c.enabled, receipt := (c.doc.bind s.doc).map Doc.receipt,
    expected := s.expectedPage ch, resends := c.resends, received := if c.page.isSome then c.received else 0,
    mark := c.page.isSome && c.mark, discards := c.discards.length,
    drop := if c.state = .releasing then c.drop else none, errors := c.errors }

/-- R52: an action on a channel, and the image as it stands after it. -/
def State.channelControl (s : State) (h : ReqHead) (ch : Nat) (f : Channel → Channel) : State :=
  s.request h .channelControl (fun s =>
    if channelOk ch then
      let s := s.setChannel ch (f (s.channel ch))
      s.reply h .channelControl .ok (.channel (s.channelImage ch))
    else s.reply h .channelControl .badArgument .none)

/-- CHANNEL_CONTROL READ (R52). -/
def execChannelRead (h : ReqHead) (ch : Nat) (s : State) : Host.Outcome State Fault Refusal :=
  act (fun s => s.channelControl h ch (fun c => c)) s

/-- CHANNEL_CONTROL ENABLE (R52). -/
def execChannelEnable (h : ReqHead) (ch : Nat) (s : State) : Host.Outcome State Fault Refusal :=
  act (fun s => s.channelControl h ch (fun c => { c with enabled := true })) s

/-- CHANNEL_CONTROL DISABLE (R52). -/
def execChannelDisable (h : ReqHead) (ch : Nat) (s : State) : Host.Outcome State Fault Refusal :=
  act (fun s => s.channelControl h ch (fun c => { c with enabled := false })) s

/-- CHANNEL_CONTROL CLEAR_ERRORS (R52). -/
def execChannelClearErrors (h : ReqHead) (ch : Nat) (s : State) : Host.Outcome State Fault Refusal :=
  act (fun s => s.channelControl h ch (fun c => { c with errors := 0 })) s

/-! ### Staging, readings and COMMIT (R162 to R166) -/

/-- R162 to R164: the staging copies changed, and the reply with the staging count. -/
def State.staged (s : State) (h : ReqHead) (k : ReqKind) (t : TableId) (u : TableUnit) : State :=
  { s with tables := u }.reply h k .ok (.staged (u.stagingCount t))

/-- STAGE_CLEAR (R164). -/
def execStageClear (h : ReqHead) (t : TableId) (s : State) : Host.Outcome State Fault Refusal :=
  act (fun s => s.request h .stageClear (fun s => s.staged h .stageClear t (s.tables.clear t))) s

/-- STAGE_REVERT (R164). -/
def execStageRevert (h : ReqHead) (t : TableId) (s : State) : Host.Outcome State Fault Refusal :=
  act (fun s => s.request h .stageRevert (fun s => s.staged h .stageRevert t (s.tables.revert t))) s

/-- STAGE_PUT (R162). -/
def execStagePut (h : ReqHead) (entries : StageEntries) (s : State) : Host.Outcome State Fault Refusal :=
  act (fun s => s.request h .stagePut (fun s =>
    if stageEntriesOk entries then
      match s.tables.put entries with
      | none => s.reply h .stagePut .range .none
      | some u => s.staged h .stagePut (StageEntries.table entries) u
    else s.reply h .stagePut .badArgument .none)) s

/-- STAGE_REMOVE (R163). -/
def execStageRemove (h : ReqHead) (keys : StageKeys) (s : State) : Host.Outcome State Fault Refusal :=
  act (fun s => s.request h .stageRemove (fun s =>
    if stageKeysOk keys then
      let t := StageKeys.table keys
      let u := s.tables.remove keys
      { s with tables := u }.reply h .stageRemove .ok
        (.removed (s.tables.stagingCount t - u.stagingCount t) (u.stagingCount t))
    else s.reply h .stageRemove .badArgument .none)) s

/-- STAGE_READ (R165). -/
def execStageRead (h : ReqHead) (t : TableId) (index count : Nat) (s : State) : Host.Outcome State Fault Refusal :=
  act (fun s => s.request h .stageRead (fun s =>
    match s.tables.readStaging t index count with
    | (_, some items) => s.reply h .stageRead .ok (.stageItems items (s.tables.stagingCount t))
    | (result, none) => s.reply h .stageRead result .none)) s

/-- TABLE_READ (R165). -/
def execTableRead (h : ReqHead) (t : TableId) (index count : Nat) (s : State) : Host.Outcome State Fault Refusal :=
  act (fun s => s.request h .tableRead (fun s =>
    match s.tables.readLive t index count with
    | (_, some items) =>
      s.reply h .tableRead .ok (.tableItems items (s.tables.liveCount t) (s.tables.generation t) (s.tables.check t))
    | (result, none) => s.reply h .tableRead result .none)) s

/-- COMMIT (R166): in flight from this event; it holds the slot until its completion. -/
def execCommit (h : ReqHead) (t : TableId) (s : State) : Host.Outcome State Fault Refusal :=
  act (fun s => s.request h .commit (fun s => { s with mgmt := { s.mgmt with slot := .commit h t } })) s

/-! ### Points (R141) -/

/-- R141: what a point image says of its serving lane, buffer 0 before buffer 1 (log 46, DESIGN CHOICE). -/
def State.laneImage (s : State) (i : Nat) : LaneImage :=
  let l := s.lane i
  { state := l.state, receipt := ((s.laneDoc i).map (fun e => e.2.receipt)).getD 0,
    buffers := [l.buf0.sent, l.buf1.sent].filterMap (fun x => x),
    ackThrough := ((s.laneDoc i).map (fun e => e.2.ackThrough)).getD 0 }

/-- R141: the point image. -/
def State.pointImage (s : State) (p : Nat) : PointImage :=
  let x := s.point p
  { point := p, row := s.pointRow p, state := x.state, intake := x.intake, lane := x.lane,
    laneImage := x.lane.map s.laneImage, failures := x.failures, errors := x.errors, unsent := x.unsent }

/-- R141: the two counts cleared after the image is built. -/
def State.clearPoint (s : State) (p clear : Nat) : State :=
  if clear = 1 then s.setPoint p { s.point p with errors := 0, unsent := 0 } else s

/-- POINT_READ (R141). -/
def execPointRead (h : ReqHead) (p clear : Nat) (s : State) : Host.Outcome State Fault Refusal :=
  act (fun s => s.request h .pointRead (fun s =>
    if pointOk p && clear ≤ 1 then (s.clearPoint p clear).reply h .pointRead .ok (.point (s.pointImage p))
    else s.reply h .pointRead .badArgument .none)) s

end Sys2Proof.Machine
end

