-- ==== Sys2Proof/Machine/DocRequests.lean ====
section
/-! DEFINITION. The management requests on documents, mailboxes and the journal (R22 to R25, R97, R98,
R111 to R116). -/

namespace Sys2Proof.Machine

open Sys2Proof.Config

/-! ### Reading documents (R22 to R24) -/

/-- R22: a summary. -/
def docSummary (e : Nat × Doc) : DocSummary :=
  { receipt := e.2.receipt, slot := e.1, state := e.2.state, mailbox := e.2.current, cls := e.2.cls,
    pages := e.2.pages.length, incomplete := e.2.incomplete, damaged := e.2.damaged,
    hold := if e.2.state = .held then e.2.hold else none }

/-- R22: the records in use with a receipt number of r or greater, in increasing receipt order. -/
def State.docsFrom (s : State) (r : Nat) : List (Nat × Doc) :=
  (sortBy (fun a b => decide (a.2.receipt < b.2.receipt)) s.docList).filter (fun e => decide (r ≤ e.2.receipt))

/-- R22: the next receipt number, given the records from r on and how many are returned. -/
def nextReceipt (l : List (Nat × Doc)) (c : Nat) : Nat :=
  if l.length ≤ c then 0 else (((l.take c).getLast?).map (fun e => e.2.receipt + 1)).getD 0

/-- DOC_LIST (R22). -/
def execDocList (h : ReqHead) (start count : Nat) (s : State) : Host.Outcome State Fault Refusal :=
  act (fun s => s.request h .docList (fun s =>
    if receiptOk start && within 1 8 count then
      let l := s.docsFrom start
      s.reply h .docList .ok (.summaries ((l.take count).map docSummary) (nextReceipt l count))
    else s.reply h .docList .badArgument .none)) s

/-- A request on the document with a receipt number: 0 is BAD_ARGUMENT, a number no record carries is RANGE. -/
def State.docRequest (s : State) (h : ReqHead) (k : ReqKind) (receipt : Nat) (f : State → Nat → Doc → State) :
    State :=
  s.request h k (fun s =>
    if receipt = 0 then s.reply h k .badArgument .none
    else match s.docOf receipt with
      | none => s.reply h k .range .none
      | some (slot, d) => f s slot d)

/-- DOC_READ (R23). -/
def execDocRead (h : ReqHead) (receipt : Nat) (s : State) : Host.Outcome State Fault Refusal :=
  act (fun s => s.docRequest h .docRead receipt (fun s slot d =>
    s.reply h .docRead .ok (.document slot d s.mgmt.uptime))) s

/-- R24: the image of a page record. -/
def pageImageOf (x : PageRecord) : PageImage :=
  let f := x.finish.getD { lines := 0, errs := 0, verdict := .damaged }
  { number := x.number, length := x.length, blocks := x.blocks.length, res := x.res, width := x.width,
    lines := f.lines, errs := f.errs, verdict := f.verdict, resends := x.resends, sends := x.sends }

/-- R24: the images of pages p to p + c − 1 of a document. -/
def State.pageImages (s : State) (d : Doc) (p c : Nat) : List PageImage :=
  (((d.pages.drop (p - 1)).take c).filterMap s.record).map pageImageOf

/-- DOC_PAGES (R24). -/
def execDocPages (h : ReqHead) (receipt page count : Nat) (s : State) : Host.Outcome State Fault Refusal :=
  act (fun s => s.request h .docPages (fun s =>
    if receipt = 0 || !within 1 pageLimit page || !within 1 8 count then s.reply h .docPages .badArgument .none
    else match s.docOf receipt with
      | none => s.reply h .docPages .range .none
      | some (_, d) =>
        if d.pages.length < page then s.reply h .docPages .range .none
        else s.reply h .docPages .ok (.pages d.pages.length (s.pageImages d page count)))) s

/-! ### Holding, releasing, rerouting, purging (R25, R113 to R116) -/

/-- R116: the request waits in the slot until the lane has given the document up. -/
def State.defer (s : State) (h : ReqHead) (kind : DocReq) (receipt : Nat) : State :=
  { s with mgmt := { s.mgmt with slot := .deferred h kind receipt false } }

/-- DOC_HOLD (R113). -/
def execDocHold (h : ReqHead) (receipt : Nat) (s : State) : Host.Outcome State Fault Refusal :=
  act (fun s => s.docRequest h .docHold receipt (fun s slot d =>
    match d.state with
    | .queued => (s.holdDoc slot d).reply h .docHold .ok .none
    | .delivering => s.defer h .hold receipt
    | _ => s.reply h .docHold .wrongState .none)) s

/-- R114: a document returned to delivery in a mailbox. -/
def State.releaseTo (s : State) (slot : Nat) (d : Doc) (m : Nat) : State :=
  ((s.setDoc slot { d with
      state := .queued, current := m, hold := none, attempts := 0, notBefore := none }).queueTail m slot).raise
    .mailboxUnit (.docQueued d.receipt m d.pages.length)

/-- R114: a document released from quarantine to its routed mailbox. -/
def State.releaseRouted (s : State) (slot : Nat) (d : Doc) : State :=
  (s.heldUp d.routed d.pages.length).releaseTo slot d d.routed

/-- DOC_RELEASE (R114). -/
def execDocRelease (h : ReqHead) (receipt : Nat) (s : State) : Host.Outcome State Fault Refusal :=
  act (fun s => s.docRequest h .docRelease receipt (fun s slot d =>
    match d.state with
    | .held =>
      if d.hold = some .quarantine then (s.releaseRouted slot d).reply h .docRelease .ok .none
      else (s.releaseTo slot d d.current).reply h .docRelease .ok .none
    | .queued =>
      if d.current = quarantine then
        ((s.unqueue quarantine slot).releaseRouted slot d).reply h .docRelease .ok .none
      else s.reply h .docRelease .wrongState .none
    | _ => s.reply h .docRelease .wrongState .none)) s

/-- R115: a reroute of a QUEUED or HELD document; one in quarantine stays. -/
def State.rerouteNow (s : State) (h : ReqHead) (slot : Nat) (d : Doc) (t : Nat) (quarantined : Bool) : State :=
  if quarantined then s.reply h .docReroute .wrongState .none
  else (s.rerouteTo slot d t).reply h .docReroute .ok .none

/-- DOC_REROUTE (R115). -/
def execDocReroute (h : ReqHead) (receipt target : Nat) (s : State) : Host.Outcome State Fault Refusal :=
  act (fun s => s.request h .docReroute (fun s =>
    if receipt = 0 || !(target < mailboxCount) then s.reply h .docReroute .badArgument .none
    else match s.docOf receipt, s.mailRow target with
      | some (slot, d), some _ =>
        match d.state with
        | .queued => s.rerouteNow h slot d target (d.current == quarantine)
        | .held => s.rerouteNow h slot d target (d.hold == some .quarantine)
        | .delivering => s.defer h (.reroute target) receipt
        | _ => s.reply h .docReroute .wrongState .none
      | _, _ => s.reply h .docReroute .range .none)) s

/-- DOC_PURGE (R25). -/
def execDocPurge (h : ReqHead) (receipt : Nat) (s : State) : Host.Outcome State Fault Refusal :=
  act (fun s => s.docRequest h .docPurge receipt (fun s slot d =>
    match d.state with
    | .receiving => s.reply h .docPurge .wrongState .none
    | .delivering => s.defer h .purge receipt
    | _ => (s.freeDoc slot d true).reply h .docPurge .ok .none)) s

/-! ### Mailboxes (R111, R112) -/

/-- R112: documents in a state whose current mailbox is m. -/
def State.docsIn (s : State) (m : Nat) (st : DocState) : Nat :=
  s.docList.countP (fun e => e.2.current == m && e.2.state == st)

/-- R112: the mailbox image. -/
def State.mailboxImage (s : State) (m : Nat) : MailboxImage :=
  let b := s.box m
  { number := m, inUse := m == quarantine || (s.mailRow m).isSome, accepting := b.accepting,
    delivering := b.delivering, held := b.held, quota := (s.mailRow m).map MailRow.quota,
    length := b.queue.length, urgent := b.queue.countP s.urgent, heldDocs := s.docsIn m .held,
    deliveringDocs := s.docsIn m .delivering, lastServed := s.mail.lastServed }

/-- R111: the reply with the image as it stands after the action. -/
def State.replyMailbox (s : State) (h : ReqHead) (m : Nat) (result : Result) : State :=
  s.reply h .mailboxControl result (.mailbox (s.mailboxImage m))

/-- R111: an action other than READ, on a department mailbox in use. -/
def State.mailboxControl (s : State) (h : ReqHead) (m : Nat) (f : State → State) : State :=
  s.request h .mailboxControl (fun s =>
    if quarantine < m then s.reply h .mailboxControl .badArgument .none
    else if m = quarantine || (s.mailRow m).isNone then s.replyMailbox h m .wrongState
    else (f s).replyMailbox h m .ok)

/-- MAILBOX_CONTROL READ (R111). -/
def execMailboxControlRead (h : ReqHead) (m : Nat) (s : State) : Host.Outcome State Fault Refusal :=
  act (fun s => s.request h .mailboxControl (fun s =>
    if quarantine < m then s.reply h .mailboxControl .badArgument .none else s.replyMailbox h m .ok)) s

/-- MAILBOX_CONTROL OPEN (R111). -/
def execMailboxOpen (h : ReqHead) (m : Nat) (s : State) : Host.Outcome State Fault Refusal :=
  act (fun s => s.mailboxControl h m (fun s => s.setBox m { s.box m with accepting := true })) s

/-- MAILBOX_CONTROL CLOSE (R111). -/
def execMailboxClose (h : ReqHead) (m : Nat) (s : State) : Host.Outcome State Fault Refusal :=
  act (fun s => s.mailboxControl h m (fun s => s.setBox m { s.box m with accepting := false })) s

/-- MAILBOX_CONTROL RESUME (R107, R111): a candidate report where the flag was no. -/
def execMailboxResume (h : ReqHead) (m : Nat) (s : State) : Host.Outcome State Fault Refusal :=
  act (fun s => s.mailboxControl h m (fun s =>
    if (s.box m).delivering then s
    else (s.setBox m { s.box m with delivering := true }).flagReport m false)) s

/-- MAILBOX_CONTROL PAUSE (R111). -/
def execMailboxPause (h : ReqHead) (m : Nat) (s : State) : Host.Outcome State Fault Refusal :=
  act (fun s => s.mailboxControl h m (fun s => s.setBox m { s.box m with delivering := false })) s

/-- R112: a queue entry; it carries the uptime of the reply whether or not the not-before is present (log 50, DESIGN
CHOICE). -/
def State.queueEntry (s : State) (slot : Nat) : Option QueueEntry :=
  (s.doc slot).map (fun d =>
    { receipt := d.receipt, cls := d.cls, pages := d.pages.length, notBefore := d.notBefore, uptime := s.now })

/-- R112: the queue entries at positions pos to pos + count − 1. -/
def State.queueEntries (s : State) (m pos count : Nat) : List QueueEntry :=
  (((s.box m).queue.drop pos).take count).filterMap s.queueEntry

/-- MAILBOX_READ (R112). -/
def execMailboxRead (h : ReqHead) (m pos count : Nat) (s : State) : Host.Outcome State Fault Refusal :=
  act (fun s => s.request h .mailboxRead (fun s =>
    if m ≤ quarantine ∧ pos < slotCount ∧ count ≤ 8 then
      s.reply h .mailboxRead .ok (.mailboxQueue (s.mailboxImage m) (s.queueEntries m pos count))
    else s.reply h .mailboxRead .badArgument .none)) s

/-! ### The journal (R97, R98) -/

/-- R97, R98: the counts a journal reply carries. -/
def Journal.counts (j : Journal) : JournalCounts :=
  { written := j.log.length, reserved := j.reserved, free := j.free }

/-- JOURNAL_READ (R97). -/
def execJournalRead (h : ReqHead) (offset count : Nat) (s : State) : Host.Outcome State Fault Refusal :=
  act (fun s => s.request h .journalRead (fun s =>
    if !(offset < journalRoom) || !within 1 8 count then s.reply h .journalRead .badArgument .none
    else if s.journal.log.length ≤ offset then s.reply h .journalRead .range .none
    else s.reply h .journalRead .ok
      (.entries (positioned offset count s.journal.log) s.journal.counts s.journal.unrecorded))) s

/-- R98: the n oldest entries removed; the condition armed again where free entries is at the mark or above. -/
def Journal.release (j : Journal) (n : Nat) : Journal :=
  let j := { j with log := j.log.drop n }
  if j.lowMark ≤ j.free then { j with lowArmed := true } else j

/-- JOURNAL_RELEASE (R98). Where the log held fewer than n entries before the writes that arrived together with the
release and were taken first, the answer is RANGE (log 36). -/
def execJournalRelease (h : ReqHead) (n : Release) (s : State) : Host.Outcome State Fault Refusal :=
  act (fun s => s.request h .journalRelease (fun s =>
    if !within 1 journalRoom n.count then s.reply h .journalRelease .badArgument .none
    else if s.journal.log.length - n.beside < n.count then s.reply h .journalRelease .range .none
    else
      let j := s.journal.release n.count
      { s with journal := j }.reply h .journalRelease .ok (.journalCounts j.counts))) s

end Sys2Proof.Machine
end

