-- ==== Sys2Proof/Machine/Dispatch.lean ====
section
/-! DEFINITION. The meaning of every command: one arm for each constructor of Instr, each a direct call. -/

namespace Sys2Proof.Machine

def exec (i : Instr) (s : State) : Host.Outcome State Fault Refusal :=
  match i with
  | .callOpen ch part => Sys2Proof.Machine.execCallOpen ch part s
  | .senderInfo ch ident => Sys2Proof.Machine.execSenderInfo ch ident s
  | .pageStart ch page res width => Sys2Proof.Machine.execPageStart ch page res width s
  | .pageData ch seq payload => Sys2Proof.Machine.execPageData ch seq payload s
  | .pageEnd ch lines errs verdict => Sys2Proof.Machine.execPageEnd ch lines errs verdict s
  | .callClose ch cause => Sys2Proof.Machine.execCallClose ch cause s
  | .linkAlive => Sys2Proof.Machine.execLinkAlive s
  | .badLineFrame => Sys2Proof.Machine.execBadLineFrame s
  | .lineSilenceExpiry => Sys2Proof.Machine.execLineSilenceExpiry s
  | .channelLinkLoss ch => Sys2Proof.Machine.execChannelLinkLoss ch s
  | .channelSilenceExpiry ch => Sys2Proof.Machine.execChannelSilenceExpiry ch s
  | .releaseTimerExpiry ch => Sys2Proof.Machine.execReleaseTimerExpiry ch s
  | .channelIntakeAbort ch => Sys2Proof.Machine.execChannelIntakeAbort ch s
  | .writeCompletion => Sys2Proof.Machine.execWriteCompletion s
  | .readCompletion decay => Sys2Proof.Machine.execReadCompletion decay s
  | .pointUp p => Sys2Proof.Machine.execPointUp p s
  | .pointDown p => Sys2Proof.Machine.execPointDown p s
  | .accept p receipt => Sys2Proof.Machine.execAccept p receipt s
  | .decline p receipt retry => Sys2Proof.Machine.execDecline p receipt retry s
  | .intakePost p slot cap => Sys2Proof.Machine.execIntakePost p slot cap s
  | .pageAck p slot => Sys2Proof.Machine.execPageAck p slot s
  | .pageNak p slot => Sys2Proof.Machine.execPageNak p slot s
  | .officeLinkAlive => Sys2Proof.Machine.execOfficeLinkAlive s
  | .badOfficeFrame crcOk => Sys2Proof.Machine.execBadOfficeFrame crcOk s
  | .foreignOfficeFrame => Sys2Proof.Machine.execForeignOfficeFrame s
  | .officeSilenceExpiry => Sys2Proof.Machine.execOfficeSilenceExpiry s
  | .officeKeepaliveSend => Sys2Proof.Machine.execOfficeKeepaliveSend s
  | .frameSentReport => Sys2Proof.Machine.execFrameSentReport s
  | .frameDiscardedReport dest => Sys2Proof.Machine.execFrameDiscardedReport dest s
  | .officeLinkStateReport => Sys2Proof.Machine.execOfficeLinkStateReport s
  | .acceptTimerExpiry l => Sys2Proof.Machine.execAcceptTimerExpiry l s
  | .ackTimerExpiry l buf => Sys2Proof.Machine.execAckTimerExpiry l buf s
  | .intakeWaitExpiry l => Sys2Proof.Machine.execIntakeWaitExpiry l s
  | .retentionExpiry receipt => Sys2Proof.Machine.execRetentionExpiry receipt s
  | .notBeforeReached m => Sys2Proof.Machine.execNotBeforeReached m s
  | .arbiterRound => Sys2Proof.Machine.execArbiterRound s
  | .withdrawalRequest => Sys2Proof.Machine.execWithdrawalRequest s
  | .pressureReleaseRequest => Sys2Proof.Machine.execPressureReleaseRequest s
  | .pressureParameterChange => Sys2Proof.Machine.execPressureParameterChange s
  | .lowMarkInstall => Sys2Proof.Machine.execLowMarkInstall s
  | .silenceTimeoutInstall => Sys2Proof.Machine.execSilenceTimeoutInstall s
  | .countClear name => Sys2Proof.Machine.execCountClear name s
  | .allIdleReport => Sys2Proof.Machine.execAllIdleReport s
  | .noticeOccurrence src => Sys2Proof.Machine.execNoticeOccurrence src s
  | .commitCompletion => Sys2Proof.Machine.execCommitCompletion s
  | .mailboxSwapEffects => Sys2Proof.Machine.execMailboxSwapEffects s
  | .pointSwapEffects => Sys2Proof.Machine.execPointSwapEffects s
  | .powerOnReset => Sys2Proof.Machine.execPowerOnReset s
  | .pinResetAssert => Sys2Proof.Machine.execPinResetAssert s
  | .pinResetRelease => Sys2Proof.Machine.execPinResetRelease s
  | .unknownRequest h kind => Sys2Proof.Machine.execUnknownRequest h kind s
  | .readStatus h => Sys2Proof.Machine.execReadStatus h s
  | .readFlags h => Sys2Proof.Machine.execReadFlags h s
  | .clearFlags h names => Sys2Proof.Machine.execClearFlags h names s
  | .setParameters h p => Sys2Proof.Machine.execSetParameters h p s
  | .readParameters h => Sys2Proof.Machine.execReadParameters h s
  | .setClock h secs ms => Sys2Proof.Machine.execSetClock h secs ms s
  | .setReceiptBase h base => Sys2Proof.Machine.execSetReceiptBase h base s
  | .ackRestart h => Sys2Proof.Machine.execAckRestart h s
  | .restart h => Sys2Proof.Machine.execRestart h s
  | .intakeOpen h => Sys2Proof.Machine.execIntakeOpen h s
  | .intakeDrain h => Sys2Proof.Machine.execIntakeDrain h s
  | .intakeAbort h => Sys2Proof.Machine.execIntakeAbort h s
  | .deliveryRun h => Sys2Proof.Machine.execDeliveryRun h s
  | .deliveryStop h => Sys2Proof.Machine.execDeliveryStop h s
  | .channelRead h ch => Sys2Proof.Machine.execChannelRead h ch s
  | .channelEnable h ch => Sys2Proof.Machine.execChannelEnable h ch s
  | .channelDisable h ch => Sys2Proof.Machine.execChannelDisable h ch s
  | .channelClearErrors h ch => Sys2Proof.Machine.execChannelClearErrors h ch s
  | .stageClear h t => Sys2Proof.Machine.execStageClear h t s
  | .stagePut h entries => Sys2Proof.Machine.execStagePut h entries s
  | .stageRemove h keys => Sys2Proof.Machine.execStageRemove h keys s
  | .stageRevert h t => Sys2Proof.Machine.execStageRevert h t s
  | .stageRead h t index count => Sys2Proof.Machine.execStageRead h t index count s
  | .tableRead h t index count => Sys2Proof.Machine.execTableRead h t index count s
  | .commit h t => Sys2Proof.Machine.execCommit h t s
  | .mailboxControlRead h m => Sys2Proof.Machine.execMailboxControlRead h m s
  | .mailboxOpen h m => Sys2Proof.Machine.execMailboxOpen h m s
  | .mailboxClose h m => Sys2Proof.Machine.execMailboxClose h m s
  | .mailboxResume h m => Sys2Proof.Machine.execMailboxResume h m s
  | .mailboxPause h m => Sys2Proof.Machine.execMailboxPause h m s
  | .mailboxRead h m pos count => Sys2Proof.Machine.execMailboxRead h m pos count s
  | .pointRead h p clear => Sys2Proof.Machine.execPointRead h p clear s
  | .docList h start count => Sys2Proof.Machine.execDocList h start count s
  | .docRead h receipt => Sys2Proof.Machine.execDocRead h receipt s
  | .docPages h receipt page count => Sys2Proof.Machine.execDocPages h receipt page count s
  | .docHold h receipt => Sys2Proof.Machine.execDocHold h receipt s
  | .docRelease h receipt => Sys2Proof.Machine.execDocRelease h receipt s
  | .docReroute h receipt target => Sys2Proof.Machine.execDocReroute h receipt target s
  | .docPurge h receipt => Sys2Proof.Machine.execDocPurge h receipt s
  | .journalRead h offset count => Sys2Proof.Machine.execJournalRead h offset count s
  | .journalRelease h n => Sys2Proof.Machine.execJournalRelease h n s
  | .lineFrameSent => Sys2Proof.Machine.execLineFrameSent s
  | .timeOfDayLimit => Sys2Proof.Machine.execTimeOfDayLimit s

end Sys2Proof.Machine
end

