-- ==== Sys2Proof/WellFormed.lean ====
section
/-! DEFINITION. Which commands can come about: a frame's fields fit their encodings and pass the acceptance
checks of its kind (R196, R197), a request's fields fit the bytes they travel in (section 11.1), and an
internal event names a channel, a lane, a mailbox or a cell that exists. -/

namespace Sys2Proof

open Sys2Proof.Config Sys2Proof.Machine

/-- Section 11.3: source 0 to 31, a one-byte tag. -/
def ReqHead.wellFormed (h : ReqHead) : Bool := h.src ≤ 31 && h.tag ≤ 255

/-- A one-byte, two-byte or four-byte field of a request. -/
def byteField (n : Nat) : Bool := n ≤ 255
def halfField (n : Nat) : Bool := n ≤ 65535
def wordField (n : Nat) : Bool := n ≤ 4294967295

/-- R183, section 11.3: the fourteen bytes of SET_PARAMETERS. -/
def ParamFields.wellFormed (p : ParamFields) : Bool :=
  byteField p.silence && halfField p.tight && halfField p.critical && halfField p.hysteresis
    && byteField p.enterDebounce && byteField p.exitDebounce && halfField p.lowMark && byteField p.mode

def Instr.wellFormed (i : Instr) : Bool :=
  match i with
  | .callOpen ch part => callOpenOk ch part
  | .senderInfo ch ident => senderInfoOk ch ident
  | .pageStart ch page _ _ => pageStartOk ch page
  | .pageData ch seq payload => pageDataOk ch seq payload
  | .pageEnd ch lines errs _ => pageEndOk ch lines errs
  | .callClose ch _ => channelOk ch
  | .linkAlive => true
  | .badLineFrame => true
  | .lineSilenceExpiry => true
  | .channelLinkLoss ch => channelOk ch
  | .channelSilenceExpiry ch => channelOk ch
  | .releaseTimerExpiry ch => channelOk ch
  | .channelIntakeAbort ch => channelOk ch
  | .writeCompletion => true
  | .readCompletion decay => decay.all (fun c => decide (c.1 < blockBytes))
  | .pointUp p => pointOk p
  | .pointDown p => pointOk p
  | .accept p receipt => pointOk p && receiptOk receipt
  | .decline p receipt retry => pointOk p && receiptOk receipt && byteField retry
  | .intakePost p slot cap => pointOk p && slotOk slot && capacityOk cap
  | .pageAck p slot => pointOk p && slotOk slot
  | .pageNak p slot => pointOk p && slotOk slot
  | .officeLinkAlive => true
  | .badOfficeFrame _ => true
  | .foreignOfficeFrame => true
  | .officeSilenceExpiry => true
  | .officeKeepaliveSend => true
  | .frameSentReport => true
  | .frameDiscardedReport dest => match dest with
    | .lane i => i < laneCount
    | .management => true
  | .officeLinkStateReport => true
  | .acceptTimerExpiry i => i < laneCount
  | .ackTimerExpiry i _ => i < laneCount
  | .intakeWaitExpiry i => i < laneCount
  | .retentionExpiry receipt => receiptOk receipt
  | .notBeforeReached m => m < mailboxCount
  | .arbiterRound => true
  | .withdrawalRequest => true
  | .pressureReleaseRequest => true
  | .pressureParameterChange => true
  | .lowMarkInstall => true
  | .silenceTimeoutInstall => true
  | .countClear _ => true
  | .allIdleReport => true
  | .noticeOccurrence _ => true
  | .commitCompletion => true
  | .mailboxSwapEffects => true
  | .pointSwapEffects => true
  | .powerOnReset => true
  | .pinResetAssert => true
  | .pinResetRelease => true
  | .unknownRequest h kind => h.wellFormed && byteField kind && !within 64 94 kind && !within 16 22 kind && kind != 127
  | .readStatus h => h.wellFormed
  | .readFlags h => h.wellFormed
  | .clearFlags h names => h.wellFormed && names.all byteField && byteField names.length
  | .setParameters h p => h.wellFormed && p.wellFormed
  | .readParameters h => h.wellFormed
  | .setClock h secs ms => h.wellFormed && wordField secs && halfField ms
  | .setReceiptBase h base => h.wellFormed && wordField base
  | .ackRestart h => h.wellFormed
  | .restart h => h.wellFormed
  | .intakeOpen h => h.wellFormed
  | .intakeDrain h => h.wellFormed
  | .intakeAbort h => h.wellFormed
  | .deliveryRun h => h.wellFormed
  | .deliveryStop h => h.wellFormed
  | .channelRead h ch => h.wellFormed && byteField ch
  | .channelEnable h ch => h.wellFormed && byteField ch
  | .channelDisable h ch => h.wellFormed && byteField ch
  | .channelClearErrors h ch => h.wellFormed && byteField ch
  | .stageClear h _ => h.wellFormed
  | .stagePut h _ => h.wellFormed
  | .stageRemove h _ => h.wellFormed
  | .stageRevert h _ => h.wellFormed
  | .stageRead h _ index count => h.wellFormed && halfField index && byteField count
  | .tableRead h _ index count => h.wellFormed && halfField index && byteField count
  | .commit h _ => h.wellFormed
  | .mailboxControlRead h m => h.wellFormed && byteField m
  | .mailboxOpen h m => h.wellFormed && byteField m
  | .mailboxClose h m => h.wellFormed && byteField m
  | .mailboxResume h m => h.wellFormed && byteField m
  | .mailboxPause h m => h.wellFormed && byteField m
  | .mailboxRead h m pos count => h.wellFormed && byteField m && halfField pos && byteField count
  | .pointRead h p clear => h.wellFormed && byteField p && byteField clear
  | .docList h start count => h.wellFormed && wordField start && byteField count
  | .docRead h receipt => h.wellFormed && wordField receipt
  | .docPages h receipt page count => h.wellFormed && wordField receipt && halfField page && byteField count
  | .docHold h receipt => h.wellFormed && wordField receipt
  | .docRelease h receipt => h.wellFormed && wordField receipt
  | .docReroute h receipt target => h.wellFormed && wordField receipt && byteField target
  | .docPurge h receipt => h.wellFormed && wordField receipt
  | .journalRead h offset count => h.wellFormed && halfField offset && byteField count
  | .journalRelease h n => h.wellFormed && halfField n.count
  | .lineFrameSent => true
  | .timeOfDayLimit => true

end Sys2Proof
end

