-- ==== Sys2Proof/Machine/Frames.lean ====
section
/-! DEFINITION. The command a run of bytes is: what the Line Port and the Office Port make of the runs their links
deliver (R196, R197), and the runs the shelf and the points send (spec/11_frame_and_record_layouts.md). -/

namespace Sys2Proof.Machine

open Sys2Proof.Config

/-! ### Fields -/

/-- A number from its bytes, most significant first. -/
def num (bytes : List Byte) : Nat := bytes.foldl (fun n b => n * 256 + b.toNat) 0

/-- The number in `n` bytes at an offset. -/
def field (run : List Byte) (off n : Nat) : Nat := num ((run.drop off).take n)

/-- The value a code stands for: its position in the list, from 1. -/
def ofCode {α : Type} (l : List α) (n : Nat) : Option α := if n = 0 then none else l[n - 1]?

/-- A flag byte: 1 for yes, 0 for no. -/
def ofFlag (n : Nat) : Option Bool := if n = 0 then some false else if n = 1 then some true else none

def resolutions : List Resolution := [.standard, .fine, .superfine]
def widths : List Width := [.a4, .b4, .a3]
def modemVerdicts : List ModemVerdict := [.good, .marginal, .bad]
def shelfCauses : List ShelfCause := [.normal, .lineLost, .farEndAbort, .protocol, .released]
def docClasses : List DocClass := [.routine, .urgent]
def matchKinds : List MatchKind := [.caller, .station]
def screenActions : List ScreenAction := [.accept, .refuse, .quarantine, .redirect]
def tableIds : List TableId := [.routing, .screening, .mailbox, .point]

/-- A string at an offset, in a field of `room` characters; none where its length byte passes the room. -/
def strAt (run : List Byte) (off room : Nat) : Option Str :=
  let n := field run off 1
  if n ≤ room then some (((run.drop (off + 1)).take n).map BitVec.toNat) else none

/-- A string that may be absent, by the length byte 255. -/
def optStrAt (run : List Byte) (off room : Nat) : Option (Option Str) :=
  if field run off 1 = 255 then some none else (strAt run off room).map some

/-! ### Line frames (R196) -/

/-- The frame of a kind, a channel and a body; none where the body has not the form of the kind. A LINK_ALIVE has the
channel 255 of the table of 11.2 and no other (log 43, DEDUCED). -/
def lineCommand (kind ch : Nat) (body : List Byte) : Option Instr :=
  match kind with
  | 1 =>
    if body.length = 34 then do
      let called ← strAt body 0 digitRoom
      let caller ← optStrAt body 17 digitRoom
      pure (.callOpen ch (.frame called caller .done))
    else none
  | 2 => if body.length = 21 then (strAt body 0 stationRoom).map (Instr.senderInfo ch) else none
  | 3 =>
    if body.length = 4 then do
      let res ← ofCode resolutions (field body 2 1)
      let width ← ofCode widths (field body 3 1)
      pure (.pageStart ch (field body 0 2) res width)
    else none
  | 4 => if body = [] then none else some (.pageData ch (field body 0 1) (body.drop 1))
  | 5 =>
    if body.length = 5 then
      (ofCode modemVerdicts (field body 4 1)).map (Instr.pageEnd ch (field body 0 2) (field body 2 2))
    else none
  | 6 => if body.length = 1 then (ofCode shelfCauses (field body 0 1)).map (Instr.callClose ch) else none
  | 7 => if body = [] ∧ ch = 255 then some .linkAlive else none
  | _ => none

/-- R196: whether a run has its length and its CRC-16. -/
def lineChecks (run : List Byte) : Bool :=
  decide (6 ≤ run.length) && decide (run.length = 6 + field run 2 2)
    && decide (field run (run.length - 2) 2 = (crc16 (run.take (run.length - 2))).toNat)

/-- R196: the command a run of bytes on the line link is. -/
def lineRun (run : List Byte) : Instr :=
  if lineChecks run then
    match lineCommand (field run 0 1) (field run 1 1) ((run.drop 4).take (run.length - 6)) with
    | some i => if i.wellFormed then i else .badLineFrame
    | none => .badLineFrame
  else .badLineFrame

/-- 11.2: the run of bytes of a frame of the shelf; empty for what is no frame of it. -/
def shelfRun (i : Instr) : List Byte :=
  match i with
  | .callOpen ch (.frame called caller _) => lineRunOf 1 ch (strBytes digitRoom called ++ optStrBytes digitRoom caller)
  | .senderInfo ch ident => lineRunOf 2 ch (strBytes stationRoom ident)
  | .pageStart ch page res width =>
    lineRunOf 3 ch (be 2 page ++ be 1 (resolutionCode res) ++ be 1 (widthCode width))
  | .pageData ch seq payload => lineRunOf 4 ch (be 1 seq ++ payload)
  | .pageEnd ch lines errs verdict => lineRunOf 5 ch (be 2 lines ++ be 2 errs ++ be 1 (modemCode verdict))
  | .callClose ch cause => lineRunOf 6 ch (be 1 (match cause with
      | .normal => 1
      | .lineLost => 2
      | .farEndAbort => 3
      | .protocol => 4
      | .released => 5))
  | .linkAlive => lineRunOf 7 255 []
  | _ => []

/-! ### Delivery frames (R197) -/

/-- R197: a delivery frame of a point by its kind and payload; one that fails its checks is not good. -/
def deliveryCommand (kind src : Nat) (p : List Byte) : Instr :=
  let i : Instr := match kind, p.length with
    | 16, 0 => .pointUp src
    | 17, 0 => .pointDown src
    | 18, 4 => .accept src (field p 0 4)
    | 19, 5 => .decline src (field p 0 4) (field p 4 1)
    | 20, 4 => .intakePost src (field p 0 1) (field p 1 3)
    | 21, 1 => .pageAck src (field p 0 1)
    | 22, 1 => .pageNak src (field p 0 1)
    | _, _ => .badOfficeFrame true
  if i.wellFormed then i else .badOfficeFrame true

/-- 11.3: the run of bytes of a frame of a point; empty for what is none. -/
def pointRun (i : Instr) : List Byte :=
  match i with
  | .pointUp p => officeRunOf 0 p 16 0 []
  | .pointDown p => officeRunOf 0 p 17 0 []
  | .accept p receipt => officeRunOf 0 p 18 0 (be 4 receipt)
  | .decline p receipt retry => officeRunOf 0 p 19 0 (be 4 receipt ++ be 1 retry)
  | .intakePost p slot cap => officeRunOf 0 p 20 0 (be 1 slot ++ be 3 cap)
  | .pageAck p slot => officeRunOf 0 p 21 0 (be 1 slot)
  | .pageNak p slot => officeRunOf 0 p 22 0 (be 1 slot)
  | .officeLinkAlive => officeRunOf 0 0 127 0 []
  | _ => []

/-! ### Requests (section 11.3) -/

/-- A head with its form decided. The bytes of one frame do not say what it arrived together with: read by
themselves, they are those of a request that came alone. -/
def headIf (src tag : Nat) (formed : Bool) : ReqHead := { src := src, tag := tag, formed := formed, together := false }

/-- `n` items of `size` bytes each, read from an offset on; none where one has not its form. -/
def itemsAt {α : Type} (read : List Byte → Nat → Option α) (run : List Byte) (size off n : Nat) : Option (List α) :=
  match n with
  | 0 => some []
  | n + 1 => do
    let x ← read run off
    let rest ← itemsAt read run size (off + size) n
    pure (x :: rest)

def routeAt (run : List Byte) (off : Nat) : Option RouteEntry := do
  let stem ← strAt run off digitRoom
  let cls ← ofCode docClasses (field run (off + 18) 1)
  let shed ← ofFlag (field run (off + 21) 1)
  pure { stem := stem, mailbox := field run (off + 17) 1, cls := cls, hours := field run (off + 19) 2, shed := shed }

/-- A byte that stands for an absent value by one code. -/
def notCode (absent n : Nat) : Option Nat := if n = absent then none else some n

def screenAt (run : List Byte) (off : Nat) : Option ScreenEntry := do
  let kind ← ofCode matchKinds (field run off 1)
  let str ← strAt run (off + 1) stationRoom
  let action ← ofCode screenActions (field run (off + 22) 1)
  pure { kind := kind, str := str, action := action, target := notCode 255 (field run (off + 23) 1) }

def mailRowAt (run : List Byte) (off : Nat) : Option (Nat × MailRow) :=
  some (field run off 1, { primary := field run (off + 1) 1, alternate := notCode 0 (field run (off + 2) 1),
                           quota := field run (off + 3) 2, overflow := notCode 255 (field run (off + 5) 1) })

def pointPutAt (run : List Byte) (off : Nat) : Option (Nat × PointPut) := do
  let manage ← if field run (off + 1) 1 = 255 then some none else (ofFlag (field run (off + 1) 1)).map some
  pure (field run off 1, { manage := manage, accept := notCode 255 (field run (off + 2) 1),
                           ack := notCode 255 (field run (off + 3) 1), wait := notCode 255 (field run (off + 4) 1),
                           maxSlots := notCode 255 (field run (off + 5) 1) })

/-- 11.3, 11.5: the entries of a STAGE_PUT: table identity, count, entry images. -/
def putOf (p : List Byte) : Option StageEntries :=
  let n := field p 1 1
  match ofCode tableIds (field p 0 1) with
  | none => none
  | some .routing => if p.length = 2 + 22 * n then (itemsAt routeAt p 22 2 n).map .routing else none
  | some .screening => if p.length = 2 + 24 * n then (itemsAt screenAt p 24 2 n).map .screening else none
  | some .mailbox => if p.length = 2 + 6 * n then (itemsAt mailRowAt p 6 2 n).map .mailbox else none
  | some .point => if p.length = 2 + 6 * n then (itemsAt pointPutAt p 6 2 n).map .point else none

def screenKeyAt (run : List Byte) (off : Nat) : Option (MatchKind × Str) := do
  let kind ← ofCode matchKinds (field run off 1)
  let str ← strAt run (off + 1) stationRoom
  pure (kind, str)

def byteAt (run : List Byte) (off : Nat) : Option Nat := some (field run off 1)

/-- 11.5: the keys of a STAGE_REMOVE, the leading fields of the images. -/
def keysOf (p : List Byte) : Option StageKeys :=
  let n := field p 1 1
  match ofCode tableIds (field p 0 1) with
  | none => none
  | some .routing =>
    if p.length = 2 + 17 * n then (itemsAt (fun r o => strAt r o digitRoom) p 17 2 n).map .routing else none
  | some .screening => if p.length = 2 + 22 * n then (itemsAt screenKeyAt p 22 2 n).map .screening else none
  | some .mailbox => if p.length = 2 + n then (itemsAt byteAt p 1 2 n).map .mailbox else none
  | some .point => if p.length = 2 + n then (itemsAt byteAt p 1 2 n).map .point else none

/-- 11.3: the values of SET_PARAMETERS. -/
def paramsOf (p : List Byte) : ParamFields :=
  { silence := field p 0 1, tight := field p 1 2, critical := field p 3 2, hysteresis := field p 5 2,
    enterDebounce := field p 7 1, exitDebounce := field p 8 1, lowMark := field p 9 2, mode := field p 11 1,
    masks := BitVec.ofNat 16 (field p 12 2) }

/-- The table identity a payload begins with, and whether the payload has a length and a known identity. -/
def tableOf (p : List Byte) (len : Nat) : TableId × Bool :=
  match ofCode tableIds (field p 0 1) with
  | none => (.routing, false)
  | some t => (t, decide (p.length = len))

/-- A request by its kind, source, tag and payload (R176, R197). A payload of another length than its fields', or
with a code outside its enumeration, is not formed. The names of CLEAR_FLAGS follow a count byte (log 44, DEDUCED). -/
def requestCommand (kind src tag : Nat) (p : List Byte) : Instr :=
  let h := fun (len : Nat) => headIf src tag (decide (p.length = len))
  let bad := headIf src tag false
  match kind with
  | 64 => .readStatus (h 0)
  | 65 => .readFlags (h 0)
  | 66 => .clearFlags (headIf src tag (decide (p.length = 1 + field p 0 1 ∧ p ≠ []))) ((p.drop 1).map BitVec.toNat)
  | 67 => .setParameters (h 14) (paramsOf p)
  | 68 => .readParameters (h 0)
  | 69 => .setClock (h 6) (field p 0 4) (field p 4 2)
  | 70 => .setReceiptBase (h 4) (field p 0 4)
  | 71 => .ackRestart (h 0)
  | 72 => .restart (h 0)
  | 73 =>
    match field p 0 1 with
    | 1 => .intakeOpen (h 1)
    | 2 => .intakeDrain (h 1)
    | 3 => .intakeAbort (h 1)
    | _ => .intakeOpen bad
  | 74 =>
    match field p 0 1 with
    | 1 => .deliveryRun (h 1)
    | 2 => .deliveryStop (h 1)
    | _ => .deliveryRun bad
  | 75 =>
    match field p 1 1 with
    | 1 => .channelRead (h 2) (field p 0 1)
    | 2 => .channelEnable (h 2) (field p 0 1)
    | 3 => .channelDisable (h 2) (field p 0 1)
    | 4 => .channelClearErrors (h 2) (field p 0 1)
    | _ => .channelRead bad (field p 0 1)
  | 76 => .stageClear (headIf src tag (tableOf p 1).2) (tableOf p 1).1
  | 77 =>
    match putOf p with
    | some es => .stagePut (headIf src tag true) es
    | none => .stagePut bad (.routing [])
  | 78 =>
    match keysOf p with
    | some ks => .stageRemove (headIf src tag true) ks
    | none => .stageRemove bad (.routing [])
  | 79 => .stageRevert (headIf src tag (tableOf p 1).2) (tableOf p 1).1
  | 80 => .stageRead (headIf src tag (tableOf p 4).2) (tableOf p 4).1 (field p 1 2) (field p 3 1)
  | 81 => .tableRead (headIf src tag (tableOf p 4).2) (tableOf p 4).1 (field p 1 2) (field p 3 1)
  | 82 => .commit (headIf src tag (tableOf p 1).2) (tableOf p 1).1
  | 83 =>
    match field p 1 1 with
    | 1 => .mailboxControlRead (h 2) (field p 0 1)
    | 2 => .mailboxOpen (h 2) (field p 0 1)
    | 3 => .mailboxClose (h 2) (field p 0 1)
    | 4 => .mailboxResume (h 2) (field p 0 1)
    | 5 => .mailboxPause (h 2) (field p 0 1)
    | _ => .mailboxControlRead bad (field p 0 1)
  | 84 => .mailboxRead (h 4) (field p 0 1) (field p 1 2) (field p 3 1)
  | 85 => .pointRead (h 2) (field p 0 1) (field p 1 1)
  | 86 => .docList (h 5) (field p 0 4) (field p 4 1)
  | 87 => .docRead (h 4) (field p 0 4)
  | 88 => .docPages (h 7) (field p 0 4) (field p 4 2) (field p 6 1)
  | 89 => .docHold (h 4) (field p 0 4)
  | 90 => .docRelease (h 4) (field p 0 4)
  | 91 => .docReroute (h 5) (field p 0 4) (field p 4 1)
  | 92 => .docPurge (h 4) (field p 0 4)
  | 93 => .journalRead (h 3) (field p 0 2) (field p 2 1)
  | 94 => .journalRelease (h 2) { count := field p 0 2, beside := 0 }
  | k => .unknownRequest (h p.length) k

/-! ### Office runs (R118, R197) -/

/-- R197: whether a run has its length, P no more than 1,088, and its CRC-32. -/
def officeChecks (run : List Byte) : Bool :=
  decide (10 ≤ run.length) && decide (run.length = 10 + field run 4 2) && decide (field run 4 2 ≤ 1088)
    && decide (field run (run.length - 4) 4 = (crc32 (run.take (run.length - 4))).toNat)

/-- R118, R119, R197: a checked frame addressed to the 6024, by its kind. -/
def officeCommand (src kind tag : Nat) (p : List Byte) : Instr :=
  if kind = 127 then (if p = [] ∧ src = 0 then .officeLinkAlive else .badOfficeFrame true)
  else if within 16 22 kind then deliveryCommand kind src p
  else requestCommand kind src tag p

/-- R118, R197: the command a run of bytes on the office link is. -/
def officeRun (run : List Byte) : Instr :=
  if officeChecks run then
    if field run 0 1 = 0 then
      officeCommand (field run 1 1) (field run 2 1) (field run 3 1) ((run.drop 6).take (run.length - 10))
    else .foreignOfficeFrame
  else .badOfficeFrame false

end Sys2Proof.Machine
end

