-- ==== Sys2Proof/Machine/Step.lean ====
section
/-! DEFINITION. One step of the 6024: the command at the front of the queue is taken and run on the state with the
queue's rest; on an empty queue the reference clock ticks once (log 1). -/

namespace Sys2Proof.Machine

/-- R184: one millisecond of the reference clock; uptime is held at 0 in a pin reset (log 1). -/
def tick (s : State) : State := if s.heldReset.isSome then s else s.advance 1

def step (s : State) : Host.Outcome State Fault Refusal :=
  match s.pending with
  | [] => .next (tick s)
  | c :: rest => exec c { s with pending := rest }

/-- The command a word spells, put at the front of the queue; the table gives no row any bits, so no word spells
one and the state is unchanged. A program of commands comes to run by being put into `pending` (log 27). -/
def State.withFetchWord (s : State) (nbits w : Nat) : State :=
  match decodeTableWord nbits w with
  | none => s
  | some i => { s with pending := i :: s.pending }

end Sys2Proof.Machine
end

