-- ==== Sys2Proof/Safety.lean ====
section
/-! DEFINITION. The words the statements are written in: when a frame or a request is taken, and the properties
of a state that every step keeps. -/

namespace Sys2Proof.Machine

open Sys2Proof.Config

/-! ### When a command is taken -/

/-- The 6024 is not held in reset (R193). -/
abbrev State.awake (s : State) : Prop := s.heldReset = none

/-- R176 step 1: the sources that may send requests. -/
abbrev State.mayManage (s : State) (src : Nat) : Prop :=
  src = station ∨ (1 ≤ src ∧ src ≤ pointCount ∧ (s.pointRow src).map PointRow.manage = some true)

/-- R176 steps 3 and 4: no other request holds the slot, and none with which this one arrived has taken it. -/
abbrev State.slotFor (s : State) (h : ReqHead) : Prop :=
  s.mgmt.slot = .free ∧ ¬ (h.together = true ∧ s.mgmt.tookSlot = true)

/-- R176 step 4, with the form of R197: a request that takes the slot and has the form of its kind. -/
abbrev State.requestTaken (s : State) (h : ReqHead) : Prop :=
  s.awake ∧ s.mayManage h.src ∧ s.slotFor h ∧ h.formed = true

/-- A channel with no decision under way and no loss of the line link to take (R29). -/
abbrev State.quiet (s : State) (ch : Nat) : Prop :=
  s.awake ∧ ch < channelCount ∧ s.calls.channels.length = channelCount
    ∧ (s.channel ch).decision = none ∧ (s.channel ch).loss = false

/-- The state in which a quiet channel acts on a good frame: the line port has taken it (R27), and the silence
timer of the channel has started again in the states in which it runs (R49). -/
def State.frameTaken (s : State) (ch : Nat) : State := s.lineGood.restartSilence ch

/-- R53 steps 1 to 4: the conditions under which a CALL_OPEN in IDLE reaches step 5. -/
abbrev State.admitted (s : State) (ch : Nat) : Prop :=
  s.quiet ch ∧ (s.channel ch).state = .idle ∧ (s.channel ch).enabled = true ∧ s.mgmt.intake = .opened
    ∧ s.docs.counter.isSome = true ∧ s.journal.log.length + s.journal.reserved < 2048

/-- A delivery frame from a point in use that is not OFFLINE (R119, R124). -/
abbrev State.pointTaken (s : State) (p : Nat) : Prop :=
  s.awake ∧ 1 ≤ p ∧ p ≤ pointCount ∧ (s.pointRow p).isSome = true ∧ (s.point p).state ≠ .offline

/-! ### Requests -/

/-- The head and the kind of a management request of a known kind (R175). -/
def requestOf (i : Instr) : Option (ReqHead × ReqKind) :=
  match i with
  | .readStatus h => some (h, .readStatus)
  | .readFlags h => some (h, .readFlags)
  | .clearFlags h _ => some (h, .clearFlags)
  | .setParameters h _ => some (h, .setParameters)
  | .readParameters h => some (h, .readParameters)
  | .setClock h _ _ => some (h, .setClock)
  | .setReceiptBase h _ => some (h, .setReceiptBase)
  | .ackRestart h => some (h, .ackRestart)
  | .restart h => some (h, .restart)
  | .intakeOpen h => some (h, .intake)
  | .intakeDrain h => some (h, .intake)
  | .intakeAbort h => some (h, .intake)
  | .deliveryRun h => some (h, .delivery)
  | .deliveryStop h => some (h, .delivery)
  | .channelRead h _ => some (h, .channelControl)
  | .channelEnable h _ => some (h, .channelControl)
  | .channelDisable h _ => some (h, .channelControl)
  | .channelClearErrors h _ => some (h, .channelControl)
  | .stageClear h _ => some (h, .stageClear)
  | .stagePut h _ => some (h, .stagePut)
  | .stageRemove h _ => some (h, .stageRemove)
  | .stageRevert h _ => some (h, .stageRevert)
  | .stageRead h _ _ _ => some (h, .stageRead)
  | .tableRead h _ _ _ => some (h, .tableRead)
  | .commit h _ => some (h, .commit)
  | .mailboxControlRead h _ => some (h, .mailboxControl)
  | .mailboxOpen h _ => some (h, .mailboxControl)
  | .mailboxClose h _ => some (h, .mailboxControl)
  | .mailboxResume h _ => some (h, .mailboxControl)
  | .mailboxPause h _ => some (h, .mailboxControl)
  | .mailboxRead h _ _ _ => some (h, .mailboxRead)
  | .pointRead h _ _ => some (h, .pointRead)
  | .docList h _ _ => some (h, .docList)
  | .docRead h _ => some (h, .docRead)
  | .docPages h _ _ _ => some (h, .docPages)
  | .docHold h _ => some (h, .docHold)
  | .docRelease h _ => some (h, .docRelease)
  | .docReroute h _ _ => some (h, .docReroute)
  | .docPurge h _ => some (h, .docPurge)
  | .journalRead h _ _ => some (h, .journalRead)
  | .journalRelease h _ => some (h, .journalRelease)
  | _ => none

/-! ### The frames that runs are read back as -/

/-- The frames of the shelf, as the runs that 11.2 gives; a CALL_OPEN read from a run is decided to its end. -/
def shelfFrame (i : Instr) : Bool :=
  match i with
  | .callOpen _ (.frame _ _ .done) => true
  | .senderInfo _ _ => true
  | .pageStart _ _ _ _ => true
  | .pageData _ _ _ => true
  | .pageEnd _ _ _ _ => true
  | .callClose _ _ => true
  | .linkAlive => true
  | _ => false

/-- The channel that a frame of the shelf is handed to (R29). -/
def frameChannel (i : Instr) : Option Nat :=
  match i with
  | .callOpen ch (.frame _ _ _) => some ch
  | .senderInfo ch _ => some ch
  | .pageStart ch _ _ _ => some ch
  | .pageData ch _ _ => some ch
  | .pageEnd ch _ _ _ => some ch
  | .callClose ch _ => some ch
  | _ => none

/-- The frames of a point, and the gateway's LINK_ALIVE (11.3). -/
def pointFrame (i : Instr) : Bool :=
  match i with
  | .pointUp _ => true
  | .pointDown _ => true
  | .accept _ _ => true
  | .decline _ _ _ => true
  | .intakePost _ _ _ => true
  | .pageAck _ _ => true
  | .pageNak _ _ => true
  | .officeLinkAlive => true
  | _ => false

/-! ### The records that do not change their number -/

/-- 24 channels, 30 points, 4 lanes, 65 mailboxes. -/
abbrev State.shapeOk (s : State) : Prop :=
  s.calls.channels.length = channelCount ∧ s.delivery.points.length = pointCount
    ∧ s.delivery.lanes.length = laneCount ∧ s.mail.boxes.length = mailboxCount + 1

/-! ### The bytes and the blocks of the store -/

/-- The bytes of the page store are in canonical form. -/
abbrev State.bytesOk (s : State) : Prop := Memory.wf s.store.mem = true

def PortOp.block (o : PortOp) : Nat :=
  match o with
  | .write _ _ _ b => b
  | .read _ _ _ b _ => b

/-- Every block number held anywhere is one of the 16,384 (R1). -/
abbrev State.blocksOk (s : State) : Prop :=
  (∀ b ∈ s.store.free, b < blockCount) ∧ (∀ e ∈ s.store.records, ∀ b ∈ e.2.blocks, b < blockCount)
    ∧ (∀ o ∈ s.store.port, o.block < blockCount)

/-! ### Sparse tables -/

/-- Keys strictly rising from `lo` on. -/
def rising {α : Type} (lo : Nat) (l : List (Nat × α)) : Bool :=
  match l with
  | [] => true
  | e :: t => decide (lo ≤ e.1) && rising (e.1 + 1) t

/-- Every sparse table has its keys strictly rising. -/
abbrev State.tablesOk (s : State) : Prop :=
  rising 0 s.store.records = true ∧ rising 0 s.store.blocks = true ∧ rising 0 s.docs.slots = true
    ∧ rising 0 s.tables.mailbox.live = true ∧ rising 0 s.tables.mailbox.staging = true
    ∧ rising 0 s.tables.point.live = true ∧ rising 0 s.tables.point.staging = true

/-! ### Counts, clocks and queues inside their limits -/

/-- The counts that stop at a maximum, the two clocks, the notice queue and the immediate replies (Conventions,
Counts; R28, R32, R89, R118, R122, R124, R178, R184, R190). -/
abbrev State.limitsOk (s : State) : Prop :=
  s.line.errors ≤ max16 ∧ s.office.errors ≤ max16 ∧ s.journal.unrecorded ≤ max16 ∧ s.mgmt.dropped ≤ max16
    ∧ s.mgmt.uptime ≤ uptimeMax ∧ s.mgmt.tod.secs ≤ max32 ∧ s.mgmt.tod.ms ≤ 999
    ∧ s.mgmt.notices.length ≤ noticeLimit ∧ s.mgmt.replies.countP (fun r => !r.holds) ≤ immediateLimit
    ∧ (∀ c ∈ s.calls.channels, c.errors ≤ max16)
    ∧ (∀ x ∈ s.delivery.points, x.failures ≤ max8 ∧ x.errors ≤ max16 ∧ x.unsent ≤ max8)

/-! ### The quarantine mailbox -/

/-- R102, R110: mailbox 64 is always accepting, never delivering, and counts no pages held. What the Mailbox Unit
could still be told to open names department mailboxes alone. -/
abbrev State.quarantineOk (s : State) : Prop :=
  (s.box quarantine).accepting = true ∧ (s.box quarantine).delivering = false ∧ (s.box quarantine).held = 0
    ∧ (∀ l ∈ s.waiting.mailSwaps, ∀ m ∈ l, m < mailboxCount)
    ∧ (∀ e ∈ s.tables.mailbox.live, e.1 < mailboxCount) ∧ (∀ e ∈ s.tables.mailbox.staging, e.1 < mailboxCount)

/-! ### Lanes and points -/

/-- A mailbox row names points 1 to 30 (section 9.1). -/
def MailRow.inRange (r : MailRow) : Prop :=
  1 ≤ r.primary ∧ r.primary ≤ pointCount ∧ ∀ a, r.alternate = some a → 1 ≤ a ∧ a ≤ pointCount

/-- R128, R129: a point's serving lane is the lane that serves the point, so that no two lanes serve one point;
and a lane is IDLE exactly when it serves nothing. The mailbox table names points that exist. -/
def State.lanesOk (s : State) : Prop :=
  s.shapeOk
    ∧ (∀ e ∈ s.tables.mailbox.live, MailRow.inRange e.2) ∧ (∀ e ∈ s.tables.mailbox.staging, MailRow.inRange e.2)
    ∧ (∀ i, i < laneCount → ((s.lane i).state = .idle ↔ (s.lane i).job = none))
    ∧ (∀ i, i < laneCount → ∀ j, (s.lane i).job = some j →
        1 ≤ j.point ∧ j.point ≤ pointCount ∧ (s.point j.point).lane = some i)
    ∧ (∀ p, 1 ≤ p → p ≤ pointCount → ∀ i, (s.point p).lane = some i →
        i < laneCount ∧ ∃ j, (s.lane i).job = some j ∧ j.point = p)

end Sys2Proof.Machine
end

