-- ==== Sys2Proof/Certificates/Slice0/Obligations.lean ====
section
/-! DEFINITION. The statements about the 6024. Each docstring names the rules of spec/ it rests on. -/

open Sys2Proof Sys2Proof.Machine Sys2Proof.Config

/-! ### The step, resets, and what every step keeps -/

/-- The command at the front of the queue is run on the state with the queue's rest. -/
def Obligations.FrontCommandRuns : Prop :=
  ∀ (c : Instr) (rest : List Instr) (s : State), s.pending = c :: rest →
    step s = exec c { s with pending := rest }

/-- R184: one millisecond of the reference clock on an empty queue (that it ticks there is the model's choice, log 1).
Both clocks stop at their last values; a 6024 held in reset stays as it is. The event of the last value of time-of-day
moves both clocks on to it (log 33). -/
def Obligations.EmptyQueueTicks : Prop :=
  ∀ s : State,
    (s.pending = [] → s.awake → ∃ tod : TimeOfDay,
      tod.secs * 1000 + tod.ms = min (s.mgmt.tod.secs * 1000 + s.mgmt.tod.ms + 1) (4294967295 * 1000 + 999)
      ∧ tod.ms ≤ 999
      ∧ step s = .next { s with mgmt := { s.mgmt with
          uptime := min (s.mgmt.uptime + 1) 281474976710655, tod := tod } })
    ∧ (s.pending = [] → ¬ s.awake → step s = .next s)
    ∧ (s.awake → s.mgmt.tod.secs ≤ 4294967295 → s.mgmt.tod.ms ≤ 999 →
        exec .timeOfDayLimit s = .next { s with mgmt := { s.mgmt with
          uptime := min (s.mgmt.uptime
            + (4294967295 * 1000 + 999 - (s.mgmt.tod.secs * 1000 + s.mgmt.tod.ms))) 281474976710655
          tod := ⟨4294967295, 999⟩ } })

/-- R193: power-on and the reset input, with the cause recorded. The state it leaves, afterReset, is given by the
second clause. That the bytes of the store are kept at power-on too is the model's choice (log 11), and that a
power-on reset may come while the input is held, and then stays in force, is log 12. R26, R27, R30, R31, R74, R100,
R101, R117, R118, R122, R128, R160, R177, R178, R182, R193: what the blocks hold after a reset of any cause. The reset
keeps the queue of commands (log 27) and the bytes of the store (R1; log 11), no frame stands as the last put on a
link (log 16), nothing that a block has raised waits to be taken, the first LINK_ALIVE of the office link is due 1 s
after the reset (log 28), no request counts as having come before (log 39), no head waits for its not-before (log 19),
and the RESTARTED notice of R193 is taken in the same event. -/
def Obligations.ResetsLeaveTheResetState : Prop :=
  (∀ s : State,
     (s.heldReset = none →
       exec .powerOnReset s
         = .next (State.afterReset s.pending s.store.mem (Management.afterReset .powerOn ⟨0, 0⟩ false))
       ∧ exec .pinResetAssert s
         = .next { State.afterReset s.pending s.store.mem (Management.afterReset .pin ⟨0, 0⟩ false) with
                     heldReset := some .pin }
       ∧ exec .pinResetRelease s = .next s)
     ∧ (∀ cause, s.heldReset = some cause →
       exec .powerOnReset s
         = .next { State.afterReset s.pending s.store.mem (Management.afterReset .powerOn ⟨0, 0⟩ false) with
                     heldReset := some .powerOn }
       ∧ exec .pinResetAssert s = .next s
       ∧ exec .pinResetRelease s
         = .next (State.afterReset s.pending s.store.mem (Management.afterReset cause ⟨0, 0⟩ false))))
  ∧ (∀ (pending : List Instr) (mem : List Host.Cell) (cause : ResetCause) (tod : TimeOfDay) (set : Bool),
     let t := State.afterReset pending mem (Management.afterReset cause tod set)
     t.pending = pending ∧ t.heldReset = none
     ∧ t.store = { mem := mem, blocks := [], free := List.range 16384, records := [], port := [] }
     ∧ t.docs = { slots := [], counter := some 1 }
     ∧ t.line = { link := .down, silence := none, errors := 0, queue := [], output := none }
     ∧ t.calls.silenceTimeout = 20 ∧ t.calls.channels.length = 24
     ∧ (∀ c ∈ t.calls.channels,
         c = { state := .idle, enabled := true, doc := none, resends := 0, page := none, ended := none, mark := false,
               expected := 0, received := 0, bufA := .empty, bufB := .empty, discards := [], drop := none,
               silence := none, release := none, errors := 0, decision := none, loss := false, aborts := 0 })
     ∧ t.pressure.level = .normal ∧ t.pressure.enter = 0 ∧ t.pressure.exit = 0
     ∧ t.pressure.params
         = { tight := 2048, critical := 512, hysteresis := 256, enterDebounce := 4, exitDebounce := 4 }
     ∧ t.journal = { log := [], reserved := 0, unrecorded := 0, lowMark := 256, lowArmed := true }
     ∧ t.mail.lastServed = 63 ∧ t.mail.boxes.length = 65
     ∧ (∀ m, m < 64 → t.box m = { accepting := true, delivering := true, queue := [], held := 0, ahead := false })
     ∧ t.box 64 = { accepting := true, delivering := false, queue := [], held := 0, ahead := false }
     ∧ t.delivery.points.length = 30
     ∧ (∀ x ∈ t.delivery.points,
         x = { state := .offline, intake := [], lane := none, failures := 0, errors := 0, unsent := 0 })
     ∧ t.delivery.lanes.length = 4
     ∧ (∀ l ∈ t.delivery.lanes,
         l = { state := .idle, job := none, buf0 := .empty, buf1 := .empty, order := [], nextRead := none, acked := [],
               produced := [], pending := .none, reading := .none, acceptTimer := none, waitTimer := none,
               withdrawn := false })
     ∧ t.office
         = { link := .down, silence := none, errors := 0, queue := [], keepalive := 1000, output := none }
     ∧ t.tables
         = { routing := ⟨[], [], 0, 0⟩, screening := ⟨[], [], 0, 0⟩, mailbox := ⟨[], [], 0, 0⟩,
             point := ⟨[], [], 0, 0⟩ }
     ∧ t.mgmt.slot = .free ∧ t.mgmt.replies = [] ∧ t.mgmt.replyOut = false ∧ t.mgmt.dropped = 0
     ∧ t.mgmt.intake = .closed ∧ t.mgmt.run = .stopped ∧ t.mgmt.uptime = 0 ∧ t.mgmt.tod = tod
     ∧ t.mgmt.clockSet = set ∧ t.mgmt.cause = cause ∧ t.mgmt.unacknowledged = true
     ∧ t.mgmt.params = { silence := 20, pressure := t.pressure.params, lowMark := 256, mode := .streaming, masks := 0 }
     ∧ (∀ code, flagOn code t.mgmt.flags = (code == 15)) ∧ t.mgmt.lost = false ∧ t.mgmt.outstanding = false
     ∧ t.mgmt.notices = [{ stamp := tod, body := .event (.restarted cause) }] ∧ t.mgmt.noticeOut = false
     ∧ t.mgmt.tookSlot = false
     ∧ t.waiting
         = { occurrences := [], releases := 0, idleReports := 0, triggers := [], laneDiscards := [], portReports := [],
             pressureParts := [], lowMarks := [], silences := [], clears := [], mailSwaps := [], pointSwaps := [] })

/-- No command changes the queue of commands that wait. That the resets keep it too is the model's choice (log 27). -/
def Obligations.CommandsLeaveTheQueueAlone : Prop :=
  ∀ (c : Instr) (s t : State), exec c s = .next t → t.pending = s.pending

/-- The bytes of the page store keep their canonical form: addresses strictly rising inside the store, no entry equal
to what an unlisted address reads as (R1; log 8). The page records, the blocks written, the document slots and the
table rows stay lists with keys strictly rising, so that no key stands twice. -/
def Obligations.StepsKeepCollectionsCanonical : Prop :=
  (∀ s t : State, s.bytesOk → step s = .next t → t.bytesOk)
  ∧ (∀ s t : State, s.tablesOk → step s = .next t → t.tablesOk)

/-- R1: while every block number held anywhere names one of the 16,384 blocks, every step answers a next state, and
that state's block numbers do so too: no command faults and none is refused. A port operation on a block beyond the
16,384 of R1 stops with a fault: the rule names no such block, and the stop is the model's own (log 34). No run from
reset reaches it. -/
def Obligations.StepsNeverStop : Prop :=
  (∀ s : State, s.blocksOk → ∃ t, step s = .next t ∧ t.blocksOk)
  ∧ (∀ (s : State) (op : PortOp) (rest : List PortOp) (decay : List (Nat × Byte)), s.store.port = op :: rest →
     16384 ≤ op.block →
     (∀ ch b r k, op = .write ch b r k → exec .writeCompletion s = .fault .noSuchBlock)
     ∧ (∀ i r pos k n, op = .read i r pos k n → exec (.readCompletion decay) s = .fault .noSuchBlock))

/-- Conventions, Counts; R28, R32, R89, R118, R122, R124, R178, R184, R190: no count passes its maximum, the clocks
stay in range, the notice queue holds at most 32 and the reply list at most 7 immediate replies. R102, R110: mailbox
64 is always accepting and never delivering, and counts no pages held. -/
def Obligations.StepsKeepCountsInLimits : Prop :=
  (∀ s t : State, s.limitsOk → step s = .next t → t.limitsOk)
  ∧ (∀ s t : State, s.quarantineOk → step s = .next t → t.quarantineOk)

/-- R128, R129: at most one lane serves any one delivery point, and a lane not IDLE serves something. -/
def Obligations.OneLaneServesOnePoint : Prop :=
  ∀ s t : State, s.lanesOk → step s = .next t → t.lanesOk

/-- The seven properties hold after a reset. -/
def Obligations.InvariantsHoldAtReset : Prop :=
  State.reset.bytesOk ∧ State.reset.blocksOk ∧ State.reset.shapeOk ∧ State.reset.limitsOk ∧ State.reset.tablesOk
    ∧ State.reset.quarantineOk ∧ State.reset.lanesOk

/-! ### The runs of bytes on the two links (chapter 11) -/

/-- R196, section 11.2: the run of a well-formed line frame is read back as that frame, with every field. R197,
section 11.3: the run of a well-formed frame of a point is read back as that frame, with every field. R196, R197,
R118: a run whose length does not agree with its length field, or whose check value is wrong, is no good frame; on the
office link a correct run for another destination is foreign and not bad. Section 11.1: a number stands in its bytes
with the most significant first; a string as its length, its characters and zeros; an absent one as 255 and zeros, or
as zeros in an image with a presence byte; an enumeration as its place in its list, from 1. R198: the bits of the
bytes in order, each byte with its most significant bit first, through a register of ones: CRC-16 without inversion,
CRC-32 inverted. Sections 11.2 and 11.3: the bytes of every line frame and every delivery frame the 6024 sends. -/
def Obligations.RunsReadBack : Prop :=
  (∀ i : Instr, shelfFrame i = true → i.wellFormed = true → lineRun (shelfRun i) = i)
  ∧ (∀ i : Instr, pointFrame i = true → i.wellFormed = true → officeRun (pointRun i) = i)
  ∧ (∀ run : List Byte,
     (run.length < 6 ∨ run.length ≠ 6 + field run 2 2
         ∨ field run (run.length - 2) 2 ≠ (crc16 (run.take (run.length - 2))).toNat → lineRun run = .badLineFrame)
     ∧ (run.length < 10 ∨ run.length ≠ 10 + field run 4 2 ∨ 1088 < field run 4 2
         ∨ field run (run.length - 4) 4 ≠ (crc32 (run.take (run.length - 4))).toNat →
         officeRun run = .badOfficeFrame false)
     ∧ (10 ≤ run.length → run.length = 10 + field run 4 2 → field run 4 2 ≤ 1088 →
         field run (run.length - 4) 4 = (crc32 (run.take (run.length - 4))).toNat → field run 0 1 ≠ 0 →
         officeRun run = .foreignOfficeFrame))
  ∧ ((∀ n v : Nat, (be n v).length = n
     ∧ ∀ k, k < n → (be n v)[k]? = some (BitVec.ofNat 8 (v / 256 ^ (n - 1 - k))))
   ∧ (∀ (room : Nat) (x : Str), x.length ≤ room →
     let f := strBytes room x
     f.length = room + 1 ∧ f[0]? = some (BitVec.ofNat 8 x.length)
     ∧ (∀ k, k < x.length → f[k + 1]? = (x[k]?).map (BitVec.ofNat 8))
     ∧ (∀ k, x.length ≤ k → k < room → f[k + 1]? = some 0)
     ∧ optStrBytes room (some x) = f ∧ imageStr room (some x) = f)
   ∧ (∀ room : Nat, optStrBytes room none = 255 :: List.replicate room 0
     ∧ imageStr room none = List.replicate (room + 1) 0)
   ∧ (∀ t : TimeOfDay, todBytes t = be 4 t.secs ++ be 2 t.ms ∧ optTod (some t) = todBytes t
     ∧ optTod none = List.replicate 6 0)
   ∧ (∀ b : Bool, flagByte b = be 1 (if b then 1 else 0))
   ∧ (∀ (l : List Bool) (k : Nat), (presence l).testBit k = l.getD k false)
   ∧ [Resolution.standard, .fine, .superfine].map resolutionCode = [1, 2, 3]
   ∧ [Width.a4, .b4, .a3].map widthCode = [1, 2, 3]
   ∧ [Verdict.good, .marginal, .damaged].map verdictCode = [1, 2, 3]
   ∧ [Confirm.accepted, .resend].map confirmCode = [1, 2]
   ∧ [DocClass.routine, .urgent].map classCode = [1, 2]
   ∧ [DocState.receiving, .queued, .delivering, .held, .retained].map docStateCode = [1, 2, 3, 4, 5]
   ∧ [HoldReason.management, .deliveryFailed, .quarantine].map holdCode = [1, 2, 3]
   ∧ [ScreenResult.none, .accept, .quarantine, .redirect].map screenResultCode = [1, 2, 3, 4]
   ∧ [ScreenAction.accept, .refuse, .quarantine, .redirect].map screenActionCode = [1, 2, 3, 4]
   ∧ [MatchKind.caller, .station].map matchCode = [1, 2]
   ∧ [JournalOutcome.received, .receivedIncomplete, .refused].map outcomeCode = [1, 2, 3]
   ∧ [Cause.normal, .lineLost, .farEndAbort, .protocol, .released, .channelDisabled, .intakeClosed, .draining,
       .numbersExhausted, .journalFull, .storeCritical, .noDocumentSlot, .screened, .noRoute, .storeTight, .mailboxClosed,
       .mailboxFull, .pageLimit, .pagePoolEmpty, .storeFull, .pageEmpty, .timeout, .engineClosed, .noRelease,
       .linkLost].map causeCode = (List.range 25).map (· + 1)
   ∧ [ChannelState.idle, .answered, .receivingPage, .betweenPages, .releasing].map channelStateCode = [1, 2, 3, 4, 5]
   ∧ [LaneState.idle, .offering, .sending, .waitingIntake, .waitingAck, .withdrawing].map laneStateCode
       = [1, 2, 3, 4, 5, 6]
   ∧ [PointState.offline, .ready, .stalled].map pointStateCode = [1, 2, 3]
   ∧ [SuspendReason.acceptTimeout, .ackTimeout, .intakeUnavailable, .pageRejected, .pointDown, .officeLinkDown,
       .declined].map suspendCode = [1, 2, 3, 4, 5, 6, 7]
   ∧ [ReturnReason.tooSmall, .overLimit, .duplicate].map returnCode = [1, 2, 3]
   ∧ [IntakeState.closed, .opened, .draining].map intakeCode = [1, 2, 3]
   ∧ [RunState.stopped, .running].map runCode = [1, 2] ∧ [Level.normal, .tight, .critical].map levelCode = [1, 2, 3]
   ∧ [LinkState.down, .up].map linkCode = [1, 2]
   ∧ [TableId.routing, .screening, .mailbox, .point].map tableCode = [1, 2, 3, 4]
   ∧ [CommitReason.duplicateKey, .badField, .mailboxUndefined, .pointUndefined, .mailboxInUse, .pointInUse,
       .pointManagerLost].map commitCode = [1, 2, 3, 4, 5, 6, 7]
   ∧ [Result.ok, .busy, .notPermitted, .unknownRequest, .badArgument, .range, .wrongState, .notReady, .inUse,
       .tableInvalid].map resultCode = [1, 2, 3, 4, 5, 6, 7, 8, 9, 10]
   ∧ [ResetCause.powerOn, .pin, .restart].map resetCode = [1, 2, 3]
   ∧ [ReportMode.streaming, .summary].map modeCode = [1, 2])
  ∧ (∀ bytes : List Byte,
     let bits := bytes.flatMap (fun b => (List.range 8).map (fun k => b.getLsbD (7 - k)))
     crc16 bytes = bits.foldl (fun (r : BitVec 16) bit =>
       if r.getLsbD 15 = bit then r <<< 1 else (r <<< 1) ^^^ 0x1021#16) 0xFFFF#16
     ∧ crc32 bytes = ~~~ (bits.foldl (fun (r : BitVec 32) bit =>
       if r.getLsbD 31 = bit then r <<< 1 else (r <<< 1) ^^^ 0x04C11DB7#32) 0xFFFFFFFF#32)
     ∧ crc32 [] = 0)
  ∧ ((∀ (ch : Nat) (body : LineBody),
     let frame := fun (kind : Nat) (b : List Byte) =>
       let run := be 1 kind ++ be 1 ch ++ be 2 b.length ++ b
       lineFrameBytes ⟨ch, body⟩ = run ++ be 2 (crc16 run).toNat
     (∀ receipt, body = .answer receipt → frame 33 (be 4 receipt))
     ∧ (∀ cause, body = .refuse cause → frame 34 (be 1 (causeCode cause)))
     ∧ (∀ cause, body = .drop cause → frame 35 (be 1 (causeCode cause)))
     ∧ (∀ x, body = .confirm x → frame 36 (be 1 (confirmCode x))))
   ∧ (∀ (dest : Nat) (body : OfficeBody),
     let frame := fun (kind tag : Nat) (p : List Byte) =>
       let run := be 1 dest ++ be 1 0 ++ be 1 kind ++ be 1 tag ++ be 2 p.length ++ p
       officeFrameBytes ⟨dest, body⟩ = run ++ be 4 (crc32 run).toNat
     (∀ receipt mailbox cls pages first total station, body = .offer receipt mailbox cls pages first total station →
       frame 1 0 (be 4 receipt ++ be 1 mailbox ++ be 1 (classCode cls) ++ be 2 pages ++ be 2 first ++ be 4 total
         ++ optStrBytes 20 station))
     ∧ (∀ receipt page slot length res width verdict last,
       body = .pageHead receipt page slot length res width verdict last →
       frame 2 0 (be 4 receipt ++ be 2 page ++ be 1 slot ++ be 4 length ++ be 1 (resolutionCode res)
         ++ be 1 (widthCode width) ++ be 1 (verdictCode verdict) ++ flagByte last))
     ∧ (∀ slot offset bytes, body = .pageData slot offset bytes → frame 3 0 (be 1 slot ++ be 4 offset ++ bytes))
     ∧ (∀ slot check, body = .pageTail slot check → frame 4 0 (be 1 slot ++ be 4 check.toNat))
     ∧ (∀ receipt, body = .withdraw receipt → frame 5 0 (be 4 receipt))
     ∧ (∀ slot reason, body = .slotReturn slot reason → frame 6 0 (be 1 slot ++ be 1 (returnCode reason)))
     ∧ (body = .linkAlive → frame 127 0 [])
     ∧ (∀ r, body = .reply r → frame r.code r.tag (be 1 (resultCode r.result) ++ replyItems r.body))
     ∧ (∀ n, body = .notice n → frame 32 0 (noticeBytes n))))

/-! ### The line port and the answer decision (chapters 2 and 3) -/

/-- R27, R28, R29: LINK_ALIVE makes the link UP, restarts its timer and reaches no channel; a frame that is not good,
by its run or by a field out of range (log 6), is counted and changes nothing else. R27, R30, R50: the link silence
timer expires at its deadline: the link goes DOWN, the waiting frames are discarded, the change is raised, and every
channel has the loss to take. The clocks move on to the deadline where they have not reached it (log 3). R30, R50:
frames leave in the order in which they were handed; a frame handed while the link is DOWN is discarded, and so is the
ANSWER of a channel that has a loss of the link still to take, whatever the link is by then (log 5). Every other frame
handed while the link is UP joins the queue. The frame last sent is the model's own record (log 16). -/
def Obligations.LinePortTakesAndSends : Prop :=
  (∀ s : State, s.awake →
     let up := { s with line := { s.line with link := .up, silence := some (s.mgmt.uptime + 3000) } }
     let bad := { s with line := { s.line with errors := bump 65535 s.line.errors } }
     (s.line.link = .up → exec .linkAlive s = .next up)
     ∧ (s.line.link = .down → exec .linkAlive s = .next { up with waiting := { s.waiting with
         occurrences := s.waiting.occurrences ++ [(.linePort, .lineLinkChanged .up)] } })
     ∧ exec .badLineFrame s = .next bad
     ∧ (∀ i : Instr, shelfFrame i = true → i.wellFormed = false → exec i s = .next bad))
  ∧ (∀ (s : State) (due : Nat), s.awake → s.line.silence = some due → due ≤ 281474976710655 →
     exec .lineSilenceExpiry s = .next { s with
       mgmt := { s.mgmt with
         uptime := min (s.mgmt.uptime + (due - s.mgmt.uptime)) 281474976710655
         tod := TimeOfDay.plus s.mgmt.tod (due - s.mgmt.uptime) }
       line := { s.line with link := .down, silence := none, queue := [] }
       calls := { s.calls with channels := s.calls.channels.map (fun c => { c with loss := true }) }
       waiting := { s.waiting with
         occurrences := s.waiting.occurrences ++ [(.linePort, .lineLinkChanged .down)] } })
  ∧ ((∀ (s : State) (f : LineFrame) (rest : List LineFrame), s.awake → s.line.queue = f :: rest →
     exec .lineFrameSent s = .next { s with line := { s.line with queue := rest, output := some f } })
   ∧ (∀ (s : State) (ch : Nat) (body : LineBody), s.line.link = .up →
     ((s.channel ch).loss = false ∨ ∀ receipt, body ≠ .answer receipt) →
     s.sendLine ch body = { s with line := { s.line with queue := s.line.queue ++ [⟨ch, body⟩] } })
   ∧ (∀ (s : State) (ch : Nat) (body : LineBody), s.line.link = .down → s.sendLine ch body = s)
   ∧ (∀ (s : State) (ch receipt : Nat), (s.channel ch).loss = true → s.sendLine ch (.answer receipt) = s))

/-- R61: the winning route is an entry whose prefix leads the called number, and no other such entry has a longer
prefix; no route wins exactly when no prefix leads it. R59: the same for the CALLER entries and an identity that is
present; without one no CALLER entry wins. R69: a STATION entry matches exactly, trailing spaces apart on both sides;
CALLER entries take no part. -/
def Obligations.MatchingFindsTheWinner : Prop :=
  ((∀ (l : List RouteEntry) (called : Str),
     (∀ r, routeMatch l called = some r →
       r ∈ l ∧ r.stem <+: called ∧ ∀ x ∈ l, x.stem <+: called → x.stem.length ≤ r.stem.length)
     ∧ (routeMatch l called = none ↔ ∀ x ∈ l, ¬ x.stem <+: called))
   ∧ (∀ (l : List ScreenEntry) (caller : Str),
     (∀ e, callerMatch l (some caller) = some e →
       e ∈ l ∧ e.kind = .caller ∧ e.str <+: caller
         ∧ ∀ x ∈ l, x.kind = .caller → x.str <+: caller → x.str.length ≤ e.str.length)
     ∧ (callerMatch l (some caller) = none ↔ ∀ x ∈ l, x.kind = .caller → ¬ x.str <+: caller))
   ∧ (∀ l : List ScreenEntry, callerMatch l none = none))
  ∧ (∀ (l : List ScreenEntry) (id : Str),
     (∀ e, stationMatch l id = some e → e ∈ l ∧ e.kind = .station ∧ trim e.str = trim id)
     ∧ (stationMatch l id = none ↔ ∀ x ∈ l, x.kind = .station → trim x.str ≠ trim id)
     ∧ (∀ s : Str, ∃ n, s = trim s ++ List.replicate n 32 ∧ (trim s).getLast? ≠ some 32))

/-- R58 to R64: what a resolution hands back: SCREENED without a route looked up, NO_ROUTE, STORE_TIGHT for a
shed-when-tight route, the cause of step 10, or a placement with the route's values, the caller-stage result and the
generation of the live routing table. R63, R64: a department mailbox takes a call when it is in use, accepting, and
below its quota; mailbox 64 always does. A candidate that does not is followed one step to its overflow mailbox, and
the cause describes the last mailbox tested. -/
def Obligations.ResolutionOutcomes : Prop :=
  (∀ (s : State) (called : Str) (caller : Option Str),
     let e := callerMatch s.tables.screening.live caller
     let gen := s.tables.routing.generation
     ((∃ x, e = some x ∧ x.action = .refuse) → s.resolve called caller = .refused .screened none .none)
     ∧ (∀ (res : ScreenResult) (goal : Option Nat),
         ((e = none ∧ res = .none ∧ goal = none)
           ∨ (∃ x, e = some x ∧ ((x.action = .accept ∧ res = .accept ∧ goal = none)
               ∨ (x.action = .quarantine ∧ res = .quarantine ∧ goal = some 64)
               ∨ (x.action = .redirect ∧ res = .redirect ∧ x.target.isSome ∧ goal = x.target)))) →
         (routeMatch s.tables.routing.live called = none →
           s.resolve called caller = .refused .noRoute (some gen) res)
         ∧ (∀ r, routeMatch s.tables.routing.live called = some r →
             (s.pressure.level = .tight ∧ r.shed = true →
               s.resolve called caller = .refused .storeTight (some gen) res)
             ∧ (¬ (s.pressure.level = .tight ∧ r.shed = true) →
                 (∀ cause, s.place (goal.getD r.mailbox) = .error cause →
                   s.resolve called caller = .refused cause (some gen) res)
                 ∧ (∀ m, s.place (goal.getD r.mailbox) = .ok m →
                   s.resolve called caller = .placed
                     { routed := r.mailbox, final := m, cls := r.cls, hours := r.hours, routeGen := gen,
                       screening := res })))))
  ∧ (∀ (s : State) (m : Nat),
     s.takes 64 = true
     ∧ (m ≠ 64 → (s.takes m = true ↔
         ∃ row, s.mailRow m = some row ∧ (s.box m).accepting = true ∧ (s.box m).held < row.quota))
     ∧ (s.takes m = true → s.place m = .ok m)
     ∧ (∀ row o, s.takes m = false → s.mailRow m = some row → row.overflow = some o → s.takes o = true →
         s.place m = .ok o)
     ∧ (∀ row o, s.takes m = false → s.mailRow m = some row → row.overflow = some o → s.takes o = false →
         s.place m = .error (if (s.mailRow o).isSome ∧ (s.box o).accepting = true then .mailboxFull else .mailboxClosed))
     ∧ (∀ row, s.takes m = false → s.mailRow m = some row → row.overflow = none →
         s.place m = .error (if (s.box m).accepting = true then .mailboxFull else .mailboxClosed))
     ∧ (s.takes m = false → s.mailRow m = none → s.place m = .error .mailboxClosed))

/-- R53, R54, R55: a CALL_OPEN in IDLE that fails step 1, 2, 3 or 4 is refused with that step's cause, and no slot or
reservation is held; a refused reservation is counted. R56, R57, R62, R66: a CALL_OPEN that passes steps 1 to 4 and
fails a later one is refused with an entry in the journal: at step 5 at CRITICAL, at step 6 without a FREE slot, at
steps 7 to 10 with what the resolution found. The claim is dropped, so the document table is as it was. -/
def Obligations.RefusalsOfACall : Prop :=
  (∀ (s : State) (ch : Nat) (called : Str) (caller : Option Str), s.quiet ch → (s.channel ch).state = .idle →
     callOpenOk ch (.frame called caller .done) = true →
     let g := s.lineGood
     let refused := fun (x : State) (cause : Cause) =>
       { x with
         line := { x.line with queue := x.line.queue ++ [⟨ch, .refuse cause⟩] }
         waiting := { x.waiting with
           occurrences := x.waiting.occurrences ++ [(.callController, .callRefused ch called cause)] } }
     let run := exec (.callOpen ch (.frame called caller .done)) s
     ((s.channel ch).enabled = false → run = .next (refused g .channelDisabled))
     ∧ ((s.channel ch).enabled = true → s.mgmt.intake = .closed → run = .next (refused g .intakeClosed))
     ∧ ((s.channel ch).enabled = true → s.mgmt.intake = .draining → run = .next (refused g .draining))
     ∧ ((s.channel ch).enabled = true → s.mgmt.intake = .opened → s.docs.counter = none →
         run = .next (refused g .numbersExhausted))
     ∧ ((s.channel ch).enabled = true → s.mgmt.intake = .opened → s.docs.counter.isSome = true →
         2048 ≤ s.journal.log.length + s.journal.reserved →
         run = .next (refused { g with journal := { g.journal with
           unrecorded := bump 65535 g.journal.unrecorded } } .journalFull)))
  ∧ (∀ (s : State) (ch : Nat) (called : Str) (caller : Option Str), s.admitted ch → s.tablesOk →
     callOpenOk ch (.frame called caller .done) = true →
     let g := s.lineGood.reserve
     let refused := fun (cause : Cause) (gen : Option Nat) (res : ScreenResult) =>
       { g with
         journal := { g.journal with
           reserved := s.journal.reserved
           log := s.journal.log ++
             [{ receipt := none, channel := ch, openTime := s.mgmt.tod, closeTime := s.mgmt.tod, called := called,
                caller := caller, station := none, outcome := .refused, cause := cause, pages := 0, damaged := 0,
                mailbox := none, routeGen := gen, screening := res }] }
         line := { g.line with queue := g.line.queue ++ [⟨ch, .refuse cause⟩] }
         waiting := { g.waiting with
           occurrences := g.waiting.occurrences ++ [(.callController, .callRefused ch called cause)] } }
     let run := exec (.callOpen ch (.frame called caller .done)) s
     (s.pressure.level = .critical → run = .next (refused .storeCritical none .none))
     ∧ (s.pressure.level ≠ .critical → lowestFree 1024 0 s.docs.slots = none →
         run = .next (refused .noDocumentSlot none .none))
     ∧ (∀ cause gen res, s.pressure.level ≠ .critical → (lowestFree 1024 0 s.docs.slots).isSome = true →
         s.resolve called caller = .refused cause gen res → run = .next (refused cause gen res)))

/-- R33, R67, R15: a CALL_OPEN that passes every check is answered: the document is created RECEIVING in the lowest
FREE slot with the counter's number, the counter advances, the channel is ANSWERED with its silence timer running, and
ANSWER carries the number. The reservation stays with the call. R53, R58, R67, R72: other events may be taken between
two acts of a decision (log 4). The frame sets the decision up, and a command carries it on, act by act, to its end or
to just before the act named, where no loss of the link waits (what one does is in EventsThatEndACall). Each act
reads its state as it then stands: the checks of steps 1 to 6, the resolution, and the answering step, which refuses
with INTAKE_CLOSED or DRAINING, STORE_CRITICAL or NUMBERS_EXHAUSTED, in this order, or answers. R66: how a refusal
ends it. -/
def Obligations.CallAnswered : Prop :=
  (∀ (s : State) (ch : Nat) (called : Str) (caller : Option Str) (slot receipt : Nat) (p : Placement),
     s.admitted ch → callOpenOk ch (.frame called caller .done) = true → s.pressure.level ≠ .critical →
     lowestFree 1024 0 s.docs.slots = some slot → s.resolve called caller = .placed p →
     s.docs.counter = some receipt →
     let g := s.lineGood.reserve
     exec (.callOpen ch (.frame called caller .done)) s = .next { g with
       docs := {
         slots := tablePut slot (.inUse
           { receipt := receipt, state := .receiving, channel := some ch, called := called, caller := caller,
             station := none, routed := p.routed, current := p.final, cls := p.cls, hours := p.hours,
             routeGen := p.routeGen, screening := p.screening, openTime := s.mgmt.tod, closeTime := none, pages := [],
             incomplete := false, damaged := 0, hold := none, attempts := 0, notBefore := none, ackThrough := 0,
             resume := none, expiry := none }) s.docs.slots
         counter := if receipt < 4294967295 then some (receipt + 1) else none }
       calls := { s.calls with channels := s.calls.channels.set ch { s.channel ch with
         state := .answered, doc := some slot, resends := 0
         silence := some (s.mgmt.uptime + s.calls.silenceTimeout * 1000) } }
       line := { g.line with queue := g.line.queue ++ [⟨ch, .answer receipt⟩] } })
  ∧ ((∀ (s : State) (ch : Nat) (called : Str) (caller : Option Str) (stop : DecisionStop), s.quiet ch →
     (s.channel ch).state = .idle → callOpenOk ch (.frame called caller stop) = true →
     let g := s.lineGood
     exec (.callOpen ch (.frame called caller stop)) s = .next ((g.setChannel ch { g.channel ch with
       decision := some { called := called, caller := caller, openTime := s.mgmt.tod, next := .enabled, reserved := false,
                          claim := none, placement := none } }).decideOn ch stop))
   ∧ (∀ (s : State) (ch : Nat) (stop : DecisionStop), s.awake →
     ((s.channel ch).decision = none → exec (.callOpen ch (.onward stop)) s = .next s)
     ∧ ((s.channel ch).loss = false → exec (.callOpen ch (.onward stop)) s = .next (s.decideOn ch stop)))
   ∧ (∀ (s : State) (ch : Nat) (stop : DecisionStop),
     ((s.channel ch).decision = none → s.decideOn ch stop = s)
     ∧ (∀ d, (s.channel ch).decision = some d → stop = .before d.next → s.decideOn ch stop = s)
     ∧ (∀ d, (s.channel ch).decision = some d → stop ≠ .before d.next →
         s.decideOn ch stop = (s.decisionAct ch d).decideOn ch stop))
   ∧ (∀ (s : State) (ch : Nat) (d : Decision),
     let set := fun (x : State) (y : Decision) => x.setChannel ch { x.channel ch with decision := some y }
     let refused := fun (x : State) (cause : Cause) (gen : Option Nat) (res : ScreenResult) =>
       let a : State := match d.claim with
         | none => x
         | some slot => { x with docs := { x.docs with slots := tableDel slot x.docs.slots } }
       let b : State := if d.reserved = true then a.writeEntry
           { receipt := none, channel := ch, openTime := d.openTime, closeTime := x.mgmt.tod, called := d.called,
             caller := d.caller, station := none, outcome := .refused, cause := cause, pages := 0, damaged := 0,
             mailbox := none, routeGen := gen, screening := res }
         else a
       ((b.setChannel ch { b.channel ch with decision := none }).sendLine ch (.refuse cause)).raise .callController
         (.callRefused ch d.called cause)
     let act := s.decisionAct ch d
     (d.next = .enabled →
       ((s.channel ch).enabled = true → act = set s { d with next := .intake })
       ∧ ((s.channel ch).enabled = false → act = refused s .channelDisabled none .none))
     ∧ (d.next = .intake →
       (s.mgmt.intake = .opened → act = set s { d with next := .numbers })
       ∧ (s.mgmt.intake = .closed → act = refused s .intakeClosed none .none)
       ∧ (s.mgmt.intake = .draining → act = refused s .draining none .none))
     ∧ (d.next = .numbers →
       (s.docs.counter ≠ none → act = set s { d with next := .reserve })
       ∧ (s.docs.counter = none → act = refused s .numbersExhausted none .none))
     ∧ (d.next = .reserve →
       (s.journal.log.length + s.journal.reserved < 2048 →
         act = set s.reserve { d with next := .pressure, reserved := true })
       ∧ (2048 ≤ s.journal.log.length + s.journal.reserved →
         act = refused { s with journal := { s.journal with unrecorded := bump 65535 s.journal.unrecorded } }
           .journalFull none .none))
     ∧ (d.next = .pressure →
       (s.pressure.level ≠ .critical → act = set s { d with next := .claim })
       ∧ (s.pressure.level = .critical → act = refused s .storeCritical none .none))
     ∧ (d.next = .claim →
       (∀ slot, lowestFree 1024 0 s.docs.slots = some slot →
         act = set { s with docs := { s.docs with slots := tablePut slot (.claimed ch) s.docs.slots } }
           { d with next := .resolve, claim := some slot })
       ∧ (lowestFree 1024 0 s.docs.slots = none → act = refused s .noDocumentSlot none .none))
     ∧ (d.next = .resolve →
       (∀ p, s.resolve d.called d.caller = .placed p → act = set s { d with next := .answer, placement := some p })
       ∧ (∀ cause gen res, s.resolve d.called d.caller = .refused cause gen res → act = refused s cause gen res))
     ∧ (∀ slot p, d.next = .answer → d.claim = some slot → d.placement = some p →
       let no := fun (cause : Cause) => refused s cause (some p.routeGen) p.screening
       (s.mgmt.intake = .closed → act = no .intakeClosed)
       ∧ (s.mgmt.intake = .draining → act = no .draining)
       ∧ (s.mgmt.intake = .opened → s.pressure.level = .critical → act = no .storeCritical)
       ∧ (s.mgmt.intake = .opened → s.pressure.level ≠ .critical → s.docs.counter = none → act = no .numbersExhausted)
       ∧ (∀ receipt, s.mgmt.intake = .opened → s.pressure.level ≠ .critical → s.docs.counter = some receipt →
         act = (({ s with docs := {
             slots := tablePut slot (.inUse
               { receipt := receipt, state := .receiving, channel := some ch, called := d.called, caller := d.caller,
                 station := none, routed := p.routed, current := p.final, cls := p.cls, hours := p.hours,
                 routeGen := p.routeGen, screening := p.screening, openTime := d.openTime, closeTime := none, pages := [],
                 incomplete := false, damaged := 0, hold := none, attempts := 0, notBefore := none, ackThrough := 0,
                 resume := none, expiry := none }) s.docs.slots
             counter := if receipt < 4294967295 then some (receipt + 1) else none } } : State).setChannel ch
           { s.channel ch with
             state := .answered, doc := some slot, resends := 0, decision := none
             silence := some (s.mgmt.uptime + s.calls.silenceTimeout * 1000) }).sendLine ch (.answer receipt)))))

/-! ### Channels (chapter 2) -/

/-- R32, R33, R34, R35, R36, R42, R46, R47: the frames that are protocol errors in each state are discarded and
counted, and in RELEASING all but CALL_OPEN and CALL_CLOSE are discarded without being counted. Nothing else of the
channel changes but the silence timer, which starts again in the states in which it runs. R49: the silence timer of a
channel starts again at every good frame it takes in ANSWERED, RECEIVING_PAGE and BETWEEN_PAGES, with the timeout in
force; in IDLE and RELEASING a frame starts no timer of the channel. -/
def Obligations.FramesOutOfPlace : Prop :=
  (∀ (s : State) (ch : Nat), s.quiet ch →
     let g := s.frameTaken ch
     let st := (s.channel ch).state
     let err : Host.Outcome State Fault Refusal :=
       .next (g.setChannel ch { g.channel ch with errors := bump 65535 (s.channel ch).errors })
     (∀ called caller stop, callOpenOk ch (.frame called caller stop) = true → st ≠ .idle →
       exec (.callOpen ch (.frame called caller stop)) s = err)
     ∧ (∀ ident, senderInfoOk ch ident = true →
         (st = .idle ∨ st = .receivingPage ∨ st = .betweenPages → exec (.senderInfo ch ident) s = err)
         ∧ (∀ slot d, st = .answered → (s.channel ch).doc = some slot → s.doc slot = some d → d.station.isSome = true →
             exec (.senderInfo ch ident) s = err)
         ∧ (st = .releasing → exec (.senderInfo ch ident) s = .next g))
     ∧ (∀ page res width, pageStartOk ch page = true →
         (st = .idle ∨ st = .receivingPage → exec (.pageStart ch page res width) s = err)
         ∧ (st = .releasing → exec (.pageStart ch page res width) s = .next g))
     ∧ (∀ seq payload, pageDataOk ch seq payload = true →
         (st = .idle ∨ st = .answered ∨ st = .betweenPages ∨ (st = .receivingPage ∧ (s.channel ch).ended ≠ none) →
           exec (.pageData ch seq payload) s = err)
         ∧ (st = .releasing → exec (.pageData ch seq payload) s = .next g))
     ∧ (∀ lines errs verdict, pageEndOk ch lines errs = true →
         (st = .idle ∨ st = .answered ∨ st = .betweenPages ∨ (st = .receivingPage ∧ (s.channel ch).ended ≠ none) →
           exec (.pageEnd ch lines errs verdict) s = err)
         ∧ (st = .releasing → exec (.pageEnd ch lines errs verdict) s = .next g))
     ∧ (∀ cause, st = .idle → exec (.callClose ch cause) s = err))
  ∧ (∀ (s : State) (ch : Nat), ch < s.calls.channels.length →
     ((s.channel ch).state = .answered ∨ (s.channel ch).state = .receivingPage
         ∨ (s.channel ch).state = .betweenPages →
       s.frameTaken ch = s.lineGood.setChannel ch { s.channel ch with
         silence := some (s.mgmt.uptime + s.calls.silenceTimeout * 1000) })
     ∧ ((s.channel ch).state = .idle ∨ (s.channel ch).state = .releasing → s.frameTaken ch = s.lineGood))

/-- R34, R69, R70: the first SENDER_INFO of an answered call sets the station identifier, and the matching STATION
entry acts on the document: REFUSE drops the call, QUARANTINE, ACCEPT and REDIRECT set the current mailbox and the
screening result, a REDIRECT whose target does not take the call changes nothing more. -/
def Obligations.SenderInfoScreensTheStation : Prop :=
  ∀ (s : State) (ch slot : Nat) (d : Doc) (ident : Str), s.quiet ch → senderInfoOk ch ident = true →
    (s.channel ch).state = .answered → (s.channel ch).doc = some slot → s.doc slot = some d → d.station = none →
    let g := s.frameTaken ch
    let named := { d with station := some ident }
    let found := stationMatch s.tables.screening.live ident
    let run := exec (.senderInfo ch ident) s
    (found = none → run = .next (g.setDoc slot named))
    ∧ (∀ e, found = some e →
        (e.action = .refuse → run = .next ((g.setDoc slot named).drop ch .screened))
        ∧ (e.action = .quarantine →
            run = .next (g.setDoc slot { named with current := 64, screening := .quarantine }))
        ∧ (e.action = .accept →
            run = .next (g.setDoc slot { named with current := d.routed, screening := .accept }))
        ∧ (∀ m, e.action = .redirect → e.target = some m →
            (s.takes m = true → run = .next (g.setDoc slot { named with current := m, screening := .redirect }))
            ∧ (s.takes m = false → run = .next (g.setDoc slot named))))

/-- R35, R8, R9: the four cases of a PAGE_START in ANSWERED or BETWEEN_PAGES, in their order: the page limit, a wrong
number, no page record, and the page record with the lowest free index filled in from the frame and the channel's
resend count. -/
def Obligations.PageStartCases : Prop :=
  ∀ (s : State) (ch slot page : Nat) (d : Doc) (res : Resolution) (width : Width), s.quiet ch →
    pageStartOk ch page = true → ((s.channel ch).state = .answered ∨ (s.channel ch).state = .betweenPages) →
    (s.channel ch).doc = some slot → s.doc slot = some d →
    let g := s.frameTaken ch
    let c := g.channel ch
    let n := d.pages.length
    let run := exec (.pageStart ch page res width) s
    (n = 1000 → run = .next (g.drop ch .pageLimit))
    ∧ (n ≠ 1000 → page ≠ n + 1 →
        run = .next (g.setChannel ch { c with errors := bump 65535 c.errors }))
    ∧ (n ≠ 1000 → page = n + 1 → lowestFree 8192 0 s.store.records = none → run = .next (g.drop ch .pagePoolEmpty))
    ∧ (∀ r, n ≠ 1000 → page = n + 1 → lowestFree 8192 0 s.store.records = some r →
        run = .next ((g.setRecord r
            { slot := slot, number := page, blocks := [], length := 0, res := res, width := width, finish := none,
              resends := c.resends, sends := 0 }).setChannel ch { c with
          state := .receivingPage, page := some r, mark := false, ended := none, expected := 0, received := 0 }))

/-- R36, R37, R38, R39: a PAGE_DATA in RECEIVING_PAGE before the page's end: the sequence is compared and advanced;
the payload is cut to the page's limit and placed in the filling buffer; a frame for a full page, or one that
overruns, only marks the page. R37: the filling buffer and the space left. -/
def Obligations.PageDataPlacedOrLost : Prop :=
  (∀ (s : State) (ch seq : Nat) (payload : List Byte), s.quiet ch → pageDataOk ch seq payload = true →
     (s.channel ch).state = .receivingPage → (s.channel ch).ended = none →
     let g := s.frameTaken ch
     let c := g.channel ch
     let room := 1048576 - c.received
     let kept := payload.take room
     let marked := { c with mark := true, expected := (seq + 1) % 256 }
     let run := exec (.pageData ch seq payload) s
     (room = 0 → run = .next (g.setChannel ch marked))
     ∧ (0 < room → (c.filling = none ∨ c.spaceLeft < kept.length) → run = .next (g.setChannel ch marked))
     ∧ (∀ b held, 0 < room → c.filling = some (b, held) → held.length + kept.length < 4096 →
         run = .next (g.setChannel ch ({ c with
           mark := c.mark || seq != c.expected || decide (room < payload.length), expected := (seq + 1) % 256
           received := c.received + kept.length }.setBuf b (.filling (held ++ kept))))))
  ∧ (∀ (c : Channel) (x y : List Byte),
     (c.bufA = .empty → c.bufB = .empty → c.filling = some (.first, []) ∧ c.spaceLeft = 8192)
     ∧ (c.bufA = .filling x → c.bufB = .empty →
         c.filling = some (.first, x) ∧ c.spaceLeft = 4096 - x.length + 4096)
     ∧ (c.bufA = .empty → c.bufB = .filling y →
         c.filling = some (.second, y) ∧ c.spaceLeft = 4096 - y.length + 4096)
     ∧ (c.bufA = .filling x → c.bufB = .writing y → c.filling = some (.first, x) ∧ c.spaceLeft = 4096 - x.length)
     ∧ (c.bufA = .writing x → c.bufB = .filling y → c.filling = some (.second, y) ∧ c.spaceLeft = 4096 - y.length)
     ∧ (c.bufA = .empty → c.bufB = .writing y → c.filling = some (.first, []) ∧ c.spaceLeft = 4096)
     ∧ (c.bufA = .writing x → c.bufB = .empty → c.filling = some (.second, []) ∧ c.spaceLeft = 4096)
     ∧ (c.bufA = .writing x → c.bufB = .writing y → c.filling = none ∧ c.spaceLeft = 0))

/-- R37, R5, R2, R3, R41: a payload that fits and fills the buffer hands it over as a block write at this event: the
first free block joins the page's block list, the write joins the port queue, the pressure monitor evaluates, and what
remains goes into the other buffer. With no block free the channel drops the call with STORE_FULL. R41: a hand-over
that finds no block free: the buffer becomes EMPTY, the page is given up, the document is incomplete, and the channel
is in RELEASING with the drop cause STORE_FULL and its release timer at 3 s. -/
def Obligations.FullBufferIsHandedOver : Prop :=
  (∀ (s : State) (ch seq r : Nat) (payload : List Byte) (b : BufId) (held : List Byte) (x : PageRecord), s.quiet ch →
     pageDataOk ch seq payload = true → (s.channel ch).state = .receivingPage → (s.channel ch).ended = none →
     (s.channel ch).page = some r → s.record r = some x →
     let g := s.frameTaken ch
     let c := g.channel ch
     let room := 1048576 - c.received
     let kept := payload.take room
     let bytes := held ++ kept
     let filled := { c with
       mark := c.mark || seq != c.expected || decide (room < payload.length), expected := (seq + 1) % 256
       received := c.received + kept.length }
     let run := exec (.pageData ch seq payload) s
     0 < room → c.filling = some (b, held) → kept.length ≤ c.spaceLeft → 4096 ≤ bytes.length →
     (∀ block rest, s.store.free = block :: rest →
       run = .next ((({ g with store := { g.store with
           free := rest
           records := tablePut r { x with blocks := x.blocks ++ [block] } s.store.records
           port := s.store.port ++ [PortOp.write ch b r block] } } : State).evaluate).setChannel ch
         (if bytes.length = 4096 then filled.setBuf b (.writing (bytes.take 4096))
          else (filled.setBuf b (.writing (bytes.take 4096))).setBuf (BufId.other b) (.filling (bytes.drop 4096)))))
     ∧ (s.store.free = [] → run = .next ((g.setChannel ch filled).storeFull ch b)))
  ∧ (∀ (s : State) (ch slot r : Nat) (b : BufId) (d : Doc), ch < s.calls.channels.length →
     (s.channel ch).page = some r → (s.channel ch).doc = some slot → s.doc slot = some d →
     let t := s.storeFull ch b
     (t.channel ch).state = .releasing ∧ (t.channel ch).drop = some .storeFull ∧ (t.channel ch).page = none
     ∧ (t.channel ch).buf b = .empty ∧ (t.channel ch).silence = none
     ∧ (t.channel ch).release = some (s.mgmt.uptime + 3000)
     ∧ (t.channel ch).discards
         = (if s.writing ch r then (s.channel ch).discards ++ [r] else (s.channel ch).discards)
     ∧ t.doc slot = some { d with incomplete := true }
     ∧ t.line.queue = (if s.line.link = .up
         then s.line.queue ++ [⟨ch, .drop .storeFull⟩] else s.line.queue)
     ∧ t.waiting.occurrences.getLast? = some (.callController, .callDropped ch d.receipt .storeFull)
     ∧ (s.writing ch r = true → t.store = s.store)
     ∧ (s.writing ch r = false → t.store.records = tableDel r s.store.records
         ∧ t.store.free = s.store.free ++ s.blocksOf r))

/-- R42: a PAGE_END in RECEIVING_PAGE: the last partial buffer is handed over, and the page waits for its writes; with
no write in flight it is finalized at once; with no block free STORE_FULL applies. -/
def Obligations.PageEndTaken : Prop :=
  ∀ (s : State) (ch lines errs r : Nat) (verdict : ModemVerdict) (x : PageRecord), s.quiet ch →
    pageEndOk ch lines errs = true → (s.channel ch).state = .receivingPage → (s.channel ch).ended = none →
    (s.channel ch).page = some r → s.record r = some x →
    let g := s.frameTaken ch
    let c := { g.channel ch with ended := some ⟨lines, errs, verdict⟩ }
    let run := exec (.pageEnd ch lines errs verdict) s
    (∀ b bytes block rest, (s.channel ch).filling = some (b, bytes) → bytes ≠ [] → s.store.free = block :: rest →
      run = .next ((({ g with store := { g.store with
          free := rest
          records := tablePut r { x with blocks := x.blocks ++ [block] } s.store.records
          port := s.store.port ++ [PortOp.write ch b r block] } } : State).evaluate).setChannel ch
        (c.setBuf b (.writing bytes))))
    ∧ (∀ b bytes, (s.channel ch).filling = some (b, bytes) → bytes ≠ [] → s.store.free = [] →
      run = .next ((g.setChannel ch c).storeFull ch b))
    ∧ ((s.channel ch).filling = none ∨ (∃ b, (s.channel ch).filling = some (b, [])) →
        (s.writing ch r = true → run = .next (g.setChannel ch c))
        ∧ (s.writing ch r = false → run = .next ((g.setChannel ch c).finalize ch)))

/-- R11, R43, R44: finalization of the page under construction: RESEND, ACCEPTED, or the drop of a page that is empty
a third time. In the first two the channel is BETWEEN_PAGES with empty buffers, but that a buffer from which a block
of an earlier call is still being written stays with that write (log 35). -/
def Obligations.FinalizationOutcomes : Prop :=
  ∀ (s : State) (ch r slot : Nat) (e : PageEnd) (x : PageRecord) (d : Doc), ch < s.calls.channels.length →
    (s.channel ch).page = some r → (s.channel ch).ended = some e → (s.channel ch).doc = some slot →
    s.record r = some x → s.doc slot = some d →
    let c := s.channel ch
    let v : Verdict := if c.mark then .damaged else match e.verdict with
      | .good => .good
      | .marginal => .marginal
      | .bad => .damaged
    let freed := fun (b : Buffer) => match b with
      | .writing bytes => Buffer.writing bytes
      | _ => .empty
    let after := fun (n : Nat) => { c with
      state := .betweenPages, page := none, ended := none, mark := false, received := 0, bufA := freed c.bufA
      bufB := freed c.bufB, resends := n }
    ((x.length = 0 ∨ v = .damaged) → c.resends ≤ 1 →
      s.finalize ch = ((s.setChannel ch (after (c.resends + 1))).sendLine ch (.confirm .resend)).discardPage r)
    ∧ (x.length ≠ 0 → (v ≠ .damaged ∨ 2 ≤ c.resends) →
      s.finalize ch
        = (((((s.setRecord r { x with finish := some ⟨e.lines, e.errs, v⟩ }).setChannel ch (after 0)).sendLine ch
              (.confirm .accepted)).setDoc slot { d with
                pages := d.pages ++ [r], damaged := d.damaged + (if v = .damaged then 1 else 0) }).heldUp d.current 1))
    ∧ (x.length = 0 → 2 ≤ c.resends →
      s.finalize ch = (s.setDoc slot { d with incomplete := true }).drop ch .pageEmpty)

/-- R47: a DROP: the cause recorded, the silence timer stopped, the release timer at 3 s, RELEASING; the frame sent
and CALL_DROPPED raised; a page under construction given up and the document incomplete. R12, R2: a page given up is
discarded at once, its blocks released to the tail of the free list as one release and its record returned, or it
joins the pages awaiting discard while a write of it is in flight; an empty page makes no release and no evaluation.
R45, R17, R92, R93, R90: the close of a call: the unfinished page given up, the incomplete flag, the document closed
and QUEUED at the tail of its class segment with its notice, or freed when it has no pages; the reserved entry written
from the document; the channel IDLE, its writing buffers kept; the all-idle report when no channel is busy. -/
def Obligations.DropsAndCloses : Prop :=
  (∀ (s : State) (ch slot : Nat) (d : Doc) (cause : Cause), ch < s.calls.channels.length →
     (s.channel ch).doc = some slot → s.doc slot = some d →
     let fin := fun (x : State) =>
       ((x.setChannel ch { x.channel ch with
           state := .releasing, drop := some cause, silence := none, release := some (s.mgmt.uptime + 3000)
         }).sendLine ch (.drop cause)).raise .callController (.callDropped ch d.receipt cause)
     ((s.channel ch).page = none → s.drop ch cause = fin s)
     ∧ ((s.channel ch).page ≠ none →
         s.drop ch cause = fin ((s.setDoc slot { d with incomplete := true }).giveUp ch)))
  ∧ (∀ (s : State) (ch r : Nat) (x : PageRecord), s.record r = some x →
     let c := { s.channel ch with page := none, ended := none, mark := false }
     let dropped := { s with store := { s.store with records := tableDel r s.store.records } }
     (x.blocks = [] → s.discardPage r = dropped)
     ∧ (x.blocks ≠ [] → s.discardPage r
         = { dropped with store := { dropped.store with free := s.store.free ++ x.blocks } }.evaluate)
     ∧ ((s.channel ch).page = none → s.giveUp ch = s)
     ∧ ((s.channel ch).page = some r → s.writing ch r = false → s.giveUp ch = (s.setChannel ch c).discardPage r)
     ∧ ((s.channel ch).page = some r → s.writing ch r = true →
         s.giveUp ch = s.setChannel ch { c with discards := c.discards ++ [r] }))
  ∧ (∀ (s : State) (ch slot : Nat) (d : Doc) (cause : Cause), ch < s.calls.channels.length →
     (s.channel ch).doc = some slot → s.doc slot = some d → d.state = .receiving →
     let c := s.channel ch
     let u := s.giveUp ch
     let cut := d.incomplete || c.page.isSome || c.drop.isSome || cause != .normal
     let closed := { d with closeTime := some s.mgmt.tod, channel := none, incomplete := cut }
     let entry : Entry :=
       { receipt := some d.receipt, channel := ch, openTime := d.openTime, closeTime := s.mgmt.tod, called := d.called,
         caller := d.caller, station := d.station
         outcome := if cut = false ∧ 1 ≤ d.pages.length then .received else .receivedIncomplete
         cause := cause, pages := d.pages.length, damaged := d.damaged, mailbox := some d.current
         routeGen := some d.routeGen, screening := d.screening }
     let fin := fun (x : State) => (x.setChannel ch { u.channel ch with
       state := .idle, doc := none, drop := none, page := none, ended := none, mark := false, resends := 0
       expected := 0, received := 0, bufA := (c.bufA).abandon, bufB := (c.bufB).abandon, silence := none
       release := none }).idleReport
     (d.pages ≠ [] → s.closeCall ch cause
       = fin ((((u.setDoc slot { closed with state := .queued }).writeEntry entry).queueTail d.current slot).raise
           .documentTable (if d.current = 64 then .docQuarantined d.receipt d.current d.pages.length
             else .docQueued d.receipt d.current d.pages.length)))
     ∧ (d.pages = [] → s.closeCall ch cause = fin ((u.writeEntry entry).freeSlot slot))
     ∧ (∀ x : State, x.idleReport = if x.busy = 0
         then { x with waiting := { x.waiting with idleReports := x.waiting.idleReports + 1 } } else x)
     ∧ (∀ (x : State) (e : Entry), x.writeEntry e
         = { x with journal := { x.journal with log := x.journal.log ++ [e], reserved := x.journal.reserved - 1 } })
     ∧ (∀ bytes, (Buffer.writing bytes).abandon = .writing bytes ∧ (Buffer.filling bytes).abandon = .empty))

/-- R46, R47, R48, R49, R50, R51: which event ends a call or drops it, and with which cause. A CALL_CLOSE in RELEASING
closes with the drop cause; a loss of the line link closes with LINK_LOST in every state but IDLE, after a decision
under way, whose ANSWER is discarded and whose REFUSE is sent where the link is UP again (R30); a call that such a
decision answers is closed at once (log 5). An abort drops a call with ENGINE_CLOSED in the states in which the
silence timer runs. The two timers move the clocks on to their deadline (log 3). R29: a frame or an abort of a channel
is taken after the decision under way on it, and a frame after a loss of the link it has still to take (log 5). -/
def Obligations.EventsThatEndACall : Prop :=
  ∀ (s : State) (ch : Nat),
    (∀ cause, s.quiet ch →
      ((s.channel ch).state = .answered ∨ (s.channel ch).state = .receivingPage
          ∨ (s.channel ch).state = .betweenPages →
        exec (.callClose ch cause) s = .next ((s.frameTaken ch).closeCall ch (ShelfCause.cause cause)))
      ∧ (∀ was, (s.channel ch).state = .releasing → (s.channel ch).drop = some was →
        exec (.callClose ch cause) s = .next (s.lineGood.closeCall ch was)))
    ∧ (∀ due, s.awake → (s.channel ch).silence = some due → due ≤ 281474976710655 →
        exec (.channelSilenceExpiry ch) s = .next ((s.advanceTo due).drop ch .timeout))
    ∧ (∀ due, s.awake → (s.channel ch).release = some due → due ≤ 281474976710655 →
        exec (.releaseTimerExpiry ch) s
          = .next (((s.advanceTo due).closeCall ch .noRelease).raise .callController
              (.channelUnresponsive ch (s.receiptOf ch))))
    ∧ (s.awake → ch < s.calls.channels.length → (s.channel ch).loss = true → (s.channel ch).decision = none →
        ((s.channel ch).state = .idle →
          exec (.channelLinkLoss ch) s = .next (s.setChannel ch { s.channel ch with loss := false }))
        ∧ ((s.channel ch).state ≠ .idle →
          exec (.channelLinkLoss ch) s
            = .next ((s.setChannel ch { s.channel ch with loss := false }).closeCall ch .linkLost)))
    ∧ (∀ d, s.awake → ch < s.calls.channels.length → (s.channel ch).loss = true → (s.channel ch).decision = some d →
        let u := s.decideOn ch .done
        (u.channel ch).loss = true ∧ (u.channel ch).decision = none
        ∧ exec (.channelLinkLoss ch) s = exec (.channelLinkLoss ch) u
        ∧ (s.line.link = .down → u.line = s.line)
        ∧ (s.line.link = .up → (s.channel ch).state = .idle →
            ((u.channel ch).state = .answered ∧ u.line = s.line)
            ∨ ((u.channel ch).state = .idle ∧ ∃ cause,
                u.line = { s.line with queue := s.line.queue ++ [⟨ch, .refuse cause⟩] })))
    ∧ (∀ d stop, s.awake → ch < s.calls.channels.length → (s.channel ch).loss = true →
        (s.channel ch).decision = some d →
        let u := s.decideOn ch stop
        ((u.channel ch).decision ≠ none → exec (.callOpen ch (.onward stop)) s = .next u)
        ∧ ((u.channel ch).decision = none →
            exec (.callOpen ch (.onward stop)) s = exec (.channelLinkLoss ch) u))
    ∧ (∀ i w, s.awake → ch < s.calls.channels.length → frameChannel i = some ch → i.wellFormed = true →
        ((s.channel ch).loss = true → exec (.channelLinkLoss ch) s.lineGood = .next w → exec i s = exec i w)
        ∧ ((s.channel ch).loss = false → exec (.callOpen ch (.onward .done)) s.lineGood = .next w →
            exec i s = exec i w))
    ∧ (∀ n w, s.awake → ch < s.calls.channels.length → (s.channel ch).aborts = n + 1 →
        exec (.callOpen ch (.onward .done)) s = .next w →
        exec (.channelIntakeAbort ch) s = exec (.channelIntakeAbort ch) w)
    ∧ (∀ n, s.awake → ch < s.calls.channels.length → (s.channel ch).aborts = n + 1 → (s.channel ch).decision = none →
        ((s.channel ch).state = .idle ∨ (s.channel ch).state = .releasing →
          exec (.channelIntakeAbort ch) s = .next (s.setChannel ch { s.channel ch with aborts := n }))
        ∧ ((s.channel ch).state ≠ .idle → (s.channel ch).state ≠ .releasing →
          exec (.channelIntakeAbort ch) s
            = .next ((s.setChannel ch { s.channel ch with aborts := n }).drop ch .engineClosed)))

/-! ### The memory port (chapter 1) -/

/-- R5, R6, R10, R40: a block write served: the bytes of the buffer stored in the block with their number and their
check value, the page's byte length raised, the buffer EMPTY; the last write of an ended page finalizes it, and the
last write of a page awaiting discard discards it. R1, R5: after a block write every address of the block's written
bytes reads as that byte and every other address of the store reads as before. -/
def Obligations.WriteCompletes : Prop :=
  (∀ (s : State) (ch r block : Nat) (b : BufId) (rest : List PortOp) (x : PageRecord), s.awake →
     s.store.port = .write ch b r block :: rest → block < 16384 → (s.channel ch).decision = none →
     s.record r = some x →
     let bytes := ((s.channel ch).buf b).bytes
     let w := { s with store := { s.store with
       port := rest
       mem := Memory.writeBlock block bytes s.store.mem
       blocks := tablePut block { used := bytes.length, check := crc16 bytes } s.store.blocks
       records := tablePut r { x with length := x.length + bytes.length } s.store.records } }
     let v := w.setChannel ch ((s.channel ch).setBuf b .empty)
     let more := rest.any (fun o => match o with
       | .write k _ y _ => k == ch && y == r
       | .read _ _ _ _ _ => false)
     let run := exec .writeCompletion s
     ch < s.calls.channels.length →
     ((s.channel ch).page = some r → ((s.channel ch).ended = none ∨ more = true) → run = .next v)
     ∧ ((s.channel ch).page = some r → (s.channel ch).ended ≠ none → more = false → run = .next (v.finalize ch))
     ∧ ((s.channel ch).page ≠ some r → (r ∉ (s.channel ch).discards ∨ more = true) → run = .next v)
     ∧ ((s.channel ch).page ≠ some r → r ∈ (s.channel ch).discards → more = false →
         run = .next ((v.setChannel ch { v.channel ch with
           discards := (s.channel ch).discards.filter (fun k => k != r) }).discardPage r)))
  ∧ (∀ (mem : List Host.Cell) (block : Nat) (bytes : List Byte), Memory.wf mem = true → block < 16384 →
     bytes.length ≤ 4096 →
     (∀ k, k < bytes.length →
       Memory.read (block * 4096 + k) (Memory.writeBlock block bytes mem) = bytes.getD k 0)
     ∧ (∀ a, (a < block * 4096 ∨ block * 4096 + bytes.length ≤ a) →
       Memory.read a (Memory.writeBlock block bytes mem) = Memory.read a mem)
     ∧ Memory.readRun (block * 4096) bytes.length (Memory.writeBlock block bytes mem) = bytes)

/-- R6, R135, R152, R155, R156: a block read served: its bytes come from the block as it then stands (the cells that
have decayed are the model's operand, log 9). A lane that still wants them puts them after those it has and asks for
the next block, or has its page READ and goes on; a lane in WITHDRAWING, or one whose delivery has ended, drops them.
R156: in WITHDRAWING the completion may end the withdrawal, also that of a read an earlier delivery of the lane left
behind. R7, R152: a failed check makes a GOOD or MARGINAL page DAMAGED, raises the document's damaged count and
PAGE_DAMAGED; a page already DAMAGED, and a record no longer in the document's list, are left as they are. -/
def Obligations.ReadCompletes : Prop :=
  (∀ (s : State) (i r pos block receipt : Nat) (rest : List PortOp) (decay : List (Nat × Byte)), s.awake →
     s.store.port = .read i r pos block receipt :: rest → block < 16384 →
     let s1 := { s with store := { s.store with port := rest, mem := Memory.decay block decay s.store.mem } }
     let at1 := (tableGet block s.store.blocks).getD { used := 0, check := crc16 [] }
     let bytes := Memory.readRun (block * 4096) at1.used s1.store.mem
     let s2 := if crc16 bytes = at1.check then s1 else s1.checkFailed r pos receipt
     let l := s.lane i
     let run := exec (.readCompletion decay) s
     (∀ b k held, l.reading = .live → l.state ≠ .withdrawing → l.readingBuf = some (b, k, held) →
       (pos < (s.blocksOf r).length →
         run = .next ((s2.setLane i (l.setBuf b (.reading k (held ++ bytes)))).beginRead i r (pos + 1) receipt))
       ∧ ((s.blocksOf r).length ≤ pos →
         run = .next ((s2.setLane i { l.setBuf b (.read k (held ++ bytes)) with
           order := l.order ++ [b], reading := .none }).laneOn i)))
     ∧ (∀ b k held, l.reading = .live → l.state = .withdrawing → l.readingBuf = some (b, k, held) →
         run = .next ((s2.setLane i { l.setBuf b .empty with reading := .none }).withdrawalMayEnd i))
     ∧ (l.reading ≠ .live →
         (l.state ≠ .withdrawing → run = .next ((s2.setLane i { l with reading := .none }).laneOn i))
         ∧ (l.state = .withdrawing →
             run = .next (((s2.setLane i { l with reading := .none }).handLane i).withdrawalMayEnd i))))
  ∧ (∀ (s : State) (r pos receipt slot : Nat) (d : Doc) (x : PageRecord) (f : Finish), s.docOf receipt = some (slot, d) →
     s.record r = some x → x.finish = some f →
     (f.verdict ≠ .damaged → r ∈ d.pages →
       s.checkFailed r pos receipt
         = (((s.setRecord r { x with finish := some { f with verdict := .damaged } }).setDoc slot
               { d with damaged := d.damaged + 1 }).raise .pageStore (.pageDamaged receipt x.number pos)))
     ∧ ((f.verdict = .damaged ∨ r ∉ d.pages) → s.checkFailed r pos receipt = s))

/-! ### Store pressure, retention, and what owners take (chapters 1, 4, 5 and 10) -/

/-- R77: the enter and exit conditions of the three levels. R76, R78, R79, R80, R83: an evaluation: each counter rises
by 1 or becomes 0, the level moves at most one step when a counter reaches its debounce plus 1 and both counters then
become 0, a move is raised as PRESSURE_CHANGED with the count read, and an evaluation that ends at CRITICAL makes a
release request. -/
def Obligations.EvaluationMovesTheLevel : Prop :=
  (∀ (p : PressureParams) (free : Nat),
     (enterHolds p .normal free = true ↔ free < p.tight) ∧ exitHolds p .normal free = false
     ∧ (enterHolds p .tight free = true ↔ free < p.critical)
     ∧ (exitHolds p .tight free = true ↔ p.tight + p.hysteresis ≤ free)
     ∧ enterHolds p .critical free = false ∧ (exitHolds p .critical free = true ↔ p.critical + p.hysteresis ≤ free)
     ∧ (p.critical < p.tight → ¬ (enterHolds p .tight free = true ∧ exitHolds p .tight free = true)))
  ∧ (∀ s : State,
     let p := s.pressure
     let free := s.store.free.length
     let enter := if enterHolds p.params p.level free = true then p.enter + 1 else 0
     let exit := if exitHolds p.params p.level free = true then p.exit + 1 else 0
     let moved := fun (to_ : Level) => { s with
       pressure := { p with level := to_, enter := 0, exit := 0 }
       waiting := { s.waiting with
         occurrences := s.waiting.occurrences ++ [(.pressureMonitor, .pressureChanged p.level to_ free)]
         releases := s.waiting.releases + (if to_ = .critical then 1 else 0) } }
     (enter < p.params.enterDebounce + 1 → exit < p.params.exitDebounce + 1 →
       s.evaluate = { s with
         pressure := { p with enter := enter, exit := exit }
         waiting := { s.waiting with releases := s.waiting.releases + (if p.level = .critical then 1 else 0) } })
     ∧ (p.level = .normal → p.params.enterDebounce + 1 ≤ enter → s.evaluate = moved .tight)
     ∧ (p.level = .tight → p.params.enterDebounce + 1 ≤ enter → s.evaluate = moved .critical)
     ∧ (p.level = .tight → enter < p.params.enterDebounce + 1 → p.params.exitDebounce + 1 ≤ exit →
         s.evaluate = moved .normal)
     ∧ (p.level = .critical → p.params.exitDebounce + 1 ≤ exit → s.evaluate = moved .tight))

/-- R81, R20, R83, R85: the pressure monitor takes a parameter change as one event with one evaluation; a release
request frees the RETAINED document with the earliest expiry, of equals the one with the lowest receipt number, and
nothing when none is RETAINED. R19: the retention timer of a RETAINED document frees it, the clocks moved on to its
expiry (log 3). R21: what freeing does: pages held lowered and the queue left by the state the document is in, its
blocks released page by page as one release, its page records returned, its slot FREE. -/
def Obligations.DocumentsAreFreed : Prop :=
  (∀ s : State, s.awake →
     (∀ p rest, s.waiting.pressureParts = p :: rest →
       exec .pressureParameterChange s
         = .next (({ s with
             waiting := { s.waiting with pressureParts := rest }
             pressure := { s.pressure with params := p, enter := 0, exit := 0 } } : State).evaluate))
     ∧ (∀ n, s.waiting.releases = n + 1 →
         let u : State := { s with waiting := { s.waiting with releases := n } }
         ((∀ e ∈ s.docList, e.2.state ≠ .retained) → exec .pressureReleaseRequest s = .next u)
         ∧ (∀ e, s.firstRetained = some e → exec .pressureReleaseRequest s = .next (u.freeDoc e.1 e.2 false)))
     ∧ (s.firstRetained = none ↔ ∀ e ∈ s.docList, e.2.state ≠ .retained)
     ∧ (∀ e, s.firstRetained = some e → e ∈ s.docList ∧ e.2.state = .retained
         ∧ ∀ x ∈ s.docList, x.2.state = .retained →
             e.2.expiry.getD 0 < x.2.expiry.getD 0
             ∨ (e.2.expiry.getD 0 = x.2.expiry.getD 0 ∧ e.2.receipt ≤ x.2.receipt)))
  ∧ ((∀ (s : State) (receipt slot due : Nat) (d : Doc), s.awake → s.docOf receipt = some (slot, d) →
     d.state = .retained → d.expiry = some due → due ≤ 281474976710655 →
     exec (.retentionExpiry receipt) s = .next ((s.advanceTo due).freeDoc slot d false))
   ∧ (∀ (s : State) (slot : Nat) (d : Doc) (purged : Bool),
     let blocks := d.pages.flatMap s.blocksOf
     let left := fun (x : State) =>
       let y : State := { x with store := { x.store with
         records := x.store.records.filter (fun e => !d.pages.contains e.1) } }
       let z : State := if blocks = [] then y
         else ({ y with store := { y.store with free := y.store.free ++ blocks } } : State).evaluate
       { z with docs := { z.docs with slots := tableDel slot z.docs.slots } }
     (d.state = .retained → s.freeDoc slot d purged = left s)
     ∧ (d.state = .receiving ∨ d.state = .held → s.freeDoc slot d purged = left (s.heldDown d.current d.pages.length))
     ∧ (d.state = .queued →
         s.freeDoc slot d purged = left ((s.heldDown d.current d.pages.length).unqueue d.current slot))
     ∧ (d.state = .delivering → purged = false → s.freeDoc slot d purged = left s)
     ∧ (d.state = .delivering → purged = true →
         s.freeDoc slot d purged = left (s.heldDown d.current d.pages.length))))

/-- R49, R183: the channel silence timeout is installed and no running timer changes. R28, R89, R118, R178, R189: a
count named by CLEAR_FLAGS becomes 0 at its owner. R180: a report that all channels are idle ends DRAINING. R95, R96:
the low mark installed and tested: at or below free entries it arms the condition; above them while armed it raises
JOURNAL_LOW and disarms it; above them while not armed it changes the mark alone. R88, R95: a granted reservation
raises the count by 1; JOURNAL_LOW is raised once when free entries has fallen below the low mark while armed, and
disarmed. -/
def Obligations.OwnersTakeTheirParts : Prop :=
  (∀ s : State, s.awake →
     (∀ t rest, s.waiting.silences = t :: rest → exec .silenceTimeoutInstall s = .next { s with
       waiting := { s.waiting with silences := rest }, calls := { s.calls with silenceTimeout := t } })
     ∧ (∀ name, name ∈ s.waiting.clears →
         let u : State := { s with waiting := { s.waiting with clears := s.waiting.clears.erase name } }
         exec (.countClear name) s = .next (match name with
           | .unrecordedRefusals => { u with journal := { u.journal with unrecorded := 0 } }
           | .lineFrameErrors => { u with line := { u.line with errors := 0 } }
           | .officeFrameErrors => { u with office := { u.office with errors := 0 } }
           | .droppedRequests => { u with mgmt := { u.mgmt with dropped := 0 } }))
     ∧ (∀ n, s.waiting.idleReports = n + 1 →
         let u : State := { s with waiting := { s.waiting with idleReports := n } }
         (s.mgmt.intake = .draining → exec .allIdleReport s = .next { u with
           mgmt := { u.mgmt with intake := .closed }
           waiting := { u.waiting with
             occurrences := u.waiting.occurrences ++ [(.management, .intakeChanged .draining .closed)] } })
         ∧ (s.mgmt.intake ≠ .draining → exec .allIdleReport s = .next u)))
  ∧ (∀ (s : State) (mark : Nat) (rest : List Nat), s.awake → s.waiting.lowMarks = mark :: rest →
     let j := s.journal
     let free := 2048 - (j.log.length + j.reserved)
     let u : State := { s with
       waiting := { s.waiting with lowMarks := rest }, journal := { j with lowMark := mark } }
     let run := exec .lowMarkInstall s
     (mark ≤ free → run = .next { u with journal := { u.journal with lowArmed := true } })
     ∧ (free < mark → j.lowArmed = false → run = .next u)
     ∧ (free < mark → j.lowArmed = true → run = .next { u with
         journal := { u.journal with lowArmed := false }
         waiting := { u.waiting with
           occurrences := u.waiting.occurrences ++ [(.journal, .journalLow free mark j.log.length j.reserved)] } }))
  ∧ (∀ s : State,
     let n := s.journal.reserved + 1
     let free := 2048 - (s.journal.log.length + n)
     (s.journal.lowMark ≤ free ∨ s.journal.lowArmed = false →
       s.reserve = { s with journal := { s.journal with reserved := n } })
     ∧ (free < s.journal.lowMark → s.journal.lowArmed = true →
       s.reserve = { s with
         journal := { s.journal with reserved := n, lowArmed := false }
         waiting := { s.waiting with occurrences := s.waiting.occurrences ++
           [(.journal, .journalLow free s.journal.lowMark s.journal.log.length n)] } }))

/-- R188, R190, R191, R192: an occurrence sets its kind's pending flag; with the mask clear it is reported: in
STREAMING mode as a notice of its own, in SUMMARY mode as one summary while no mark stands; a full queue loses it. The
head of the queue is handed for point 31 while the link is UP and no notice is out; that the link itself is tested,
and not the report of it, is the model's choice (log 41). R188: a block's occurrences are taken in the order in which
it raised them: the first of that block is taken and the others keep their order. R192: when a notice is handed, and
how. Section 11.1: the fifteen kinds and their codes; setting a kind's flag leaves the others, and bit k - 1 stands
for kind k. Section 11.3: the payload of a notice: its kind, the time-of-day at the occurrence, its fields in their
order; a SUMMARY is kind 16 with the pending flags. That the block position takes 2 bytes is the model's choice (log
48). -/
def Obligations.NoticesAreReported : Prop :=
  (∀ (s : State) (src : Source) (o : Occurrence) (rest : List (Source × Occurrence)), s.awake →
     takeOccurrence src s.waiting.occurrences = some (o, rest) →
     let code := noticeCode (Occurrence.kind o)
     let m := { s.mgmt with flags := setFlag code s.mgmt.flags }
     let event : Notice := { stamp := s.mgmt.tod, body := .event o }
     let summary : Notice := { stamp := s.mgmt.tod, body := .summary m.flags }
     let next := fun (m : Management) =>
       ({ s with waiting := { s.waiting with occurrences := rest }, mgmt := m } : State).handNotice
     let run := exec (.noticeOccurrence src) s
     (flagOn code s.mgmt.params.masks = true → run = .next (next m))
     ∧ (flagOn code s.mgmt.params.masks = false → s.mgmt.params.mode = .streaming →
         (s.mgmt.notices.length < 32 → run = .next (next { m with notices := m.notices ++ [event] }))
         ∧ (32 ≤ s.mgmt.notices.length → run = .next (next { m with lost := true })))
     ∧ (flagOn code s.mgmt.params.masks = false → s.mgmt.params.mode = .summary →
         (s.mgmt.outstanding = true → run = .next (next m))
         ∧ (s.mgmt.outstanding = false → s.mgmt.notices.length < 32 →
             run = .next (next { m with notices := m.notices ++ [summary], outstanding := true }))
         ∧ (s.mgmt.outstanding = false → 32 ≤ s.mgmt.notices.length → run = .next (next { m with lost := true }))))
  ∧ ((∀ (src : Source) (l : List (Source × Occurrence)),
     (takeOccurrence src l = none ↔ ∀ e ∈ l, e.1 ≠ src)
     ∧ (∀ o rest, takeOccurrence src l = some (o, rest) →
         ∃ a b, l = a ++ (src, o) :: b ∧ rest = a ++ b ∧ ∀ e ∈ a, e.1 ≠ src))
   ∧ (∀ s : State,
       ((s.mgmt.noticeOut = true ∨ s.office.link = .down ∨ s.mgmt.notices = []) → s.handNotice = s)
       ∧ (∀ n more, s.mgmt.noticeOut = false → s.office.link = .up → s.mgmt.notices = n :: more →
           s.handNotice = { s with
             mgmt := { s.mgmt with noticeOut := true }
             office := { s.office with queue := s.office.queue ++ [(.notice, ⟨31, .notice n⟩)] } }))
   ∧ (∀ (code k : Nat) (flags : BitVec 16), 1 ≤ code → code ≤ 16 → 1 ≤ k → k ≤ 16 →
       flagOn k (setFlag code flags) = (k == code || flagOn k flags)
       ∧ flagOn k (clearFlag code flags) = (k != code && flagOn k flags) ∧ flagOn k flags = flags.getLsbD (k - 1))
   ∧ (∀ (a b c d e g : Nat) (str : Str) (cause : Cause) (why : SuspendReason) (hold : HoldReason) (x y : Level)
       (link : LinkState) (p q : PointState) (i j : IntakeState) (reset : ResetCause),
       let code := fun (o : Occurrence) => noticeCode (Occurrence.kind o)
       code (.callRefused a str cause) = 1 ∧ code (.callDropped a b cause) = 2 ∧ code (.docQueued a b c) = 3
       ∧ code (.docQuarantined a b c) = 4 ∧ code (.docDelivered a b c d e g) = 5
       ∧ code (.deliverySuspended why a b c d e) = 6 ∧ code (.docHeld a b hold) = 7 ∧ code (.pageDamaged a b c) = 8
       ∧ code (.pressureChanged x y a) = 9 ∧ code (.journalLow a b c d) = 10 ∧ code (.lineLinkChanged link) = 11
       ∧ code (.channelUnresponsive a b) = 12 ∧ code (.pointChanged a p q) = 13 ∧ code (.intakeChanged i j) = 14
       ∧ code (.restarted reset) = 15))
  ∧ (∀ (t : TimeOfDay) (a b c d e g : Nat) (str : Str) (cause : Cause) (why : SuspendReason) (hold : HoldReason)
       (x y : Level) (link : LinkState) (p q : PointState) (i j : IntakeState) (reset : ResetCause) (flags : BitVec 16),
     let laid := fun (o : Occurrence) (kind : Nat) (fields : List Byte) =>
       noticeBytes ⟨t, .event o⟩ = be 1 kind ++ be 4 t.secs ++ be 2 t.ms ++ fields
     laid (.callRefused a str cause) 1 (be 1 a ++ strBytes 16 str ++ be 1 (causeCode cause))
     ∧ laid (.callDropped a b cause) 2 (be 1 a ++ be 4 b ++ be 1 (causeCode cause))
     ∧ laid (.docQueued a b c) 3 (be 4 a ++ be 1 b ++ be 2 c)
     ∧ laid (.docQuarantined a b c) 4 (be 4 a ++ be 1 b ++ be 2 c)
     ∧ laid (.docDelivered a b c d e g) 5 (be 4 a ++ be 1 b ++ be 1 c ++ be 2 d ++ be 2 e ++ be 1 g)
     ∧ laid (.deliverySuspended why a b c d e) 6
         (be 1 (suspendCode why) ++ be 4 a ++ be 1 b ++ be 1 c ++ be 1 d ++ be 2 e)
     ∧ laid (.docHeld a b hold) 7 (be 4 a ++ be 1 b ++ be 1 (holdCode hold))
     ∧ laid (.pageDamaged a b c) 8 (be 4 a ++ be 2 b ++ be 2 c)
     ∧ laid (.pressureChanged x y a) 9 (be 1 (levelCode x) ++ be 1 (levelCode y) ++ be 2 a)
     ∧ laid (.journalLow a b c d) 10 (be 2 a ++ be 2 b ++ be 2 c ++ be 1 d)
     ∧ laid (.lineLinkChanged link) 11 (be 1 (linkCode link))
     ∧ laid (.channelUnresponsive a b) 12 (be 1 a ++ be 4 b)
     ∧ laid (.pointChanged a p q) 13 (be 1 a ++ be 1 (pointStateCode p) ++ be 1 (pointStateCode q))
     ∧ laid (.intakeChanged i j) 14 (be 1 (intakeCode i) ++ be 1 (intakeCode j))
     ∧ laid (.restarted reset) 15 (be 1 (resetCode reset))
     ∧ noticeBytes ⟨t, .summary flags⟩ = be 1 16 ++ be 4 t.secs ++ be 2 t.ms ++ be 2 flags.toNat)

/-! ### The office port (section 7.1) -/

/-- R117, R118, R119, R123: a frame with a correct CRC-32 makes the link UP, which is reported, and restarts its
timer; a good frame from a STALLED point makes it READY first; a frame that fails the checks of its kind is counted as
well, one with a bad CRC-32 is counted alone, one for another destination is not counted. R117: the Office Port sends
LINK_ALIVE when a second has passed without a frame sent, in both link states; the clocks move on to that second (log
3), the first one runs from the reset (log 28), and the frame last sent is the model's own record (log 16). R117,
R192: at a report of UP the Management Unit goes on handing notices. R120, R130, R178, R192: a discarded report frees
the way of its lane, of the next reply, or of the notice, which stays in the queue; that of RESTART's reply resets the
6024 (R194; whenever it was handed, log 42). The reports to the Management Unit are taken in the order in which they
were made (log 14). -/
def Obligations.OfficeFramesAndReports : Prop :=
  (∀ (s : State) (src : Nat),
     let up : State := { s with
       office := { s.office with link := .up, silence := some (s.mgmt.uptime + 3000) }
       waiting := { s.waiting with
         portReports := if s.office.link = .down then s.waiting.portReports ++ [.link .up] else s.waiting.portReports } }
     let counted := fun (x : State) => ({ x with office := { x.office with errors := bump 65535 x.office.errors } } : State)
     (s.awake → exec .officeLinkAlive s = .next up ∧ exec .foreignOfficeFrame s = .next up
       ∧ exec (.badOfficeFrame true) s = .next (counted up) ∧ exec (.badOfficeFrame false) s = .next (counted s))
     ∧ (1 ≤ src → src ≤ 30 → (s.point src).state = .stalled →
         s.officeArrival src = { up.setPoint src { s.point src with state := .ready } with
           waiting := { up.waiting with
             occurrences := up.waiting.occurrences ++ [(.deliveryUnit, .pointChanged src .stalled .ready)]
             triggers := up.waiting.triggers ++ [.pointReady src] } })
     ∧ ((src < 1 ∨ 30 < src ∨ (s.point src).state ≠ .stalled) → s.officeArrival src = up))
  ∧ (∀ s : State, s.awake →
     (s.office.keepalive ≤ 281474976710655 →
       let u := s.advanceTo s.office.keepalive
       exec .officeKeepaliveSend s = .next { u with
         office := { u.office with output := some ⟨0, .linkAlive⟩, keepalive := u.mgmt.uptime + 1000 } })
     ∧ (∀ st rest, s.waiting.portReports = .link st :: rest →
         let u : State := { s with waiting := { s.waiting with portReports := rest } }
         exec .officeLinkStateReport s = .next (if st = .up then u.handNotice else u))
     ∧ (∀ rest, s.waiting.portReports = .discardedNotice :: rest →
         exec (.frameDiscardedReport .management) s = .next { s with
           waiting := { s.waiting with portReports := rest }, mgmt := { s.mgmt with noticeOut := false } })
     ∧ (∀ rest, s.waiting.portReports = .discardedReply false :: rest →
         exec (.frameDiscardedReport .management) s = .next (({ s with
           waiting := { s.waiting with portReports := rest }
           mgmt := { s.mgmt with replyOut := false } } : State).handReply))
     ∧ (∀ rest, s.waiting.portReports = .discardedReply true :: rest →
         exec (.frameDiscardedReport .management) s = .next (State.afterReset s.pending s.store.mem
           (Management.afterReset .restart s.mgmt.tod s.mgmt.clockSet)))
     ∧ (∀ i, i ∈ s.waiting.laneDiscards →
         exec (.frameDiscardedReport (.lane i)) s = .next ((({ s with
           waiting := { s.waiting with laneDiscards := s.waiting.laneDiscards.erase i } } : State).setLane i
             { s.lane i with pending := .none }).laneOn i)))

/-- R120, R133, R137, R152, R156, R178, R192, R194: the frame at the head of the office queue is sent and its hander
told: an OFFER starts the accept timer, a PAGE_TAIL makes its buffer OUTSTANDING with its ack timer, a WITHDRAW may
end the withdrawal, a frame of an ended delivery only frees the way, a reply hands the next or restarts the 6024, a
notice leaves its queue, a SLOT_RETURN of a point context is told to no one. In WITHDRAWING a PAGE_TAIL starts no ack
timer (log 17); the frame last sent is the model's own record (log 16), and the second until LINK_ALIVE runs anew (log
28). -/
def Obligations.FrameSentIsReported : Prop :=
  ∀ (s : State) (h : Hander) (f : OfficeFrame) (rest : List (Hander × OfficeFrame)), s.awake →
    s.office.queue = (h, f) :: rest →
    let u : State := { s with office := { s.office with
      queue := rest, output := some f, keepalive := s.mgmt.uptime + 1000 } }
    let run := exec .frameSentReport s
    (∀ p, h = .point p → run = .next u)
    ∧ (h = .notice → run = .next (({ u with
        mgmt := { u.mgmt with notices := u.mgmt.notices.tail, noticeOut := false } } : State).handNotice))
    ∧ (∀ r, h = .reply → f.body = .reply r →
        (r.restart = false → run = .next (({ u with mgmt := { u.mgmt with replyOut := false } } : State).handReply))
        ∧ (r.restart = true → run = .next (State.afterReset s.pending s.store.mem
            (Management.afterReset .restart s.mgmt.tod s.mgmt.clockSet))))
    ∧ (∀ i, h = .lane i → i < s.delivery.lanes.length →
        let l := { s.lane i with pending := .none }
        let told := fun (l : Lane) => run = .next ((u.setLane i l).laneOn i)
        ((s.lane i).pending = .stale → told l)
        ∧ (∀ a b c d e g k, (s.lane i).pending = .current → f.body = .offer a b c d e g k →
            (l.state ≠ .offering → told l)
            ∧ (∀ j row, l.state = .offering → l.job = some j → s.pointRow j.point = some row →
                told { l with acceptTimer := some (s.mgmt.uptime + row.accept * 1000) }))
        ∧ (∀ slot check j row k bytes x, (s.lane i).pending = .current → f.body = .pageTail slot check →
            l.job = some j → s.pointRow j.point = some row →
            let due := if l.state = .withdrawing then none else some (s.mgmt.uptime + row.ack * 1000)
            (l.buf0 = .goingOut k bytes x → told { l with buf0 := .outstanding k bytes x due })
            ∧ (l.buf0.goes = false → l.buf1 = .goingOut k bytes x →
                told { l with buf1 := .outstanding k bytes x due }))
        ∧ (∀ receipt, (s.lane i).pending = .current → f.body = .withdraw receipt →
            run = .next (((u.setLane i { l with withdrawn := true }).withdrawalMayEnd i).laneOn i))
        ∧ ((s.lane i).pending = .current → (∀ a b c d e g k, f.body ≠ .offer a b c d e g k) →
            (∀ slot check, f.body ≠ .pageTail slot check) → (∀ receipt, f.body ≠ .withdraw receipt) → told l))

/-- R117, R120, R121, R151, R159: the office silence timer expires, the clocks moved on to its deadline (log 3): the
waiting frames are discarded and told to their handers (in their order, log 14), every point that was not OFFLINE is
OFFLINE with no slots and POINT_CHANGED, and then every lane that is not IDLE ends its delivery with the uncounted
suspension OFFICE_LINK_DOWN, a held request completing where its lane was WITHDRAWING. The points and the lanes are
taken in ascending order (log 30). So every lane is IDLE; with no request held for a document, each document that a
lane served is QUEUED with its attempts kept and no not-before. -/
def Obligations.OfficeSilenceEndsDeliveries : Prop :=
  (∀ (s : State) (due : Nat), s.awake → s.office.silence = some due → due ≤ 281474976710655 →
    s.delivery.points.length = 30 →
    let a := s.advanceTo due
    let reports := s.office.queue.filterMap (fun e => match e.1, e.2.body with
      | .reply, .reply r => some (PortReport.discardedReply r.restart)
      | .reply, _ => some (.discardedReply false)
      | .notice, _ => some .discardedNotice
      | _, _ => none)
    let changed := (List.range 30).filterMap (fun k =>
      if (s.point (k + 1)).state = .offline then none
      else some (Source.deliveryUnit, Occurrence.pointChanged (k + 1) (s.point (k + 1)).state .offline))
    let u : State := { a with
      office := { a.office with link := .down, silence := none, queue := [] }
      delivery := { a.delivery with points := a.delivery.points.map (fun x =>
        if x.state = .offline then x else { x with state := .offline, intake := [] }) }
      waiting := { a.waiting with
        laneDiscards := a.waiting.laneDiscards ++ s.office.queue.filterMap (fun e => match e.1 with
          | .lane i => some i
          | _ => none)
        portReports := a.waiting.portReports ++ reports ++ [.link .down]
        occurrences := a.waiting.occurrences ++ changed } }
    let busy := [0, 1, 2, 3].filter (fun i => (s.lane i).state != .idle)
    exec .officeSilenceExpiry s = .next (busy.foldl (fun x i => x.suspendUncounted i .officeLinkDown) u))
  ∧ (∀ (s : State) (due : Nat), s.awake → s.office.silence = some due → due ≤ 281474976710655 → s.lanesOk →
    (∀ i, i < 4 → (s.lane i).state ≠ .idle → (s.laneDoc i).isSome = true) →
    (∀ i k, i < 4 → k < 4 → i ≠ k → (s.lane i).job.isSome = true →
      (s.lane i).job.map Job.slot ≠ (s.lane k).job.map Job.slot) →
    ∃ t, exec .officeSilenceExpiry s = .next t
      ∧ t.office.link = .down ∧ t.office.silence = none ∧ t.office.queue = []
      ∧ t.mgmt.uptime = min (s.mgmt.uptime + (due - s.mgmt.uptime)) 281474976710655
      ∧ (∀ p, 1 ≤ p → p ≤ 30 → (t.point p).state = .offline ∧ (t.point p).lane = none
          ∧ ((s.point p).state ≠ .offline → (t.point p).intake = []))
      ∧ (∀ i, i < 4 → (t.lane i).state = .idle ∧ (t.lane i).job = none)
      ∧ t.calls = s.calls ∧ t.journal = s.journal ∧ t.tables = s.tables ∧ t.line = s.line
      ∧ ((∀ h kind r asked, s.mgmt.slot ≠ .deferred h kind r asked) →
          (∀ i slot d, i < 4 → s.laneDoc i = some (slot, d) →
            t.doc slot = some { d with state := .queued, notBefore := none })
          ∧ t.store = s.store))

/-! ### Delivery points and lanes (chapters 7 and 8) -/

/-- R118, R119, R124, R157: the delivery frames that are late, or whose point is OFFLINE or not in use, are discarded
and counted at the point, and nothing else of a point, a lane or a document changes. R118, R197: a delivery frame with
a field out of its range is counted as a frame of the link that is not good, with its CRC-32 correct (log 6). R157:
which lane an ACCEPT or DECLINE meets, and which buffer a PAGE_ACK or PAGE_NAK. -/
def Obligations.LateFramesAreCounted : Prop :=
  (∀ (s : State) (p : Nat), s.awake → 1 ≤ p → p ≤ 30 →
     let a := s.officeArrival p
     let err : Host.Outcome State Fault Refusal :=
       .next (a.setPoint p { a.point p with errors := bump 65535 (a.point p).errors })
     let stopped := s.pointRow p = none ∨ (s.point p).state = .offline
     (s.pointRow p = none → exec (.pointUp p) s = err ∧ exec (.pointDown p) s = err)
     ∧ (∀ receipt, receiptOk receipt = true → (stopped ∨ s.offering p receipt = none) →
         exec (.accept p receipt) s = err ∧ ∀ retry, retry ≤ 255 → exec (.decline p receipt retry) s = err)
     ∧ (∀ slot cap, slotOk slot = true → capacityOk cap = true → stopped → exec (.intakePost p slot cap) s = err)
     ∧ (∀ slot, slotOk slot = true → (stopped ∨ s.outstandingAt p slot = none) →
         exec (.pageAck p slot) s = err ∧ exec (.pageNak p slot) s = err)
     ∧ (∀ i : Instr, pointFrame i = true → i.wellFormed = false → exec i s = exec (.badOfficeFrame true) s))
  ∧ (∀ (s : State) (p : Nat),
     (∀ receipt i slot d, s.offering p receipt = some (i, slot, d) ↔
       (s.point p).lane = some i ∧ (s.lane i).state = .offering ∧ s.laneDoc i = some (slot, d) ∧ d.receipt = receipt)
     ∧ (∀ slot i b k bytes, s.outstandingAt p slot = some (i, b, k, bytes) →
         (s.point p).lane = some i ∧ (∃ due, (s.lane i).buf b = .outstanding k bytes slot due)
         ∧ ¬ ((s.lane i).state = .withdrawing ∧ (s.lane i).withdrawn = true))
     ∧ (∀ slot, s.outstandingAt p slot = none ↔
         ∀ i, (s.point p).lane = some i →
           ((s.lane i).state = .withdrawing ∧ (s.lane i).withdrawn = true)
           ∨ ∀ b k bytes due, (s.lane i).buf b ≠ .outstanding k bytes slot due))

/-- R123, R151: POINT_UP and POINT_DOWN of a point in use: the list discarded, the state READY or OFFLINE with
POINT_CHANGED, the failure count 0 at POINT_UP, the serving lane suspended without counting, a point that becomes
READY an arbiter trigger; POINT_DOWN in OFFLINE changes nothing. From STALLED the frame seen (R119) comes first and
makes the point READY with a POINT_CHANGED of its own, so that a second one follows (log 13). -/
def Obligations.PointUpAndDown : Prop :=
  ∀ (s : State) (p : Nat), s.awake → 1 ≤ p → p ≤ 30 → (s.pointRow p).isSome = true →
    let a := s.officeArrival p
    let ready : State := (a.setPoint p { a.point p with state := .ready, intake := [], failures := 0 }).raise .deliveryUnit
      (.pointChanged p (a.point p).state .ready)
    let off : State := (a.setPoint p { a.point p with state := .offline, intake := [] }).raise .deliveryUnit
      (.pointChanged p (a.point p).state .offline)
    p - 1 < s.delivery.points.length →
    ((a.point p).state ≠ .ready → exec (.pointUp p) s = .next (ready.trigger (.pointReady p)))
    ∧ ((a.point p).state = .ready → exec (.pointUp p) s = .next (ready.suspendServing p .pointDown))
    ∧ ((a.point p).state = .offline → exec (.pointDown p) s = .next a)
    ∧ ((a.point p).state ≠ .offline → exec (.pointDown p) s = .next (off.suspendServing p .pointDown))
    ∧ ((s.point p).state = .stalled → (a.point p).state = .ready
        ∧ a.waiting.occurrences = s.waiting.occurrences ++ [(.deliveryUnit, .pointChanged p .stalled .ready)])

/-- R134: an ACCEPT begins the transfer: every page's send count is 0, the accept timer stops, the next page to read
is acknowledged-through + 1, the acknowledged set is empty, and the lane goes on in SENDING. R147: a DECLINE hands the
document back with the delay asked for and the attempts kept, and the lane goes IDLE. -/
def Obligations.AcceptAndDecline : Prop :=
  ∀ (s : State) (p receipt i slot : Nat) (d : Doc), s.pointTaken p → receiptOk receipt = true →
    (s.point p).lane = some i → (s.lane i).state = .offering → s.laneDoc i = some (slot, d) → d.receipt = receipt →
    let a := s.officeArrival p
    exec (.accept p receipt) s = .next ((({ a with store := { a.store with
        records := a.store.records.map (fun e => if d.pages.contains e.1 then (e.1, { e.2 with sends := 0 }) else e)
      } } : State).setLane i { s.lane i with
        state := .sending, acceptTimer := none, nextRead := some (d.ackThrough + 1), acked := [] }).laneOn i)
    ∧ ∀ retry, retry ≤ 255 → exec (.decline p receipt retry) s
        = .next ((((a.setDoc slot { d with
            state := .queued, notBefore := some (s.mgmt.uptime + retry * 1000) }).queueHead d.current slot).raise
              .deliveryUnit (.deliverySuspended .declined receipt d.current p d.attempts retry)).endLane i)

/-- R125: an INTAKE_POST is a DUPLICATE, OVER_LIMIT, or appended at the tail of the list, and then tried at once by a
lane in WAITING_INTAKE. R120, R122: a return is handed, or counted where 32 already wait. -/
def Obligations.IntakePostCases : Prop :=
  ∀ (s : State) (p slot cap : Nat) (row : PointRow), s.pointTaken p → slotOk slot = true → capacityOk cap = true →
    s.pointRow p = some row →
    let a := s.officeArrival p
    let x := a.point p
    let known := (∃ y ∈ x.intake, y.id = slot)
      ∨ (∃ i k bytes, x.lane = some i ∧ (((s.lane i).buf0 = .goingOut k bytes slot
          ∨ (s.lane i).buf1 = .goingOut k bytes slot)
          ∨ ∃ due, (s.lane i).buf0 = .outstanding k bytes slot due ∨ (s.lane i).buf1 = .outstanding k bytes slot due))
    let waiting := a.office.queue.countP (fun e => match e.1 with
      | .point _ => true
      | _ => false)
    let back := fun (reason : ReturnReason) => if waiting < 32
      then { a with office := { a.office with
        queue := a.office.queue ++ [(.point p, ⟨p, .slotReturn slot reason⟩)] } }
      else a.setPoint p { x with unsent := min (x.unsent + 1) 255 }
    let posted := a.setPoint p { x with intake := x.intake ++ [⟨slot, cap⟩] }
    let run := exec (.intakePost p slot cap) s
    (known → run = .next (back .duplicate))
    ∧ (¬ known → row.maxSlots ≤ x.intake.length → run = .next (back .overLimit))
    ∧ (¬ known → x.intake.length < row.maxSlots → p - 1 < s.delivery.points.length →
        ((x.lane = none ∨ ∃ i, x.lane = some i ∧ (s.lane i).state ≠ .waitingIntake) → run = .next posted)
        ∧ (∀ i, x.lane = some i → (s.lane i).state = .waitingIntake → run = .next (posted.laneOn i)))

/-- R138, R139, R140, R155: a PAGE_ACK empties the buffer, advances acknowledged-through over the contiguous run with
the resume point set when it rises from 0, and completes the delivery at the last page. R138: acknowledged-through
runs over the contiguous numbers of the set; what stays is not contiguous to it. R146: a PAGE_NAK puts a page sent
once or twice back at the tail of the send order, suspends the delivery at the third, and in WITHDRAWING only closes
the slot. -/
def Obligations.PageAckAndNak : Prop :=
  (∀ (s : State) (p slot i docSlot k : Nat) (b : BufId) (bytes : List Byte) (d : Doc), s.pointTaken p →
     slotOk slot = true → s.outstandingAt p slot = some (i, b, k, bytes) → s.laneDoc i = some (docSlot, d) →
     let a := s.officeArrival p
     let l := s.lane i
     let run := runAcked d.ackThrough (addNumber k l.acked)
     let e := { d with
       ackThrough := run.1, resume := if d.ackThrough = 0 ∧ 0 < run.1 then some p else d.resume }
     let t := (a.setLane i { l.setBuf b .empty with acked := run.2 }).setDoc docSlot e
     (run.1 = d.pages.length → exec (.pageAck p slot) s = .next (t.completeDelivery i docSlot e p))
     ∧ (run.1 ≠ d.pages.length → l.state = .withdrawing → exec (.pageAck p slot) s = .next t)
     ∧ (run.1 ≠ d.pages.length → l.state ≠ .withdrawing → i < s.delivery.lanes.length →
         exec (.pageAck p slot) s = .next (t.laneOn i)))
  ∧ (∀ (ack k : Nat) (acked : List Nat), acked.Pairwise (· < ·) → (∀ n ∈ acked, ack < n) → ack < k →
     let run := runAcked ack (addNumber k acked)
     ack ≤ run.1 ∧ (∀ n, ack < n → n ≤ run.1 → n = k ∨ n ∈ acked)
     ∧ run.2.Pairwise (· < ·) ∧ (∀ n, n ∈ run.2 ↔ (n = k ∨ n ∈ acked) ∧ run.1 < n) ∧ run.1 + 1 ∉ run.2)
  ∧ (∀ (s : State) (p slot i docSlot k : Nat) (b : BufId) (bytes : List Byte) (d : Doc) (x : PageRecord),
     s.pointTaken p → slotOk slot = true → s.outstandingAt p slot = some (i, b, k, bytes) →
     s.laneDoc i = some (docSlot, d) → s.record (d.pages.getD (k - 1) 0) = some x →
     let a := s.officeArrival p
     let l := s.lane i
     let run := exec (.pageNak p slot) s
     (l.state = .withdrawing → run = .next (a.setLane i (l.setBuf b .empty)))
     ∧ (l.state ≠ .withdrawing → x.sends < 3 →
         run = .next ((a.setLane i { l.setBuf b (.read k bytes) with order := l.order ++ [b] }).laneOn i))
     ∧ (l.state ≠ .withdrawing → 3 ≤ x.sends → run = .next (a.suspendCounted i .pageRejected)))

/-- R140, R18, R21: a delivery completed: DOC_DELIVERED, pages held lowered, the document RETAINED with its expiry, or
freed when its retention hours are 0, the point's failure count 0, the lane IDLE; a request held for a withdrawal
completes. R148 step 6, R152: a delivery ended: the lane is IDLE with its record emptied, only its SLOT_RETURN frames
kept, a frame handed still pending for the ended delivery, a read in flight abandoned; its point has no serving lane;
the arbiter is triggered; the next frame kept is handed. -/
def Obligations.DeliveryCompletes : Prop :=
  (∀ (s : State) (i slot p : Nat) (d : Doc), s.doc slot = some d →
     let told := s.raise .deliveryUnit (.docDelivered d.receipt d.current p d.pages.length d.damaged d.attempts)
     let low := told.heldDown d.current d.pages.length
     let kept : State := if d.hours = 0 then low.freeDoc slot d false else low.setDoc slot { d with
       state := .retained, expiry := some (s.mgmt.uptime + d.hours * 3600000), ackThrough := 0, resume := none
       notBefore := none, hold := none }
     let done := (kept.setPoint p { kept.point p with failures := 0 }).endLane i
     s.completeDelivery i slot d p
       = if (s.lane i).state = .withdrawing then done.completeDeferred d.receipt else done)
  ∧ (∀ (s : State) (i : Nat) (j : Job), (s.lane i).job = some j →
     let l := s.lane i
     let ended : Lane :=
       { state := .idle, job := none, buf0 := .empty, buf1 := .empty, order := [], nextRead := none, acked := []
         produced := l.produced.filter (fun f => match f.body with
           | .slotReturn _ _ => true
           | _ => false)
         pending := if l.pending = .none then .none else .stale
         reading := if l.reading = .none then .none else .abandoned
         acceptTimer := none, waitTimer := none, withdrawn := false }
     s.endLane i
       = (((s.setPoint j.point { s.point j.point with lane := none }).setLane i ended).trigger (.laneIdle i)).handLane i)

/-- R148, R149, R150, R151: a counted suspension: attempts up by 1, the document QUEUED at the head of its segment
after its back-off or HELD at the eighth, the point's failures up and, for a timeout, STALLED; its notices, the lane
IDLE; POINT_CHANGED stands before DELIVERY_SUSPENDED, and DOC_HELD after it (log 31). An uncounted one keeps the
attempts and leaves no not-before. R143, R144, R145: the three timers of a lane end the delivery with a counted
suspension of their reason; the clocks move on to the deadline (log 3). -/
def Obligations.SuspensionOutcomes : Prop :=
  (∀ (s : State) (i slot : Nat) (j : Job) (d : Doc) (reason : SuspendReason), (s.lane i).job = some j →
     s.laneDoc i = some (slot, d) → j.point - 1 < s.delivery.points.length →
     let n := d.attempts + 1
     let delay := if n = 1 then 15 else if n = 2 then 30 else if n = 3 then 60 else if n = 4 then 120
       else if n = 5 then 240 else 480
     let later := { d with attempts := n, state := .queued, notBefore := some (s.mgmt.uptime + delay * 1000) }
     let held := { d with attempts := n, state := .held, hold := some .deliveryFailed, notBefore := none }
     let placed : State := if n < 8 then (s.setDoc slot later).queueHead d.current slot else s.setDoc slot held
     let x := s.point j.point
     let failed : State :=
       if reason = .acceptTimeout ∨ reason = .ackTimeout ∨ reason = .intakeUnavailable then
         (placed.setPoint j.point { x with failures := bump 255 x.failures, state := .stalled }).raise .deliveryUnit
           (.pointChanged j.point x.state .stalled)
       else placed.setPoint j.point { x with failures := bump 255 x.failures }
     let told : State := if n < 8 then failed.raise .deliveryUnit
         (.deliverySuspended reason d.receipt d.current j.point n delay)
       else (failed.raise .deliveryUnit (.deliverySuspended reason d.receipt d.current j.point n 0)).raise
         .deliveryUnit (.docHeld d.receipt d.current .deliveryFailed)
     let back := ((s.setDoc slot { d with state := .queued, notBefore := none }).queueHead d.current slot).raise
       .deliveryUnit (.deliverySuspended reason d.receipt d.current j.point d.attempts 0)
     let fin := fun (u : State) =>
       if (s.lane i).state = .withdrawing then (u.endLane i).completeDeferred d.receipt else u.endLane i
     s.suspendCounted i reason = fin told ∧ s.suspendUncounted i reason = fin back)
  ∧ (∀ (s : State) (i due : Nat), s.awake → due ≤ 281474976710655 →
     let t := s.advanceTo due
     ((s.lane i).acceptTimer = some due →
       exec (.acceptTimerExpiry i) s = .next (t.suspendCounted i .acceptTimeout))
     ∧ (∀ b k bytes slot, (s.lane i).buf b = .outstanding k bytes slot (some due) →
         exec (.ackTimerExpiry i b) s = .next (t.suspendCounted i .ackTimeout))
     ∧ ((s.lane i).waitTimer = some due →
         exec (.intakeWaitExpiry i) s = .next (t.suspendCounted i .intakeUnavailable)))

/-- R129, R135, R136: how a lane between its ACCEPT and its end goes on: it reads, it begins a page where none is
going out, its state follows from its record, and it hands its next frame; in any other state it only hands. R130,
R120: a lane hands its next frame where none of its frames is out; while the link is DOWN it is discarded and a
discarded report waits for the lane. R135: a read begins where none is in flight, a buffer is EMPTY and a page is
left: the buffer READING, the next page up by 1, the first block of the page asked for. R4, R6: the read names the
block at its position. -/
def Obligations.LaneGoesOn : Prop :=
  (∀ (s : State) (i : Nat),
     let u := (s.laneReads i).laneBegins i
     let l := u.lane i
     let st : LaneState := if l.goingOut = true then .sending else if l.order ≠ [] then .waitingIntake
       else if l.outstanding = true then .waitingAck else .sending
     ((s.lane i).state = .sending ∨ (s.lane i).state = .waitingIntake ∨ (s.lane i).state = .waitingAck →
       s.laneOn i = (u.setLane i { l with state := st }).handLane i)
     ∧ ((s.lane i).state = .idle ∨ (s.lane i).state = .offering ∨ (s.lane i).state = .withdrawing →
       s.laneOn i = s.handLane i))
  ∧ (∀ (s : State) (i : Nat) (f : OfficeFrame) (rest : List OfficeFrame),
     let l := { s.lane i with produced := rest, pending := .current }
     ((s.lane i).pending ≠ .none → s.handLane i = s) ∧ ((s.lane i).produced = [] → s.handLane i = s)
     ∧ ((s.lane i).pending = .none → (s.lane i).produced = f :: rest →
         (s.office.link = .up → s.handLane i = { s.setLane i l with
           office := { s.office with queue := s.office.queue ++ [(.lane i, f)] } })
         ∧ (s.office.link = .down → s.handLane i = { s.setLane i l with
           waiting := { s.waiting with laneDiscards := s.waiting.laneDiscards ++ [i] } })))
  ∧ (∀ (s : State) (i k slot : Nat) (b : BufId) (d : Doc), s.laneDoc i = some (slot, d) → (s.lane i).nextRead = some k →
     let l := s.lane i
     let r := d.pages.getD (k - 1) 0
     (l.reading ≠ .none → s.laneReads i = s)
     ∧ (l.buf0 ≠ .empty → l.buf1 ≠ .empty → s.laneReads i = s)
     ∧ (d.pages.length < k → s.laneReads i = s)
     ∧ (l.reading = .none → k ≤ d.pages.length →
         (b = .first ∧ l.buf0 = .empty ∨ b = .second ∧ l.buf0 ≠ .empty ∧ l.buf1 = .empty) →
         s.laneReads i
           = { s.setLane i { l.setBuf b (.reading k []) with nextRead := some (k + 1), reading := .live } with
               store := { s.store with port := s.store.port ++
                 [.read i r 1 ((s.blocksOf r).getD 0 0) d.receipt] } }))

/-- R126, R136: the page in the first buffer of the send order: slots too small leave the list and are returned, the
first slot large enough is taken and the page's send count rises; with none left the wait timer runs. R136: the frames
of a page: PAGE_HEAD with the page's values, PAGE_DATA frames of 1,024 bytes and a shorter last one at rising offsets
that carry the page's bytes in order, PAGE_TAIL with their CRC-32. -/
def Obligations.LaneBeginsThePage : Prop :=
  (∀ (s : State) (i slot k : Nat) (j : Job) (b : BufId) (rest : List BufId) (bytes : List Byte) (d : Doc)
       (x : PageRecord) (row : PointRow),
     i < s.delivery.lanes.length → j.point - 1 < s.delivery.points.length →
     (s.lane i).job = some j → s.laneDoc i = some (slot, d) → (s.lane i).goingOut = false →
     (s.lane i).order = b :: rest → (s.lane i).buf b = .read k bytes → s.record (d.pages.getD (k - 1) 0) = some x →
     s.pointRow j.point = some row → (s.point j.point).unsent ≤ 255 →
     let l := s.lane i
     (∀ y more, (s.point j.point).intake = y :: more → bytes.length ≤ y.cap →
       s.laneBegins i = ((s.setPoint j.point { s.point j.point with intake := more }).setRecord
           (d.pages.getD (k - 1) 0) { x with sends := x.sends + 1 }).setLane i { l.setBuf b (.goingOut k bytes y.id) with
             order := rest, waitTimer := none
             produced := l.produced ++ pageFrames j.point y.id d { x with sends := x.sends + 1 } bytes
               ((x.finish.map Finish.verdict).getD .damaged) })
     ∧ (∀ y more, (s.point j.point).intake = y :: more → y.cap < bytes.length →
         l.produced.countP OfficeFrame.isReturn < 16 →
         s.laneBegins i = ((s.setPoint j.point { s.point j.point with intake := more }).setLane i { l with
           produced := l.produced ++ [⟨j.point, .slotReturn y.id .tooSmall⟩] }).laneBegins i)
     ∧ (∀ y more, (s.point j.point).intake = y :: more → y.cap < bytes.length →
         16 ≤ l.produced.countP OfficeFrame.isReturn →
         s.laneBegins i = (s.setPoint j.point { s.point j.point with
           intake := more, unsent := bump 255 (s.point j.point).unsent }).laneBegins i)
     ∧ ((s.point j.point).intake = [] → l.waitTimer = none →
         s.laneBegins i = s.setLane i { l with waitTimer := some (s.mgmt.uptime + row.wait * 1000) })
     ∧ (∀ due, (s.point j.point).intake = [] → l.waitTimer = some due → s.laneBegins i = s))
  ∧ (∀ (p slot : Nat) (d : Doc) (x : PageRecord) (bytes : List Byte) (v : Verdict),
     let data := dataFrames p slot 0 bytes bytes.length
     pageFrames p slot d x bytes v
       = [⟨p, .pageHead d.receipt x.number slot bytes.length x.res x.width v (decide (x.number = d.pages.length))⟩]
         ++ data ++ [⟨p, .pageTail slot (crc32 bytes)⟩]
     ∧ data.length = (bytes.length + 1023) / 1024
     ∧ (∀ n, n < data.length → data[n]? = some ⟨p, .pageData slot (n * 1024) ((bytes.drop (n * 1024)).take 1024)⟩))

/-! ### The arbiter and the queues (chapters 6 and 7) -/

/-- R103 to R107: the class segments of a queue, where a document enters and leaves it, the candidate report of a new
head, and the report when uptime reaches the not-before of the document that is then the head: the clocks move on to
it (log 3), and the report is made once. A not-before that had passed when the document became the head makes none;
the record by which the two are told apart is the model's own (log 19). R102: pages held of a department mailbox rises
by n or falls by n; a change that names mailbox 64 is not counted. -/
def Obligations.QueueOrder : Prop :=
  (∀ (s : State) (m slot : Nat) (d : Doc), s.doc slot = some d →
     let q := (s.box m).queue
     let urgent := q.takeWhile s.urgent
     let routine := q.dropWhile s.urgent
     let moved := fun (l : List Nat) =>
       let u := s.setBox m { s.box m with
         queue := l
         ahead := if l.head? = q.head? then (s.box m).ahead
           else ((l.head?.bind s.doc).bind Doc.notBefore).any (fun due => decide (s.mgmt.uptime < due)) }
       if m < 64 ∧ l ≠ [] ∧ l.head? ≠ q.head?
       then { u with waiting := { u.waiting with triggers := u.waiting.triggers ++ [.candidate m] } } else u
     (s.urgent slot = true ↔ d.cls = .urgent)
     ∧ (d.cls = .urgent → s.queueTail m slot = moved (urgent ++ [slot] ++ routine))
     ∧ (d.cls ≠ .urgent → s.queueTail m slot = moved (q ++ [slot]))
     ∧ (d.cls = .urgent → s.queueHead m slot = moved ([slot] ++ q))
     ∧ (d.cls ≠ .urgent → s.queueHead m slot = moved (urgent ++ [slot] ++ routine))
     ∧ s.unqueue m slot = moved (q.filter (fun x => x != slot))
     ∧ (∀ due, s.awake → m < 64 → q.head? = some slot → d.notBefore = some due → due ≤ 281474976710655 →
         ((s.box m).ahead = true → exec (.notBeforeReached m) s
           = .next (let u := (s.advanceTo due).setBox m { s.box m with ahead := false }
               { u with waiting := { u.waiting with triggers := u.waiting.triggers ++ [.candidate m] } }))
         ∧ ((s.box m).ahead = false → exec (.notBeforeReached m) s = .next s)))
  ∧ (∀ (s : State) (m n : Nat),
     (m < 64 → s.heldUp m n = s.setBox m { s.box m with held := (s.box m).held + n }
       ∧ s.heldDown m n = s.setBox m { s.box m with held := (s.box m).held - n })
     ∧ (64 ≤ m → s.heldUp m n = s ∧ s.heldDown m n = s))

/-- R131, R107: the target point of a head, and when the head of a mailbox is a candidate. R132: a round takes one
trigger and grants one after another, as long as a lane is IDLE and a head is a candidate: the class first, then the
mailbox after the last served, then the lowest IDLE lane. -/
def Obligations.ArbiterChooses : Prop :=
  (∀ s : State,
     let ready := fun p => (s.point p).state = .ready
     (∀ (row : MailRow) (d : Doc),
       let resumes := fun r => d.resume = some r ∧ (row.primary = r ∨ row.alternate = some r) ∧ ready r
       (∀ r, resumes r → s.target row d = some r)
       ∧ ((∀ r, ¬ resumes r) →
           (ready row.primary → s.target row d = some row.primary)
           ∧ (∀ p, ¬ ready row.primary → row.alternate = some p → ready p → s.target row d = some p)
           ∧ (¬ ready row.primary → (∀ p, row.alternate = some p → ¬ ready p) → s.target row d = none)))
     ∧ (∀ m g, s.candidate m = some g ↔
         g.box = m ∧ (s.box m).queue.head? = some g.slot ∧ s.doc g.slot = some g.doc ∧ s.mgmt.run = .running
         ∧ (s.box m).delivering = true ∧ (∀ due, g.doc.notBefore = some due → due ≤ s.mgmt.uptime)
         ∧ (∃ row, s.mailRow m = some row ∧ s.target row g.doc = some g.point) ∧ (s.point g.point).lane = none))
  ∧ (∀ s : State,
     let after := fun m => (m + 64 - (s.mail.lastServed + 1) % 64) % 64
     (∀ t rest, s.awake → s.waiting.triggers = t :: rest → exec .arbiterRound s
         = .next (({ s with waiting := { s.waiting with triggers := rest } } : State).grants 4))
     ∧ (∀ n, ((s.idleLane = none ∨ s.choose = none) → s.grants (n + 1) = s)
         ∧ ∀ i g, s.idleLane = some i → s.choose = some g → s.grants (n + 1) = (s.grant i g).grants n)
     ∧ s.grants 0 = s
     ∧ (∀ i, s.idleLane = some i ↔ i < s.delivery.lanes.length ∧ (s.lane i).state = .idle
         ∧ ∀ k, k < i → (s.lane k).state ≠ .idle)
     ∧ (s.choose = none ↔ ∀ m, m < 64 → s.candidate m = none)
     ∧ (∀ g, s.choose = some g → g.box < 64 ∧ s.candidate g.box = some g
         ∧ ∀ m x, m < 64 → s.candidate m = some x →
             (x.doc.cls = .urgent → g.doc.cls = .urgent)
             ∧ (x.doc.cls = g.doc.cls → after g.box ≤ after m)))

/-- R132, R133, R106: a grant: the head leaves its queue and its mailbox is the last served; the document is
DELIVERING without a not-before, and starts again at page 1 where its resume point is another; the lane serves the
point and produces the OFFER with its fields. -/
def Obligations.GrantTakesTheHead : Prop :=
  ∀ (s : State) (i : Nat) (g : Grant), s.shapeOk → i < 4 → (s.lane i).state = .idle → 1 ≤ g.point → g.point ≤ 30 →
    g.box < 64 →
    let t := s.grant i g
    let elsewhere := g.doc.resume.isSome = true ∧ g.doc.resume ≠ some g.point
    let ack := if elsewhere then 0 else g.doc.ackThrough
    let offer : OfficeFrame := ⟨g.point, .offer g.doc.receipt g.doc.current g.doc.cls g.doc.pages.length (ack + 1)
      ((g.doc.pages.drop ack).map (fun r => ((s.record r).map PageRecord.length).getD 0)).sum g.doc.station⟩
    (t.box g.box).queue = (s.box g.box).queue.filter (fun x => x != g.slot)
    ∧ (∀ m, m ≠ g.box → t.box m = s.box m) ∧ t.mail.lastServed = g.box
    ∧ t.doc g.slot = some { g.doc with
        state := .delivering, notBefore := none, ackThrough := ack
        resume := if elsewhere then none else g.doc.resume }
    ∧ (∀ x, x ≠ g.slot → t.doc x = s.doc x)
    ∧ t.point g.point = { s.point g.point with lane := some i }
    ∧ (∀ p, 1 ≤ p → p ≠ g.point → t.point p = s.point p)
    ∧ (t.lane i).state = .offering ∧ (t.lane i).job = some ⟨g.slot, g.point⟩
    ∧ (∀ k, k ≠ i → t.lane k = s.lane k)
    ∧ ((s.lane i).pending ≠ .none ∨ (s.lane i).produced ≠ [] →
        ∃ l, (s.lane i).produced ++ [offer] = l ++ (t.lane i).produced ∧ l.length ≤ 1)
    ∧ ((s.lane i).pending = .none → (s.lane i).produced = [] →
        (t.lane i).produced = [] ∧ (t.lane i).pending = .current
        ∧ (s.office.link = .up → t.office.queue = s.office.queue ++ [(.lane i, offer)]))
    ∧ t.store = s.store ∧ t.journal = s.journal ∧ t.tables = s.tables ∧ t.mgmt = s.mgmt ∧ t.calls = s.calls

/-! ### Management requests (chapter 10) -/

/-- R176: a request of a known kind is judged by permission, then by the slot, then by its form (R197); one of an
unknown kind by permission, then by its kind. Where the slot is held, and where the request arrived together with one
that took it, the answer is BUSY; that a request carries with whom it arrived, and how the one before is remembered,
is log 39. The kind byte of the last two replies is log 22. R119, R176: what a request that is taken finds: the
arrival of its frame, and the record that it took the slot (log 39), so that a permitted one that arrived together
with it is answered BUSY, whatever its kind and its form. R177, R178: a reply joins the tail of the list and the head
is handed where no reply of the Management Unit is at the port; the slot is free once the reply of the request holding
it has been handed. With 7 immediate replies in the list the request is dropped and counted. That the head is handed
in the event that produces it, so that the slot is free for the next request that did not arrive together with it, is
the model's choice (log 39). Section 11.3: a reply carries the code of its request, by its place in the list of kinds
from 64, plus 64; what follows the result in the replies that carry single items (log 22). R112, section 11.3: the
bytes of the mailbox image, its number of DELIVERING documents in 2 bytes (log 47), and of its queue entries (log 22),
the uptime of the reply in each (log 50). Section 11.5: the document image of 114 bytes with its presence byte, the
page image of 17 bytes, and the document summary (log 22). Section 11.5: the journal entry image of 87 bytes with its
presence byte, and the counts of the two journal replies (log 22). -/
def Obligations.RequestsAreJudgedInOrder : Prop :=
  (∀ s : State, s.awake →
     let heard := fun (h : ReqHead) (took : Bool) => let a := s.officeArrival h.src
       { a with mgmt := { s.mgmt with tookSlot := took } }
     (∀ i h k, requestOf i = some (h, k) →
       let other := heard h (h.together && s.mgmt.tookSlot)
       (¬ s.mayManage h.src → exec i s = .next (other.immediate h (replyCode k) .notPermitted))
       ∧ (s.mayManage h.src → s.mgmt.slot ≠ .free → exec i s = .next (other.immediate h (replyCode k) .busy))
       ∧ (s.mayManage h.src → h.together = true → s.mgmt.tookSlot = true →
           exec i s = .next (other.immediate h (replyCode k) .busy))
       ∧ (s.mayManage h.src → s.mgmt.slot = .free → ¬ (h.together = true ∧ s.mgmt.tookSlot = true) → h.formed = false →
           exec i s = .next ((heard h true).reply h k .badArgument .none)))
     ∧ (∀ h kind, let other := heard h (h.together && s.mgmt.tookSlot)
       (¬ s.mayManage h.src →
         exec (.unknownRequest h kind) s = .next (other.immediate h ((kind + 64) % 256) .notPermitted))
       ∧ (s.mayManage h.src → exec (.unknownRequest h kind) s = .next (other.immediate h 255 .unknownRequest))))
  ∧ ((∀ (s : State) (src : Nat),
     s.taking src = { s.officeArrival src with mgmt := { s.mgmt with tookSlot := true } })
   ∧ (∀ (s t : State) (i j : Instr) (h g : ReqHead) (k m : ReqKind), requestOf i = some (h, k) →
       requestOf j = some (g, m) → s.requestTaken h → exec i s = .next t → g.together = true → t.mayManage g.src →
       t.mgmt.tookSlot = true
       ∧ exec j t = .next (({ t.officeArrival g.src with mgmt := { t.mgmt with tookSlot := true } } : State).immediate g
           (replyCode m) .busy)))
  ∧ (∀ (s : State) (h : ReqHead) (k : ReqKind) (code : Nat) (result : Result) (body : ReplyBody),
     let own : Reply := { dest := h.src, tag := h.tag, code := replyCode k, result := result, body := body, holds := true,
                          restart := false }
     let now : Reply := { dest := h.src, tag := h.tag, code := code, result := result, body := .none, holds := false,
                          restart := false }
     s.reply h k result body = ({ s with mgmt := { s.mgmt with slot := .replying } } : State).addReply own
     ∧ (s.mgmt.replies.countP (fun r => !r.holds) < 7 → s.immediate h code result = s.addReply now)
     ∧ (7 ≤ s.mgmt.replies.countP (fun r => !r.holds) → s.immediate h code result
         = { s with mgmt := { s.mgmt with dropped := bump 65535 s.mgmt.dropped } })
     ∧ (∀ r : Reply, s.mgmt.replyOut = true →
         s.addReply r = { s with mgmt := { s.mgmt with replies := s.mgmt.replies ++ [r] } })
     ∧ (∀ r x rest, s.mgmt.replyOut = false → s.mgmt.replies ++ [r] = x :: rest →
         let u := { s with mgmt := { s.mgmt with
           replies := rest, replyOut := true
           slot := if x.holds = true ∧ x.restart = false then ReqSlot.free else s.mgmt.slot } }
         (s.office.link = .up → s.addReply r = { u with office := { s.office with
           queue := s.office.queue ++ [(.reply, ⟨x.dest, .reply x⟩)] } })
         ∧ (s.office.link = .down → s.addReply r = { u with waiting := { s.waiting with
           portReports := s.waiting.portReports ++ [.discardedReply x.restart] } })))
  ∧ ([ReqKind.readStatus, .readFlags, .clearFlags, .setParameters, .readParameters, .setClock, .setReceiptBase, .ackRestart,
     .restart, .intake, .delivery, .channelControl, .stageClear, .stagePut, .stageRemove, .stageRevert, .stageRead,
     .tableRead, .commit, .mailboxControl, .mailboxRead, .pointRead, .docList, .docRead, .docPages, .docHold, .docRelease,
     .docReroute, .docPurge, .journalRead, .journalRelease].map replyCode = (List.range 31).map (· + 128)
   ∧ replyItems .none = []
   ∧ (∀ t, replyItems (.clock t) = be 4 t.secs ++ be 2 t.ms)
   ∧ (∀ n, replyItems (.counter n) = be 4 n)
   ∧ (∀ c, replyItems (.cause c) = be 1 (resetCode c))
   ∧ (∀ a b c d, replyItems (.conditions a b c d) = flagByte a ++ flagByte b ++ flagByte c ++ flagByte d)
   ∧ (∀ n, replyItems (.busy n) = be 1 n)
   ∧ (∀ r n, replyItems (.run r n) = be 1 (runCode r) ++ be 1 n)
   ∧ (∀ n, replyItems (.staged n) = be 2 n)
   ∧ (∀ n m, replyItems (.removed n m) = be 2 n ++ be 2 m)
   ∧ (∀ t g v n, replyItems (.committed t g v n) = be 1 (tableCode t) ++ be 4 g ++ be 4 v.toNat ++ be 2 n)
   ∧ (∀ n why, replyItems (.invalid n why) = be 2 n ++ be 1 (commitCode why)))
  ∧ (∀ (m : MailboxImage) (l : List QueueEntry),
     let image := be 1 m.number ++ flagByte m.inUse ++ flagByte m.accepting ++ flagByte m.delivering ++ be 2 m.held
       ++ be 2 (m.quota.getD 0) ++ be 2 m.length ++ be 2 m.urgent ++ be 2 m.heldDocs ++ be 2 m.deliveringDocs
       ++ be 1 m.lastServed
     replyItems (.mailbox m) = image
     ∧ replyItems (.mailboxQueue m l) = image ++ be 1 l.length ++ l.flatMap (fun e =>
         be 4 e.receipt ++ be 1 (classCode e.cls) ++ be 2 e.pages ++ be 6 (e.notBefore.getD 0) ++ be 6 e.uptime))
  ∧ ((∀ (slot up : Nat) (d : Doc), replyItems (.document slot d up)
       = be 2 slot ++ be 4 d.receipt ++ be 1 (docStateCode d.state)
         ++ be 1 (presence [d.channel.isSome, d.caller.isSome, d.station.isSome, d.closeTime.isSome, d.hold.isSome,
             d.notBefore.isSome, d.resume.isSome, d.expiry.isSome])
         ++ be 1 (d.channel.getD 0) ++ strBytes 16 d.called ++ imageStr 16 d.caller ++ imageStr 20 d.station
         ++ be 1 d.routed ++ be 1 d.current ++ be 1 (classCode d.cls) ++ be 2 d.hours ++ be 4 d.routeGen
         ++ be 1 (screenResultCode d.screening) ++ todBytes d.openTime ++ optTod d.closeTime ++ be 2 d.pages.length
         ++ flagByte d.incomplete ++ be 2 d.damaged ++ be 1 ((d.hold.map holdCode).getD 0) ++ be 1 d.attempts
         ++ be 6 (d.notBefore.getD 0) ++ be 2 d.ackThrough ++ be 1 (d.resume.getD 0) ++ be 6 (d.expiry.getD 0) ++ be 6 up
     ∧ (d.called.length ≤ 16 → (∀ x, d.caller = some x → x.length ≤ 16) → (∀ x, d.station = some x → x.length ≤ 20) →
         (replyItems (.document slot d up)).length = 114))
   ∧ (∀ (n : Nat) (l : List PageImage), replyItems (.pages n l)
       = be 2 n ++ be 1 l.length ++ l.flatMap (fun p => be 2 p.number ++ be 4 p.length ++ be 2 p.blocks
           ++ be 1 (resolutionCode p.res) ++ be 1 (widthCode p.width) ++ be 2 p.lines ++ be 2 p.errs
           ++ be 1 (verdictCode p.verdict) ++ be 1 p.resends ++ be 1 p.sends)
     ∧ (replyItems (.pages n l)).length = 3 + 17 * l.length)
   ∧ (∀ (l : List DocSummary) (next : Nat), replyItems (.summaries l next)
       = be 1 l.length ++ l.flatMap (fun d => be 4 d.receipt ++ be 2 d.slot ++ be 1 (docStateCode d.state)
           ++ be 1 d.mailbox ++ be 1 (classCode d.cls) ++ be 2 d.pages ++ flagByte d.incomplete ++ be 2 d.damaged
           ++ be 1 ((d.hold.map holdCode).getD 0)) ++ be 4 next))
  ∧ ((∀ (o : Nat) (e : Entry), entryImage o e
       = be 2 o
         ++ be 1 (presence [e.receipt.isSome, e.caller.isSome, e.station.isSome, e.mailbox.isSome, e.routeGen.isSome])
         ++ be 4 (e.receipt.getD 0) ++ be 1 e.channel ++ todBytes e.openTime ++ todBytes e.closeTime
         ++ strBytes 16 e.called ++ imageStr 16 e.caller ++ imageStr 20 e.station ++ be 1 (outcomeCode e.outcome)
         ++ be 1 (causeCode e.cause) ++ be 2 e.pages ++ be 2 e.damaged ++ be 1 (e.mailbox.getD 0)
         ++ be 4 (e.routeGen.getD 0) ++ be 1 (screenResultCode e.screening)
     ∧ (e.called.length ≤ 16 → (∀ x, e.caller = some x → x.length ≤ 16) → (∀ x, e.station = some x → x.length ≤ 20) →
         (entryImage o e).length = 87))
   ∧ (∀ (l : List (Nat × Entry)) (c : JournalCounts) (n : Nat),
     let counts := be 2 c.written ++ be 1 c.reserved ++ be 2 c.free
     replyItems (.journalCounts c) = counts
     ∧ replyItems (.entries l c n) = be 1 l.length ++ l.flatMap (fun e => entryImage e.1 e.2) ++ counts ++ be 2 n))

/-- R187, R183, R189, R191, R195: the requests that read or clear what the Management Unit and the other blocks
report. The reading of every item at one event is log 20; that a count already named, and not yet cleared by its
owner, is not named twice is log 40. Section 11.3, R183, R187, R189: the items of READ_STATUS, READ_FLAGS and
READ_PARAMETERS in their order (log 22). -/
def Obligations.ReadingAndClearingRequests : Prop :=
  (∀ (s : State) (h : ReqHead), s.requestTaken h →
     let a := s.taking h.src
     exec (.readStatus h) s = .next (a.reply h .readStatus .ok (.status
       { intake := a.mgmt.intake, run := a.mgmt.run, cause := a.mgmt.cause, clockSet := a.mgmt.clockSet,
         unacknowledged := a.mgmt.unacknowledged, tod := a.mgmt.tod, uptime := a.mgmt.uptime, mode := a.mgmt.params.mode,
         noticeCount := a.mgmt.notices.length, lost := a.mgmt.lost, outstanding := a.mgmt.outstanding,
         dropped := a.mgmt.dropped, busy := a.calls.channels.countP (fun c => c.state != .idle),
         lineLink := a.line.link, lineErrors := a.line.errors, officeLink := a.office.link,
         officeErrors := a.office.errors, freeBlocks := a.store.free.length,
         freeRecords := 8192 - a.store.records.length, level := a.pressure.level,
         freeSlots := 1024 - a.docs.slots.length, counter := a.docs.counter.getD 0, written := a.journal.log.length,
         reserved := a.journal.reserved, unrecorded := a.journal.unrecorded,
         lanes := a.delivery.lanes.countP (fun l => l.state != .idle),
         tables := [(a.tables.routing.generation, a.tables.routing.check),
           (a.tables.screening.generation, a.tables.screening.check),
           (a.tables.mailbox.generation, a.tables.mailbox.check),
           (a.tables.point.generation, a.tables.point.check)] }))
     ∧ exec (.readParameters h) s = .next (a.reply h .readParameters .ok (.params a.mgmt.params))
     ∧ exec (.readFlags h) s = .next (({ a with mgmt := { a.mgmt with outstanding := false } } : State).reply h .readFlags
         .ok (.flags a.mgmt.flags a.mgmt.lost a.mgmt.outstanding a.mgmt.notices.length))
     ∧ exec (.ackRestart h) s = .next (({ a with mgmt := { a.mgmt with
         unacknowledged := false, flags := clearFlag 15 a.mgmt.flags } } : State).reply h .ackRestart .ok
           (.cause a.mgmt.cause))
     ∧ (∀ names, (names = [] ∨ 24 < names.length
           ∨ ∃ n ∈ names, ¬ ((1 ≤ n ∧ n ≤ 14) ∨ (17 ≤ n ∧ n ≤ 21))) →
         exec (.clearFlags h names) s = .next (a.reply h .clearFlags .badArgument .none))
     ∧ (∀ names, names ≠ [] → names.length ≤ 24 → (∀ n ∈ names, (1 ≤ n ∧ n ≤ 14) ∨ (17 ≤ n ∧ n ≤ 21)) →
         let count := fun (n : Nat) => if n = 18 then some CountName.unrecordedRefusals
           else if n = 19 then some .lineFrameErrors
           else if n = 20 then some .officeFrameErrors
           else if n = 21 then some .droppedRequests
           else none
         let clear := fun (x : State) (n : Nat) => match count n with
           | some c => if c ∈ x.waiting.clears then x
               else { x with waiting := { x.waiting with clears := x.waiting.clears ++ [c] } }
           | none => if n = 17 then { x with mgmt := { x.mgmt with lost := false } }
               else { x with mgmt := { x.mgmt with flags := clearFlag n x.mgmt.flags } }
         let t := names.foldl clear a
         exec (.clearFlags h names) s = .next (t.reply h .clearFlags .ok .none)
         ∧ (∀ n, 1 ≤ n → n ≤ 15 → flagOn n t.mgmt.flags = (flagOn n a.mgmt.flags && !names.contains n))
         ∧ ∃ f l, t = { a with
               mgmt := { a.mgmt with flags := f, lost := a.mgmt.lost && !names.contains 17 }
               waiting := { a.waiting with clears := a.waiting.clears ++ l } }
             ∧ l.Nodup ∧ ∀ c, c ∈ l ↔ c ∉ a.waiting.clears ∧ ∃ n ∈ names, count n = some c))
  ∧ ((∀ (x : StatusImage), replyItems (.status x)
       = be 1 (intakeCode x.intake) ++ be 1 (runCode x.run) ++ be 1 (resetCode x.cause) ++ flagByte x.clockSet
         ++ flagByte x.unacknowledged ++ todBytes x.tod ++ be 6 x.uptime ++ be 1 (modeCode x.mode)
         ++ be 1 x.noticeCount ++ flagByte x.lost ++ flagByte x.outstanding ++ be 2 x.dropped ++ be 1 x.busy
         ++ be 1 (linkCode x.lineLink) ++ be 2 x.lineErrors ++ be 1 (linkCode x.officeLink) ++ be 2 x.officeErrors
         ++ be 2 x.freeBlocks ++ be 2 x.freeRecords ++ be 1 (levelCode x.level) ++ be 2 x.freeSlots ++ be 4 x.counter
         ++ be 2 x.written ++ be 1 x.reserved ++ be 2 x.unrecorded ++ be 1 x.lanes
         ++ x.tables.flatMap (fun t => be 4 t.1 ++ be 4 t.2.toNat))
   ∧ (∀ flags lost outstanding n, replyItems (.flags flags lost outstanding n)
       = be 2 flags.toNat ++ flagByte lost ++ flagByte outstanding ++ be 1 n)
   ∧ (∀ p : Parameters, replyItems (.params p)
       = be 1 p.silence ++ be 2 p.pressure.tight ++ be 2 p.pressure.critical ++ be 2 p.pressure.hysteresis
         ++ be 1 p.pressure.enterDebounce ++ be 1 p.pressure.exitDebounce ++ be 2 p.lowMark ++ be 1 (modeCode p.mode)
         ++ be 2 p.masks.toNat))

/-- R183, R185, R186, R194: the requests that set the parameters, the clock and the receipt counter, and RESTART. That
SET_RECEIPT_BASE carries the counter with OK alone is log 21. -/
def Obligations.SettingRequests : Prop :=
  ∀ (s : State) (h : ReqHead), s.requestTaken h →
    let a := s.taking h.src
    (∀ p : ParamFields,
      let ok := 5 ≤ p.silence ∧ p.silence ≤ 60 ∧ 1 ≤ p.tight ∧ p.tight ≤ 16384 ∧ p.critical ≤ 16383
        ∧ p.critical < p.tight ∧ p.hysteresis ≤ 4096 ∧ p.tight + p.hysteresis ≤ 16384 ∧ p.enterDebounce ≤ 15
        ∧ p.exitDebounce ≤ 15 ∧ p.lowMark ≤ 2048 ∧ (p.mode = 1 ∨ p.mode = 2) ∧ p.masks.getLsbD 14 = false
        ∧ p.masks.getLsbD 15 = false
      let pressure : PressureParams := { tight := p.tight, critical := p.critical, hysteresis := p.hysteresis,
                                         enterDebounce := p.enterDebounce, exitDebounce := p.exitDebounce }
      let mode := if p.mode = 1 then ReportMode.streaming else ReportMode.summary
      let new : Parameters := { silence := p.silence, pressure := pressure, lowMark := p.lowMark, mode := mode,
                                masks := p.masks }
      (¬ ok → exec (.setParameters h p) s = .next (a.reply h .setParameters .badArgument .none))
      ∧ (ok → exec (.setParameters h p) s = .next (({ a with
          mgmt := { a.mgmt with
            params := new
            outstanding := if a.mgmt.params.mode = mode then a.mgmt.outstanding else false }
          waiting := { a.waiting with
            pressureParts := a.waiting.pressureParts ++ [pressure]
            lowMarks := a.waiting.lowMarks ++ [p.lowMark]
            silences := a.waiting.silences ++ [p.silence] } } : State).reply h .setParameters .ok (.params new))))
    ∧ (∀ secs ms,
        (999 < ms ∨ 4294967295 < secs →
          exec (.setClock h secs ms) s = .next (a.reply h .setClock .badArgument .none))
        ∧ (ms ≤ 999 → secs ≤ 4294967295 →
          exec (.setClock h secs ms) s = .next (({ a with mgmt := { a.mgmt with
            tod := ⟨secs, ms⟩, clockSet := true } } : State).reply h .setClock .ok (.clock ⟨secs, ms⟩))))
    ∧ (∀ b, let run := exec (.setReceiptBase h b) s
        let no := fun (r : Result) => .next (a.reply h .setReceiptBase r .none)
        let claimed := ∃ e ∈ a.docs.slots, ∃ ch, e.2 = .claimed ch
        ((b = 0 ∨ 4294967295 < b) → run = no .badArgument)
        ∧ (1 ≤ b → b ≤ 4294967295 →
            ((a.mgmt.intake ≠ .closed ∨ a.docList ≠ []) → run = no .wrongState)
            ∧ (a.mgmt.intake = .closed → a.docList = [] → claimed → run = no .inUse)
            ∧ (a.mgmt.intake = .closed → a.docList = [] → ¬ claimed →
                run = .next (({ a with docs := { a.docs with counter := some b } } : State).reply h .setReceiptBase .ok
                  (.counter b)))))
    ∧ exec (.restart h) s = .next (({ a with mgmt := { a.mgmt with slot := .restarting } } : State).addReply
        { dest := h.src, tag := h.tag, code := replyCode .restart, result := .ok, body := .none, holds := true,
          restart := true })

/-- R179 to R182, R51: INTAKE and DELIVERY: the new intake state with its notice, the conditions of OPEN, the abort
passed to every channel, and the run state with its arbiter trigger. That a DRAIN reads the count as it stands, also
where an all-idle report still waits, is log 49. -/
def Obligations.IntakeAndDeliveryRequests : Prop :=
  ∀ (s : State) (h : ReqHead), s.requestTaken h →
    let a := s.taking h.src
    let ok := fun (x : State) => .next (x.reply h .intake .ok .none)
    let turned := fun (st : IntakeState) => ({ a with
      mgmt := { a.mgmt with intake := st }
      waiting := { a.waiting with
        occurrences := a.waiting.occurrences ++ [(.management, .intakeChanged a.mgmt.intake st)] } } : State)
    let ready := a.mgmt.clockSet = true ∧ 1 ≤ a.tables.routing.generation ∧ 1 ≤ a.tables.mailbox.generation
      ∧ a.mgmt.unacknowledged = false
    let busy := a.calls.channels.countP (fun c => c.state != .idle)
    let lanes := a.delivery.lanes.countP (fun l => l.state != .idle)
    let aborted := fun (x : State) => ({ x with calls := { x.calls with
      channels := x.calls.channels.map (fun c => { c with aborts := c.aborts + 1 }) } } : State)
    (a.mgmt.intake = .opened → exec (.intakeOpen h) s = ok a)
    ∧ (a.mgmt.intake ≠ .opened → ready → exec (.intakeOpen h) s = ok (turned .opened))
    ∧ (a.mgmt.intake ≠ .opened → ¬ ready → exec (.intakeOpen h) s = .next (a.reply h .intake .notReady
        (.conditions a.mgmt.clockSet (decide (1 ≤ a.tables.routing.generation))
          (decide (1 ≤ a.tables.mailbox.generation)) (!a.mgmt.unacknowledged))))
    ∧ (a.mgmt.intake = .opened → busy = 0 → exec (.intakeDrain h) s = ok (turned .closed))
    ∧ (a.mgmt.intake = .opened → busy ≠ 0 → exec (.intakeDrain h) s = ok (turned .draining))
    ∧ (a.mgmt.intake ≠ .opened → exec (.intakeDrain h) s = ok a)
    ∧ (a.mgmt.intake = .closed → exec (.intakeAbort h) s = .next ((aborted a).reply h .intake .ok (.busy busy)))
    ∧ (a.mgmt.intake ≠ .closed →
        exec (.intakeAbort h) s = .next ((aborted (turned .closed)).reply h .intake .ok (.busy busy)))
    ∧ (a.mgmt.run = .running → exec (.deliveryRun h) s = .next (a.reply h .delivery .ok (.run .running lanes)))
    ∧ (a.mgmt.run = .stopped → exec (.deliveryRun h) s = .next (({ a with
        mgmt := { a.mgmt with run := .running }
        waiting := { a.waiting with triggers := a.waiting.triggers ++ [.deliveryRun] } } : State).reply h .delivery .ok
          (.run .running lanes)))
    ∧ exec (.deliveryStop h) s = .next (({ a with mgmt := { a.mgmt with run := .stopped } } : State).reply h .delivery .ok
        (.run .stopped lanes))

/-- R52, R141: CHANNEL_CONTROL with its four actions and the image as it stands after the action, and POINT_READ with
the image built before the two counts are cleared. What the image shows out of its states is log 26, the order of the
serving lane's buffers log 46. R52, R141, section 11.1: the bytes of the channel image and of the point image: an
absent item is 0, the serving lane 255 where there is none, and the fields of that lane are then zeros (log 22). -/
def Obligations.ChannelAndPointRequests : Prop :=
  (∀ (s : State) (h : ReqHead), s.requestTaken h →
     let a := s.taking h.src
     (∀ ch,
       let c := a.channel ch
       let d := c.doc.bind a.doc
       let image := fun (enabled : Bool) (errors : Nat) =>
         ({ state := c.state, enabled := enabled, receipt := d.map Doc.receipt,
            expected := d.map (fun d => d.pages.length + 1), resends := c.resends,
            received := if c.page = none then 0 else c.received, mark := if c.page = none then false else c.mark,
            discards := c.discards.length, drop := if c.state = .releasing then c.drop else none,
            errors := errors } : ChannelImage)
       let done := fun (x : Channel) (i : ChannelImage) =>
         .next ((a.setChannel ch x).reply h .channelControl .ok (.channel i))
       let bad := .next (a.reply h .channelControl .badArgument .none)
       (24 ≤ ch → exec (.channelRead h ch) s = bad ∧ exec (.channelEnable h ch) s = bad
         ∧ exec (.channelDisable h ch) s = bad ∧ exec (.channelClearErrors h ch) s = bad)
       ∧ (ch < 24 → ch < s.calls.channels.length →
         exec (.channelRead h ch) s = done c (image c.enabled c.errors)
         ∧ exec (.channelEnable h ch) s = done { c with enabled := true } (image true c.errors)
         ∧ exec (.channelDisable h ch) s = done { c with enabled := false } (image false c.errors)
         ∧ exec (.channelClearErrors h ch) s = done { c with errors := 0 } (image c.enabled 0)))
     ∧ (∀ p clear,
       let x := a.point p
       let image : PointImage :=
         { point := p, row := a.pointRow p, state := x.state, intake := x.intake, lane := x.lane,
           laneImage := x.lane.map (fun i =>
             { state := (a.lane i).state, receipt := ((a.laneDoc i).map (fun e => e.2.receipt)).getD 0,
               buffers := ([(a.lane i).buf0, (a.lane i).buf1].filterMap (fun b => match b with
                 | .goingOut k _ slot => some (k, slot)
                 | .outstanding k _ slot _ => some (k, slot)
                 | _ => none)),
               ackThrough := ((a.laneDoc i).map (fun e => e.2.ackThrough)).getD 0 }),
           failures := x.failures, errors := x.errors, unsent := x.unsent }
       ((p < 1 ∨ 30 < p ∨ 1 < clear) →
         exec (.pointRead h p clear) s = .next (a.reply h .pointRead .badArgument .none))
       ∧ (1 ≤ p → p ≤ 30 → clear = 0 → exec (.pointRead h p clear) s = .next (a.reply h .pointRead .ok (.point image)))
       ∧ (1 ≤ p → p ≤ 30 → clear = 1 → exec (.pointRead h p clear) s
           = .next ((a.setPoint p { x with errors := 0, unsent := 0 }).reply h .pointRead .ok (.point image)))))
  ∧ ((∀ c : ChannelImage, replyItems (.channel c)
       = be 1 (channelStateCode c.state) ++ flagByte c.enabled ++ be 4 (c.receipt.getD 0) ++ be 2 (c.expected.getD 0)
         ++ be 1 c.resends ++ be 4 c.received ++ flagByte c.mark ++ be 1 c.discards
         ++ be 1 ((c.drop.map causeCode).getD 0) ++ be 2 c.errors)
   ∧ (∀ p : PointImage, replyItems (.point p)
       = be 1 p.point ++ flagByte p.row.isSome
         ++ (match p.row with
           | none => [0, 0, 0, 0, 0]
           | some r => flagByte r.manage ++ be 1 r.accept ++ be 1 r.ack ++ be 1 r.wait ++ be 1 r.maxSlots)
         ++ be 1 (pointStateCode p.state)
         ++ be 1 p.intake.length ++ p.intake.flatMap (fun x => be 1 x.id ++ be 3 x.cap)
         ++ be 1 (p.lane.getD 255)
         ++ (match p.laneImage with
           | none => [0, 0, 0, 0, 0, 0, 0, 0]
           | some l => be 1 (laneStateCode l.state) ++ be 4 l.receipt
               ++ be 1 l.buffers.length ++ l.buffers.flatMap (fun b => be 2 b.1 ++ be 1 b.2) ++ be 2 l.ackThrough)
         ++ be 1 p.failures ++ be 2 p.errors ++ be 1 p.unsent))

/-! ### Tables (chapter 9) -/

/-- R162, R163, R164: the staging requests: what a STAGE_PUT appends or puts in a row, and when it is refused; what a
STAGE_REMOVE takes out; STAGE_CLEAR and STAGE_REVERT. The reply carries the staging count. R162, R163, section 9.1:
the forms that STAGE_PUT and STAGE_REMOVE take: 1 to 8 entries with every field in its range, 1 to 8 keys inside their
limits. -/
def Obligations.StagingRequests : Prop :=
  (∀ (s : State) (h : ReqHead), s.requestTaken h →
     let a := s.taking h.src
     let u := a.tables
     let staged := fun (k : ReqKind) (v : TableUnit) (count : Nat) =>
       .next (({ a with tables := v } : State).reply h k .ok (.staged count))
     (∀ es, stageEntriesOk es = false → exec (.stagePut h es) s = .next (a.reply h .stagePut .badArgument .none))
     ∧ (∀ l, stageEntriesOk (.routing l) = true →
         (512 < u.routing.staging.length + l.length →
           exec (.stagePut h (.routing l)) s = .next (a.reply h .stagePut .range .none))
         ∧ (u.routing.staging.length + l.length ≤ 512 → exec (.stagePut h (.routing l)) s
           = staged .stagePut { u with routing := { u.routing with staging := u.routing.staging ++ l } }
               (u.routing.staging.length + l.length)))
     ∧ (∀ l, stageEntriesOk (.screening l) = true →
         let stored := l.map (fun e => match e.kind with
           | .caller => e
           | .station => { e with str := trim e.str })
         (128 < u.screening.staging.length + l.length →
           exec (.stagePut h (.screening l)) s = .next (a.reply h .stagePut .range .none))
         ∧ (u.screening.staging.length + l.length ≤ 128 → exec (.stagePut h (.screening l)) s
           = staged .stagePut { u with screening := { u.screening with staging := u.screening.staging ++ stored } }
               (u.screening.staging.length + l.length)))
     ∧ (∀ l, stageEntriesOk (.mailbox l) = true →
         let rows := l.foldl (fun t e => tablePut e.1 e.2 t) u.mailbox.staging
         exec (.stagePut h (.mailbox l)) s
           = staged .stagePut { u with mailbox := { u.mailbox with staging := rows } } rows.length)
     ∧ (∀ l, stageEntriesOk (.point l) = true →
         let rows := l.foldl (fun t e => tablePut e.1
           { manage := e.2.manage.getD false, accept := e.2.accept.getD 5, ack := e.2.ack.getD 15,
             wait := e.2.wait.getD 30, maxSlots := e.2.maxSlots.getD 8 } t) u.point.staging
         exec (.stagePut h (.point l)) s
           = staged .stagePut { u with point := { u.point with staging := rows } } rows.length)
     ∧ (∀ ks, stageKeysOk ks = false → exec (.stageRemove h ks) s = .next (a.reply h .stageRemove .badArgument .none))
     ∧ (∀ ks, stageKeysOk ks = true →
         let v : TableUnit := match ks with
           | .routing l => { u with routing := { u.routing with
               staging := u.routing.staging.filter (fun e => !l.contains e.stem) } }
           | .screening l => { u with screening := { u.screening with
               staging := u.screening.staging.filter (fun e => !l.any (fun k => e.kind == k.1 && (match k.1 with
                 | .caller => e.str == k.2
                 | .station => trim e.str == trim k.2))) } }
           | .mailbox l => { u with mailbox := { u.mailbox with
               staging := u.mailbox.staging.filter (fun e => !l.contains e.1) } }
           | .point l => { u with point := { u.point with
               staging := u.point.staging.filter (fun e => !l.contains e.1) } }
         let t := StageKeys.table ks
         exec (.stageRemove h ks) s = .next (({ a with tables := v } : State).reply h .stageRemove .ok
           (.removed (u.stagingCount t - v.stagingCount t) (v.stagingCount t))))
     ∧ exec (.stageClear h .routing) s
         = staged .stageClear { u with routing := { u.routing with staging := [] } } 0
     ∧ exec (.stageClear h .screening) s
         = staged .stageClear { u with screening := { u.screening with staging := [] } } 0
     ∧ exec (.stageClear h .mailbox) s
         = staged .stageClear { u with mailbox := { u.mailbox with staging := [] } } 0
     ∧ exec (.stageClear h .point) s
         = staged .stageClear { u with point := { u.point with staging := [] } } 0
     ∧ exec (.stageRevert h .routing) s
         = staged .stageRevert { u with routing := { u.routing with staging := u.routing.live } } u.routing.live.length
     ∧ exec (.stageRevert h .screening) s
         = staged .stageRevert { u with screening := { u.screening with staging := u.screening.live } }
             u.screening.live.length
     ∧ exec (.stageRevert h .mailbox) s
         = staged .stageRevert { u with mailbox := { u.mailbox with staging := u.mailbox.live } } u.mailbox.live.length
     ∧ exec (.stageRevert h .point) s
         = staged .stageRevert { u with point := { u.point with staging := u.point.live } } u.point.live.length)
  ∧ (let count := fun (n : Nat) => 1 ≤ n ∧ n ≤ 8
   let digits := fun (x : Str) => x.length ≤ 16 ∧ ∀ c ∈ x, (48 ≤ c ∧ c ≤ 57) ∨ c = 42 ∨ c = 35
   let station := fun (x : Str) => x.length ≤ 20 ∧ ∀ c ∈ x, 32 ≤ c ∧ c ≤ 126
   (∀ l, stageEntriesOk (.routing l) = true ↔
     count l.length ∧ ∀ e ∈ l, digits e.stem ∧ e.mailbox ≤ 63 ∧ e.hours ≤ 720)
   ∧ (∀ l, stageEntriesOk (.screening l) = true ↔ count l.length ∧ ∀ e ∈ l,
     (e.kind = .caller → digits e.str) ∧ (e.kind = .station → station e.str) ∧ ∀ m, e.target = some m → m ≤ 63)
   ∧ (∀ l, stageEntriesOk (.mailbox l) = true ↔ count l.length ∧ ∀ e ∈ l, e.1 ≤ 63 ∧ 1 ≤ e.2.primary ∧ e.2.primary ≤ 30
     ∧ (∀ p, e.2.alternate = some p → 1 ≤ p ∧ p ≤ 30) ∧ 1 ≤ e.2.quota ∧ e.2.quota ≤ 16384
     ∧ ∀ m, e.2.overflow = some m → m ≤ 63)
   ∧ (∀ l, stageEntriesOk (.point l) = true ↔ count l.length ∧ ∀ e ∈ l, 1 ≤ e.1 ∧ e.1 ≤ 30
     ∧ (∀ t, e.2.accept = some t → 1 ≤ t ∧ t ≤ 30) ∧ (∀ t, e.2.ack = some t → 1 ≤ t ∧ t ≤ 60)
     ∧ (∀ t, e.2.wait = some t → 5 ≤ t ∧ t ≤ 120) ∧ ∀ n, e.2.maxSlots = some n → 1 ≤ n ∧ n ≤ 16)
   ∧ (∀ l, stageKeysOk (.routing l) = true ↔ count l.length ∧ ∀ k ∈ l, k.length ≤ 16)
   ∧ (∀ l, stageKeysOk (.screening l) = true ↔ count l.length ∧ ∀ k ∈ l,
     (k.1 = .caller → k.2.length ≤ 16) ∧ (k.1 = .station → k.2.length ≤ 20))
   ∧ (∀ l, stageKeysOk (.mailbox l) = true ↔ count l.length ∧ ∀ m ∈ l, m ≤ 63)
   ∧ (∀ l, stageKeysOk (.point l) = true ↔ count l.length ∧ ∀ p ∈ l, 1 ≤ p ∧ p ≤ 30))

/-- R165: a reading of a copy: BAD_ARGUMENT for a count or an index out of range, RANGE past the entries of a routing
or screening copy, else the entries with their positions or the rows with what they hold. TABLE_READ adds the
generation and the check value. Section 11.5: the four table entry images with their lengths, and what stands before
an image in a reading: its position, or its in-use flag with zeros for a row not in use. -/
def Obligations.TableReadings : Prop :=
  (∀ (s : State) (h : ReqHead) (i c : Nat), s.requestTaken h →
     let a := s.taking h.src
     let u := a.tables
     let no := fun (k : ReqKind) (r : Result) => .next (a.reply h k r .none)
     let staged := fun (x : TableItems) (n : Nat) => .next (a.reply h .stageRead .ok (.stageItems x n))
     let live := fun (x : TableItems) (n g : Nat) (v : BitVec 32) => .next (a.reply h .tableRead .ok (.tableItems x n g v))
     let first := fun (t : TableId) => if t = .point then 1 else 0
     let last := fun (t : TableId) => match t with
       | .routing => 511
       | .screening => 127
       | .mailbox => 63
       | .point => 30
     (∀ t, (c < 1 ∨ 8 < c ∨ i < first t ∨ last t < i) →
       exec (.stageRead h t i c) s = no .stageRead .badArgument ∧ exec (.tableRead h t i c) s = no .tableRead .badArgument)
     ∧ (1 ≤ c → c ≤ 8 →
       (i ≤ 511 → u.routing.staging.length ≤ i → exec (.stageRead h .routing i c) s = no .stageRead .range)
       ∧ (i ≤ 511 → u.routing.live.length ≤ i → exec (.tableRead h .routing i c) s = no .tableRead .range)
       ∧ (i ≤ 127 → u.screening.staging.length ≤ i → exec (.stageRead h .screening i c) s = no .stageRead .range)
       ∧ (i ≤ 127 → u.screening.live.length ≤ i → exec (.tableRead h .screening i c) s = no .tableRead .range)
       ∧ (i ≤ 511 → i < u.routing.staging.length → exec (.stageRead h .routing i c) s
           = staged (.routing (positioned i c u.routing.staging)) u.routing.staging.length)
       ∧ (i ≤ 511 → i < u.routing.live.length → exec (.tableRead h .routing i c) s
           = live (.routing (positioned i c u.routing.live)) u.routing.live.length u.routing.generation u.routing.check)
       ∧ (i ≤ 127 → i < u.screening.staging.length → exec (.stageRead h .screening i c) s
           = staged (.screening (positioned i c u.screening.staging)) u.screening.staging.length)
       ∧ (i ≤ 127 → i < u.screening.live.length → exec (.tableRead h .screening i c) s
           = live (.screening (positioned i c u.screening.live)) u.screening.live.length u.screening.generation
               u.screening.check)
       ∧ (i ≤ 63 → exec (.stageRead h .mailbox i c) s
             = staged (.mailbox (rowsFrom i c 63 u.mailbox.staging)) u.mailbox.staging.length
           ∧ exec (.tableRead h .mailbox i c) s
             = live (.mailbox (rowsFrom i c 63 u.mailbox.live)) u.mailbox.live.length u.mailbox.generation
                 u.mailbox.check)
       ∧ (1 ≤ i → i ≤ 30 → exec (.stageRead h .point i c) s
             = staged (.point (rowsFrom i c 30 u.point.staging)) u.point.staging.length
           ∧ exec (.tableRead h .point i c) s
             = live (.point (rowsFrom i c 30 u.point.live)) u.point.live.length u.point.generation u.point.check))
     ∧ (∀ l : List RouteEntry,
         (positioned i c l).length = min c (l.length - i)
         ∧ ∀ k, k < c → i + k < l.length → (positioned i c l)[k]? = (l[i + k]?).map (fun e => (i + k, e)))
     ∧ (∀ (last : Nat) (l : List (Nat × PointRow)),
         (rowsFrom i c last l).length = min c (last + 1 - i)
         ∧ ∀ k, k < c → i + k ≤ last → (rowsFrom i c last l)[k]? = some (i + k, tableGet (i + k) l)))
  ∧ ((∀ e : RouteEntry, routeImage e
       = strBytes 16 e.stem ++ be 1 e.mailbox ++ be 1 (classCode e.cls) ++ be 2 e.hours ++ flagByte e.shed
     ∧ (e.stem.length ≤ 16 → (routeImage e).length = 22))
   ∧ (∀ e : ScreenEntry, screenImage e
       = be 1 (matchCode e.kind) ++ strBytes 20 e.str ++ be 1 (screenActionCode e.action) ++ be 1 (e.target.getD 255)
     ∧ (e.str.length ≤ 20 → (screenImage e).length = 24))
   ∧ (∀ (m : Nat) (e : MailRow), mailImage m e
       = be 1 m ++ be 1 e.primary ++ be 1 (e.alternate.getD 0) ++ be 2 e.quota ++ be 1 (e.overflow.getD 255))
   ∧ (∀ (p : Nat) (e : PointRow), pointRowImage p e
       = be 1 p ++ flagByte e.manage ++ be 1 e.accept ++ be 1 e.ack ++ be 1 e.wait ++ be 1 e.maxSlots)
   ∧ (∀ (x : TableItems) (n g : Nat) (v : BitVec 32),
     let items := fun (b : List Byte) =>
       replyItems (.stageItems x n) = b ++ be 2 n ∧ replyItems (.tableItems x n g v) = b ++ be 2 n ++ be 4 g ++ be 4 v.toNat
     (∀ l, x = .routing l → items (be 1 l.length ++ l.flatMap (fun e => be 2 e.1 ++ routeImage e.2)))
     ∧ (∀ l, x = .screening l → items (be 1 l.length ++ l.flatMap (fun e => be 2 e.1 ++ screenImage e.2)))
     ∧ (∀ l, x = .mailbox l → items (be 1 l.length ++ l.flatMap (fun e => match e.2 with
       | none => [0, 0, 0, 0, 0, 0, 0]
       | some r => be 1 1 ++ mailImage e.1 r)))
     ∧ (∀ l, x = .point l → items (be 1 l.length ++ l.flatMap (fun e => match e.2 with
       | none => [0, 0, 0, 0, 0, 0, 0]
       | some r => be 1 1 ++ pointRowImage e.1 r)))))

/-- R166, R169, R170, R171: a COMMIT holds the slot and changes nothing until its completion; at it the first failure
of the examination, or else of the tests against traffic, answers TABLE_INVALID and changes nothing, and without one
the staging copy becomes live in its canonical order with the next generation and its check value. R161: the canonical
order holds the entries of the staging copy, each once; no entry stands before one that its order puts first; the
default route, where there is one, stands first, and CALLER entries stand before STATION ones. Characters rank 0, 1 to
9, star, hash, those of STATION strings by their codes without trailing spaces, and a string stands before every
longer one that begins with it. -/
def Obligations.CommitCompletes : Prop :=
  (∀ (s : State) (h : ReqHead) (t : TableId),
     (s.requestTaken h → exec (.commit h t) s
       = .next (let a := s.taking h.src; { a with mgmt := { a.mgmt with slot := .commit h t } }))
     ∧ (s.awake → s.mgmt.slot = .commit h t →
       let u := s.tables
       let run := exec .commitCompletion s
       let swapped := fun (x : TableUnit) => ({ s.swapEffects t with tables := x } : State).reply h .commit .ok
         (.committed t (x.generation t) (x.check t) (x.liveCount t))
       (∀ index reason, u.examine t h.src = some (index, reason) →
         run = .next (s.reply h .commit .tableInvalid (.invalid index reason)))
       ∧ (∀ index reason, u.examine t h.src = none → s.trafficTests t = some (index, reason) →
         run = .next (s.reply h .commit .tableInvalid (.invalid index reason)))
       ∧ (u.examine t h.src = none → s.trafficTests t = none →
         (t = .routing → let l := sortBy routeLt u.routing.staging
           let c : Copies RouteEntry := ⟨l, l, bump 4294967295 u.routing.generation, crc32 (l.flatMap routeImage)⟩
           run = .next (swapped { u with routing := c }))
         ∧ (t = .screening → let l := sortBy screenLt u.screening.staging
           let c : Copies ScreenEntry := ⟨l, l, bump 4294967295 u.screening.generation, crc32 (l.flatMap screenImage)⟩
           run = .next (swapped { u with screening := c }))
         ∧ (t = .mailbox → let l := u.mailbox.staging
           let c : Copies (Nat × MailRow) :=
             ⟨l, l, bump 4294967295 u.mailbox.generation, crc32 (l.flatMap (fun e => mailImage e.1 e.2))⟩
           run = .next (swapped { u with mailbox := c }))
         ∧ (t = .point → let l := u.point.staging
           let c : Copies (Nat × PointRow) :=
             ⟨l, l, bump 4294967295 u.point.generation, crc32 (l.flatMap (fun e => pointRowImage e.1 e.2))⟩
           run = .next (swapped { u with point := c })))))
  ∧ ((∀ l : List RouteEntry, (sortBy routeLt l).Perm l ∧ (sortBy routeLt l).Pairwise (fun a b => routeLt b a = false)
     ∧ ∀ e ∈ l, e.stem = [] → ∃ x t, sortBy routeLt l = x :: t ∧ x.stem = [])
   ∧ (∀ l : List ScreenEntry, (sortBy screenLt l).Perm l
     ∧ (sortBy screenLt l).Pairwise (fun a b => screenLt b a = false)
     ∧ (sortBy screenLt l).Pairwise (fun a b => b.kind = .caller → a.kind = .caller))
   ∧ (let rank := fun c => [48, 49, 50, 51, 52, 53, 54, 55, 56, 57, 42, 35].idxOf c
     let digits := fun (x : Str) => ∀ c ∈ x, (48 ≤ c ∧ c ≤ 57) ∨ c = 42 ∨ c = 35
     let before := fun (rank : Nat → Nat) (a b : Str) =>
       (∃ x t, b = a ++ x :: t) ∨ ∃ p x y t w, a = p ++ x :: t ∧ b = p ++ y :: w ∧ rank x < rank y
     (∀ a b : RouteEntry, digits a.stem → digits b.stem → (routeLt a b = true ↔ before rank a.stem b.stem))
     ∧ ∀ a b : ScreenEntry,
       (a.kind = .caller → b.kind = .caller → digits a.str → digits b.str →
         (screenLt a b = true ↔ before rank a.str b.str))
       ∧ (a.kind = .station → b.kind = .station → (screenLt a b = true ↔ before (fun c => c) (trim a.str) (trim b.str)))
       ∧ (a.kind = .caller → b.kind = .station → screenLt a b = true)
       ∧ (a.kind = .station → b.kind = .caller → screenLt a b = false)))

/-- R167, R168, R169: when each table's COMMIT passes: what holds of its staging copy entry by entry, of the rows it
removes, of the permission of its source, and of the traffic. R167, R168, R169: which entry a COMMIT fails with, and
with which reason: the entries in staging order or in ascending key order, each tested in the order of the table;
after them the removed rows in ascending order and the permission of the source; at the completion the removed rows
against the traffic. -/
def Obligations.ExaminationPasses : Prop :=
  (∀ (s : State) (src : Nat),
     let u := s.tables
     let box := fun m => (tableGet m u.mailbox.live).isSome = true
     let pt := fun p => (tableGet p u.point.live).isSome = true
     (u.examine .routing src = none ↔
       u.routing.staging.Pairwise (fun a b => a.stem ≠ b.stem) ∧ ∀ e ∈ u.routing.staging, box e.mailbox)
     ∧ (u.examine .screening src = none ↔
       u.screening.staging.Pairwise (fun a b => ¬ (a.kind = b.kind ∧
         ((a.kind = .caller ∧ a.str = b.str) ∨ (a.kind = .station ∧ trim a.str = trim b.str))))
       ∧ ∀ e ∈ u.screening.staging, (e.action = .redirect ↔ e.target.isSome = true)
           ∧ ∀ m, e.target = some m → box m)
     ∧ (u.examine .mailbox src = none ↔
       (∀ e ∈ u.mailbox.staging, e.2.alternate ≠ some e.2.primary ∧ e.2.overflow ≠ some e.1
         ∧ (∀ o, e.2.overflow = some o → (tableGet o u.mailbox.staging).isSome = true)
         ∧ pt e.2.primary ∧ ∀ p, e.2.alternate = some p → pt p)
       ∧ ∀ m ∈ removedRows u.mailbox, (∀ e ∈ u.routing.live, e.mailbox ≠ m)
           ∧ ∀ e ∈ u.screening.live, ¬ (e.action = .redirect ∧ e.target = some m))
     ∧ (u.examine .point src = none ↔
       (∀ p ∈ removedRows u.point, ∀ e ∈ u.mailbox.live, e.2.primary ≠ p ∧ e.2.alternate ≠ some p)
       ∧ (1 ≤ src → src ≤ 30 → ∃ row, tableGet src u.point.staging = some row ∧ row.manage = true))
     ∧ (s.trafficTests .mailbox = none ↔ ∀ m ∈ removedRows u.mailbox,
         (∀ e ∈ s.docList, e.2.current ≠ m ∧ e.2.routed ≠ m)
         ∧ ∀ c ∈ s.calls.channels, ∀ d p, c.decision = some d → d.placement = some p → p.routed ≠ m ∧ p.final ≠ m)
     ∧ (s.trafficTests .point = none ↔ ∀ p ∈ removedRows u.point, (s.point p).lane = none)
     ∧ s.trafficTests .routing = none ∧ s.trafficTests .screening = none
     ∧ (∀ p, p ∈ removedRows u.point ↔ (tableGet p u.point.live).isSome = true ∧ tableGet p u.point.staging = none)
     ∧ (∀ m, m ∈ removedRows u.mailbox ↔
         (tableGet m u.mailbox.live).isSome = true ∧ tableGet m u.mailbox.staging = none))
  ∧ (∀ (s : State) (src n : Nat) (why : CommitReason), s.tablesOk →
     let u := s.tables
     let box := fun m => (tableGet m u.mailbox.live).isSome
     let pt := fun p => (tableGet p u.point.live).isSome
     let route := fun (k : Nat) (e : RouteEntry) =>
       if (u.routing.staging.take k).any (fun x => x.stem == e.stem) then some CommitReason.duplicateKey
       else if box e.mailbox then none else some .mailboxUndefined
     let screen := fun (k : Nat) (e : ScreenEntry) =>
       if (u.screening.staging.take k).any (fun x => x.kind == e.kind && (match e.kind with
           | .caller => x.str == e.str
           | .station => trim x.str == trim e.str)) then some CommitReason.duplicateKey
       else match e.action, e.target with
         | .redirect, none => some .badField
         | .redirect, some m => if box m then none else some .mailboxUndefined
         | _, some _ => some .badField
         | _, none => none
     let mail := fun (m : Nat) (e : MailRow) =>
       if e.alternate = some e.primary ∨ e.overflow = some m then some CommitReason.badField
       else if e.overflow.any (fun o => (tableGet o u.mailbox.staging).isNone) then some .mailboxUndefined
       else if pt e.primary && e.alternate.all pt then none else some .pointUndefined
     let gone := fun m => box m = true ∧ tableGet m u.mailbox.staging = none
     let off := fun p => pt p = true ∧ tableGet p u.point.staging = none
     let named := fun m => (∃ e ∈ u.routing.live, e.mailbox = m)
       ∨ ∃ e ∈ u.screening.live, e.action = .redirect ∧ e.target = some m
     let used := fun p => ∃ e ∈ u.mailbox.live, e.2.primary = p ∨ e.2.alternate = some p
     let first := fun (removed fails : Nat → Prop) => removed n ∧ fails n ∧ ∀ k, k < n → removed k → ¬ fails k
     let inUse := fun m => (∃ e ∈ s.docList, e.2.current = m ∨ e.2.routed = m)
       ∨ ∃ c ∈ s.calls.channels, ∃ d p, c.decision = some d ∧ d.placement = some p ∧ (p.routed = m ∨ p.final = m)
     (u.examine .routing src = some (n, why) ↔ (∃ e, u.routing.staging[n]? = some e ∧ route n e = some why)
       ∧ ∀ k e, k < n → u.routing.staging[k]? = some e → route k e = none)
     ∧ (u.examine .screening src = some (n, why) ↔ (∃ e, u.screening.staging[n]? = some e ∧ screen n e = some why)
       ∧ ∀ k e, k < n → u.screening.staging[k]? = some e → screen k e = none)
     ∧ (u.examine .mailbox src = some (n, why) ↔
       ((∃ e, tableGet n u.mailbox.staging = some e ∧ mail n e = some why)
         ∧ ∀ m e, m < n → tableGet m u.mailbox.staging = some e → mail m e = none)
       ∨ ((∀ m e, tableGet m u.mailbox.staging = some e → mail m e = none)
         ∧ why = .mailboxUndefined ∧ first gone named))
     ∧ (u.examine .point src = some (n, why) ↔
       (why = .pointUndefined ∧ first off used)
       ∨ ((∀ p, off p → ¬ used p) ∧ why = .pointManagerLost ∧ n = src ∧ 1 ≤ src ∧ src ≤ 30
         ∧ ∀ row, tableGet src u.point.staging = some row → row.manage = false))
     ∧ (s.trafficTests .mailbox = some (n, why) ↔ why = .mailboxInUse ∧ first gone inUse)
     ∧ (s.trafficTests .point = some (n, why) ↔ why = .pointInUse ∧ first off (fun p => (s.point p).lane ≠ none)))

/-- R125, R173, R174, R132: what a swap leaves to its owners: a mailbox swap the rows it takes out of use and brings
into use, a point swap the points removed; what the owners then do, with the arbiter's trigger. The slots past a
lowered maximum are returned OVER_LIMIT, newest first, and counted instead where 32 returns wait. The grouping of
these effects into one event is log 24. R107, R109: a delivering flag that the swap turns to yes makes a candidate
report; the order of these reports is log 37, that among the points, ascending, log 38. A removed point that was
OFFLINE already raises no POINT_CHANGED (log 51). -/
def Obligations.SwapEffects : Prop :=
  ∀ s : State,
    s.swapEffects .routing = s ∧ s.swapEffects .screening = s
    ∧ s.swapEffects .mailbox = { s with waiting := { s.waiting with mailSwaps := s.waiting.mailSwaps
        ++ [removedRows s.tables.mailbox ++ addedRows s.tables.mailbox] } }
    ∧ s.swapEffects .point = { s with waiting := { s.waiting with
        pointSwaps := s.waiting.pointSwaps ++ [removedRows s.tables.point] } }
    ∧ (∀ rows rest, s.awake → s.waiting.mailSwaps = rows :: rest → (∀ m ∈ rows, m < s.mail.boxes.length) →
        ∃ t, exec .mailboxSwapEffects s = .next t
          ∧ (∀ m, m ∈ rows → t.box m = { s.box m with accepting := true, delivering := true })
          ∧ (∀ m, m ∉ rows → t.box m = s.box m)
          ∧ (∀ slot, t.doc slot = (s.doc slot).map (fun d =>
              if (d.state = .queued ∨ d.state = .held) ∧ d.current < 64 ∧ (∃ r, d.resume = some r ∧
                  ∀ row, s.mailRow d.current = some row → row.primary ≠ r ∧ row.alternate ≠ some r)
              then { d with ackThrough := 0, resume := none } else d))
          ∧ (rows.Nodup → t.waiting = { s.waiting with
              mailSwaps := rest
              triggers := s.waiting.triggers
                ++ (rows.filter (fun m => decide (m < 64) && !(s.box m).delivering)).map Trigger.candidate
                ++ [.swap .mailbox] })
          ∧ t.mail.lastServed = s.mail.lastServed ∧ t.docs.counter = s.docs.counter ∧ t.tables = s.tables
          ∧ t.delivery = s.delivery ∧ t.store = s.store ∧ t.mgmt = s.mgmt ∧ t.calls = s.calls)
    ∧ (∀ removed rest, s.awake → s.waiting.pointSwaps = removed :: rest →
        s.delivery.points.length = 30 → (∀ p ∈ removed, 1 ≤ p ∧ p ≤ 30 ∧ s.pointRow p = none) →
        removed.Nodup → (∀ e ∈ s.tables.point.live, 1 ≤ e.1 ∧ e.1 ≤ 30) → s.tablesOk →
        ∃ t, exec .pointSwapEffects s = .next t
          ∧ (∀ p ∈ removed, t.point p = { s.point p with state := .offline, intake := [] })
          ∧ (∀ p row, s.pointRow p = some row → (t.point p).state = (s.point p).state
              ∧ (t.point p).lane = (s.point p).lane ∧ (t.point p).errors = (s.point p).errors
              ∧ (t.point p).intake = (s.point p).intake.take row.maxSlots)
          ∧ t.waiting.occurrences = s.waiting.occurrences
              ++ (removed.filter (fun p => decide ((s.point p).state ≠ .offline))).map
                (fun p => (.deliveryUnit, .pointChanged p (s.point p).state .offline))
          ∧ (let cut := s.tables.point.live.flatMap (fun e =>
                ((s.point e.1).intake.drop e.2.maxSlots).reverse.map (fun x => (e.1, x.id)))
              let waiting := s.office.queue.countP (fun e => match e.1 with
                | .point _ => true
                | _ => false)
              let lost := fun p => (cut.drop (32 - waiting)).countP (fun e => e.1 == p)
              (s.office.link = .up → t.office = { s.office with
                  queue := s.office.queue ++ (cut.take (32 - waiting)).map (fun e =>
                    (.point e.1, ⟨e.1, .slotReturn e.2 .overLimit⟩)) }
                ∧ ∀ p, 1 ≤ p → p ≤ 30 → (t.point p).unsent
                    = if lost p = 0 then (s.point p).unsent else min ((s.point p).unsent + lost p) 255)
              ∧ (s.office.link = .down → t.office = s.office
                ∧ (waiting < 32 → ∀ p, 1 ≤ p → p ≤ 30 → (t.point p).unsent = (s.point p).unsent)))
          ∧ t.waiting.pointSwaps = rest ∧ t.waiting.triggers = s.waiting.triggers ++ [.swap .point]
          ∧ t.delivery.lanes = s.delivery.lanes ∧ t.tables = s.tables ∧ t.docs = s.docs ∧ t.store = s.store)

/-! ### Mailboxes, documents and the journal (chapters 1, 5, 6 and 8) -/

/-- R111, R112: MAILBOX_CONTROL with its five actions and the image as it stands after the action, and MAILBOX_READ
with the image and the entries of a stretch of the queue, the uptime of the reply in each entry (log 50). -/
def Obligations.MailboxRequests : Prop :=
  ∀ (s : State) (h : ReqHead) (m : Nat), s.requestTaken h →
    let a := s.taking h.src
    let b := a.box m
    let row := a.mailRow m
    let image := fun (accepting delivering : Bool) => ({
      number := m, inUse := m == 64 || row.isSome, accepting := accepting, delivering := delivering, held := b.held,
      quota := row.map MailRow.quota, length := b.queue.length, urgent := b.queue.countP a.urgent,
      heldDocs := a.docList.countP (fun e => e.2.current == m && e.2.state == .held),
      deliveringDocs := a.docList.countP (fun e => e.2.current == m && e.2.state == .delivering),
      lastServed := a.mail.lastServed } : MailboxImage)
    let same := image b.accepting b.delivering
    let bad := .next (a.reply h .mailboxControl .badArgument .none)
    let wrong := .next (a.reply h .mailboxControl .wrongState (.mailbox same))
    let done := fun (x : State) (i : MailboxImage) => .next (x.reply h .mailboxControl .ok (.mailbox i))
    (64 < m → exec (.mailboxControlRead h m) s = bad ∧ exec (.mailboxOpen h m) s = bad
      ∧ exec (.mailboxClose h m) s = bad ∧ exec (.mailboxResume h m) s = bad ∧ exec (.mailboxPause h m) s = bad)
    ∧ (m ≤ 64 → exec (.mailboxControlRead h m) s = done a same)
    ∧ ((m = 64 ∨ (m < 64 ∧ row = none)) → exec (.mailboxOpen h m) s = wrong ∧ exec (.mailboxClose h m) s = wrong
      ∧ exec (.mailboxResume h m) s = wrong ∧ exec (.mailboxPause h m) s = wrong)
    ∧ (m < 64 → row.isSome = true → m < s.mail.boxes.length →
      exec (.mailboxOpen h m) s = done (a.setBox m { b with accepting := true }) (image true b.delivering)
      ∧ exec (.mailboxClose h m) s = done (a.setBox m { b with accepting := false }) (image false b.delivering)
      ∧ exec (.mailboxPause h m) s = done (a.setBox m { b with delivering := false }) (image b.accepting false)
      ∧ (b.delivering = true → exec (.mailboxResume h m) s = done a same)
      ∧ (b.delivering = false → exec (.mailboxResume h m) s
          = done { a.setBox m { b with delivering := true } with
              waiting := { a.waiting with triggers := a.waiting.triggers ++ [.candidate m] } } (image b.accepting true)))
    ∧ (∀ pos count,
      ((64 < m ∨ 1023 < pos ∨ 8 < count) →
        exec (.mailboxRead h m pos count) s = .next (a.reply h .mailboxRead .badArgument .none))
      ∧ (m ≤ 64 → pos ≤ 1023 → count ≤ 8 →
        exec (.mailboxRead h m pos count) s = .next (a.reply h .mailboxRead .ok (.mailboxQueue same
          (((b.queue.drop pos).take count).filterMap (fun slot => (a.doc slot).map (fun d =>
            { receipt := d.receipt, cls := d.cls, pages := d.pages.length, notBefore := d.notBefore
              uptime := a.mgmt.uptime })))))))

/-- R22, R23, R24: DOC_LIST in increasing receipt order with the next number to ask from, DOC_READ with every field of
the record and the uptime, DOC_PAGES with the images of a stretch of pages. None changes the document table. -/
def Obligations.DocumentReadings : Prop :=
  ∀ (s : State) (h : ReqHead), s.requestTaken h →
    let a := s.taking h.src
    (∀ r c,
      ((r < 1 ∨ 4294967295 < r ∨ c < 1 ∨ 8 < c) →
        exec (.docList h r c) s = .next (a.reply h .docList .badArgument .none))
      ∧ (1 ≤ r → r ≤ 4294967295 → 1 ≤ c → c ≤ 8 → ∃ l : List (Nat × Doc),
        l.Perm (a.docList.filter (fun e => decide (r ≤ e.2.receipt)))
        ∧ l.Pairwise (fun x y => x.2.receipt ≤ y.2.receipt)
        ∧ exec (.docList h r c) s = .next (a.reply h .docList .ok (.summaries
            ((l.take c).map (fun e =>
              { receipt := e.2.receipt, slot := e.1, state := e.2.state, mailbox := e.2.current, cls := e.2.cls,
                pages := e.2.pages.length, incomplete := e.2.incomplete, damaged := e.2.damaged,
                hold := if e.2.state = .held then e.2.hold else none }))
            (if l.length ≤ c then 0 else ((l[c - 1]?).map (fun e => e.2.receipt)).getD 0 + 1)))))
    ∧ (∀ r,
      (r = 0 → exec (.docRead h r) s = .next (a.reply h .docRead .badArgument .none))
      ∧ (r ≠ 0 → a.docOf r = none → exec (.docRead h r) s = .next (a.reply h .docRead .range .none))
      ∧ (∀ slot d, r ≠ 0 → a.docOf r = some (slot, d) →
        exec (.docRead h r) s = .next (a.reply h .docRead .ok (.document slot d a.mgmt.uptime))))
    ∧ (∀ r p c,
      ((r = 0 ∨ p < 1 ∨ 1000 < p ∨ c < 1 ∨ 8 < c) →
        exec (.docPages h r p c) s = .next (a.reply h .docPages .badArgument .none))
      ∧ (r ≠ 0 → 1 ≤ p → p ≤ 1000 → 1 ≤ c → c ≤ 8 →
        (a.docOf r = none → exec (.docPages h r p c) s = .next (a.reply h .docPages .range .none))
        ∧ (∀ slot d, a.docOf r = some (slot, d) →
          (d.pages.length < p → exec (.docPages h r p c) s = .next (a.reply h .docPages .range .none))
          ∧ (p ≤ d.pages.length → exec (.docPages h r p c) s = .next (a.reply h .docPages .ok (.pages d.pages.length
            ((((d.pages.drop (p - 1)).take c).filterMap a.record).map (fun x =>
              let f := x.finish.getD { lines := 0, errs := 0, verdict := .damaged }
              { number := x.number, length := x.length, blocks := x.blocks.length, res := x.res, width := x.width,
                lines := f.lines, errs := f.errs, verdict := f.verdict, resends := x.resends
                sends := x.sends }))))))))
    ∧ (∀ r slot d, a.docOf r = some (slot, d) → (slot, d) ∈ a.docList ∧ d.receipt = r)
    ∧ (∀ r, a.docOf r = none ↔ ∀ e ∈ a.docList, e.2.receipt ≠ r)

/-- R25, R113, R114, R115: the requests on one document by the state it is in: what a hold, a release, a reroute or a
purge does at once, when it is refused, and when it waits in the slot for the lane. R25, R113 to R115: a receipt
number of 0 is BAD_ARGUMENT, a number that no record in use carries is RANGE. -/
def Obligations.DocumentRequests : Prop :=
  (∀ (s : State) (h : ReqHead) (r slot : Nat) (d : Doc), s.requestTaken h → r ≠ 0 →
     s.docOf r = some (slot, d) →
     let a := s.taking h.src
     let n := d.pages.length
     let answer := fun (k : ReqKind) (res : Result) (x : State) => .next (x.reply h k res .none)
     let wait := fun (kind : DocReq) =>
       .next ({ a with mgmt := { a.mgmt with slot := .deferred h kind r false } } : State)
     let why : HoldReason := if d.current = 64 then .quarantine else .management
     let fresh := { d with state := .queued, hold := none, attempts := 0, notBefore := none }
     let back := fun (x : State) (m : Nat) =>
       ((x.setDoc slot { fresh with current := m }).queueTail m slot).raise .mailboxUnit (.docQueued d.receipt m n)
     -- DOC_HOLD
     (d.state = .queued → exec (.docHold h r) s = answer .docHold .ok
       (((a.setDoc slot { d with state := .held, hold := some why }).unqueue d.current slot).raise .mailboxUnit
         (.docHeld d.receipt d.current why)))
     ∧ (d.state = .delivering → exec (.docHold h r) s = wait .hold)
     ∧ (d.state = .receiving ∨ d.state = .held ∨ d.state = .retained →
         exec (.docHold h r) s = answer .docHold .wrongState a)
     -- DOC_RELEASE
     ∧ (d.state = .held → d.hold ≠ some .quarantine →
         exec (.docRelease h r) s = answer .docRelease .ok (back a d.current))
     ∧ (d.state = .held → d.hold = some .quarantine →
         exec (.docRelease h r) s = answer .docRelease .ok (back (a.heldUp d.routed n) d.routed))
     ∧ (d.state = .queued → d.current = 64 →
         exec (.docRelease h r) s = answer .docRelease .ok (back ((a.unqueue 64 slot).heldUp d.routed n) d.routed))
     ∧ ((d.state = .queued ∧ d.current ≠ 64) ∨ d.state = .receiving ∨ d.state = .delivering ∨ d.state = .retained →
         exec (.docRelease h r) s = answer .docRelease .wrongState a)
     -- DOC_REROUTE
     ∧ (∀ t, 64 ≤ t → exec (.docReroute h r t) s = answer .docReroute .badArgument a)
     ∧ (∀ t, t < 64 → a.mailRow t = none → exec (.docReroute h r t) s = answer .docReroute .range a)
     ∧ (∀ t, t < 64 → (a.mailRow t).isSome = true →
         let run := exec (.docReroute h r t) s
         (d.state = .queued → d.current ≠ 64 → d.current ≠ t → run = answer .docReroute .ok
           ((((((a.unqueue d.current slot).setDoc slot { d with current := t, notBefore := none }).heldDown d.current
             n).heldUp t n).queueTail t slot).raise .mailboxUnit (.docQueued d.receipt t n)))
         ∧ (d.state = .held → d.hold ≠ some .quarantine → d.current ≠ t → run = answer .docReroute .ok
           (((a.setDoc slot { d with current := t }).heldDown d.current n).heldUp t n))
         ∧ (d.state = .queued ∨ (d.state = .held ∧ d.hold ≠ some .quarantine) → d.current = t →
             run = answer .docReroute .ok a)
         ∧ ((d.state = .queued ∧ d.current = 64) ∨ (d.state = .held ∧ d.hold = some .quarantine) →
             run = answer .docReroute .wrongState a)
         ∧ (d.state = .delivering → run = wait (.reroute t))
         ∧ (d.state = .receiving ∨ d.state = .retained → run = answer .docReroute .wrongState a))
     -- DOC_PURGE
     ∧ (d.state = .receiving → exec (.docPurge h r) s = answer .docPurge .wrongState a)
     ∧ (d.state = .delivering → exec (.docPurge h r) s = wait .purge)
     ∧ (d.state = .queued ∨ d.state = .held ∨ d.state = .retained →
         exec (.docPurge h r) s = answer .docPurge .ok (a.freeDoc slot d true)))
  ∧ (∀ (s : State) (h : ReqHead), s.requestTaken h →
     let a := s.taking h.src
     let no := fun (k : ReqKind) (res : Result) => .next (a.reply h k res .none)
     (exec (.docHold h 0) s = no .docHold .badArgument ∧ exec (.docRelease h 0) s = no .docRelease .badArgument
       ∧ exec (.docPurge h 0) s = no .docPurge .badArgument
       ∧ ∀ t, exec (.docReroute h 0 t) s = no .docReroute .badArgument)
     ∧ (∀ r, r ≠ 0 → a.docOf r = none →
       exec (.docHold h r) s = no .docHold .range ∧ exec (.docRelease h r) s = no .docRelease .range
       ∧ exec (.docPurge h r) s = no .docPurge .range
       ∧ ∀ t, t < 64 → exec (.docReroute h r t) s = no .docReroute .range))

/-- R154, R156: a withdrawal request taken: the lane that serves the document stops its timers, drops the PAGE_HEAD,
PAGE_DATA and PAGE_TAIL frames it has produced and not handed, and produces WITHDRAW after the frames that stay, its
TOO_SMALL returns and an OFFER that waits behind a frame of an ended delivery (R152); with the document on no lane the
held request completes at once. The withdrawal ends when its WITHDRAW has been sent and the lane has no read in
flight, not even one abandoned before: the not-before absent, the lane IDLE, the request completed. R25, R116: the
request held in the slot completes against the document as the delivery left it: withdrawn (still DELIVERING),
returned (QUEUED), HELD, RETAINED, or gone. A request held for another document stays. That a document withdrawn for a
reroute to its own mailbox goes to the tail there is log 25; that a purge of a document freed meanwhile is OK, and a
hold or a reroute of it RANGE, whatever freed it, is the model's choice (log 45). -/
def Obligations.WithdrawalsAndHeldRequests : Prop :=
  (∀ (s : State) (h : ReqHead) (kind : DocReq) (r : Nat), s.awake → s.mgmt.slot = .deferred h kind r false →
     let u : State := { s with mgmt := { s.mgmt with slot := .deferred h kind r true } }
     let stop := fun (b : PageBuf) => match b with
       | .outstanding k bytes slot _ => .outstanding k bytes slot none
       | x => x
     ((∀ i, i < 4 → ∀ slot d, s.laneDoc i = some (slot, d) → d.receipt ≠ r) →
       exec .withdrawalRequest s = .next (u.completeDeferred r))
     ∧ (∀ i slot d j, i < 4 → s.laneDoc i = some (slot, d) → d.receipt = r → (s.lane i).job = some j →
         (∀ k, k < i → ∀ x e, s.laneDoc k = some (x, e) → e.receipt ≠ r) →
         exec .withdrawalRequest s = .next ((u.setLane i { s.lane i with
           state := .withdrawing, acceptTimer := none, waitTimer := none
           buf0 := stop (s.lane i).buf0, buf1 := stop (s.lane i).buf1
           produced := (s.lane i).produced.filter (fun f => match f.body with
             | .pageHead _ _ _ _ _ _ _ _ => false
             | .pageData _ _ _ => false
             | .pageTail _ _ => false
             | _ => true) ++ [⟨j.point, .withdraw r⟩]
           withdrawn := false }).handLane i))
     ∧ (∀ (x : State) (i slot : Nat) (d : Doc), x.laneDoc i = some (slot, d) →
         let l := x.lane i
         (l.state = .withdrawing → l.withdrawn = true → l.reading = .none → x.withdrawalMayEnd i
           = ((x.setDoc slot { d with notBefore := none }).endLane i).completeDeferred d.receipt)
         ∧ ((l.state ≠ .withdrawing ∨ l.withdrawn = false ∨ l.reading ≠ .none) → x.withdrawalMayEnd i = x)))
  ∧ (∀ (s : State) (h : ReqHead) (kind : DocReq) (r : Nat) (asked : Bool), s.mgmt.slot = .deferred h kind r asked →
     let run := s.completeDeferred r
     let answer := fun (k : ReqKind) (res : Result) (x : State) => x.reply h k res .none
     (∀ x, x ≠ r → s.completeDeferred x = s)
     ∧ (s.docOf r = none →
         (kind = .hold → run = answer .docHold .range s) ∧ (kind = .purge → run = answer .docPurge .ok s)
         ∧ ∀ t, kind = .reroute t → run = answer .docReroute .range s)
     ∧ (∀ slot d, s.docOf r = some (slot, d) →
         let n := d.pages.length
         let why : HoldReason := if d.current = 64 then .quarantine else .management
         let held := ((s.setDoc slot { d with state := .held, hold := some why }).unqueue d.current slot).raise
           .mailboxUnit (.docHeld d.receipt d.current why)
         let moved := fun (t : Nat) => (((((s.unqueue d.current slot).setDoc slot
             { d with state := .queued, current := t, notBefore := none }).heldDown d.current n).heldUp t
               n).queueTail t slot).raise .mailboxUnit (.docQueued d.receipt t n)
         (kind = .hold →
           (d.state = .delivering ∨ d.state = .queued → run = answer .docHold .ok held)
           ∧ (d.state = .held ∨ d.state = .retained → run = answer .docHold .wrongState s))
         ∧ (∀ t, kind = .reroute t →
           (d.state = .delivering ∨ (d.state = .queued ∧ d.current ≠ t) → run = answer .docReroute .ok (moved t))
           ∧ (d.state = .held → d.current ≠ t → run = answer .docReroute .ok
               (((s.setDoc slot { d with current := t }).heldDown d.current n).heldUp t n))
           ∧ (d.state = .queued ∨ d.state = .held → d.current = t → run = answer .docReroute .ok s)
           ∧ (d.state = .retained → run = answer .docReroute .wrongState s))
         ∧ (kind = .purge → d.state ≠ .receiving → run = answer .docPurge .ok (s.freeDoc slot d true))))

/-- R97, R98: JOURNAL_READ answers with a stretch of the log and the counts; JOURNAL_RELEASE removes the oldest
entries, keeps the reservations, and arms the low mark again where free entries reaches it. Where the log held fewer
than n entries before the writes that arrived together with the release and were taken first, the answer is RANGE;
that the release says how many they are is log 36. -/
def Obligations.JournalRequests : Prop :=
  ∀ (s : State) (h : ReqHead), s.requestTaken h →
    let a := s.taking h.src
    let j := a.journal
    let counts := fun (n : Nat) =>
      ({ written := n, reserved := j.reserved, free := 2048 - (n + j.reserved) } : JournalCounts)
    (∀ o c, let run := exec (.journalRead h o c) s
      ((2047 < o ∨ c < 1 ∨ 8 < c) → run = .next (a.reply h .journalRead .badArgument .none))
      ∧ (o ≤ 2047 → 1 ≤ c → c ≤ 8 → j.log.length ≤ o → run = .next (a.reply h .journalRead .range .none))
      ∧ (o ≤ 2047 → 1 ≤ c → c ≤ 8 → o < j.log.length → ∃ l : List (Nat × Entry),
          l.length = min c (j.log.length - o)
          ∧ (∀ k, k < l.length → l[k]? = (j.log[o + k]?).map (fun e => (o + k, e)))
          ∧ run = .next (a.reply h .journalRead .ok (.entries l (counts j.log.length) j.unrecorded))))
    ∧ (∀ n beside, let run := exec (.journalRelease h { count := n, beside := beside }) s
      ((n < 1 ∨ 2048 < n) → run = .next (a.reply h .journalRelease .badArgument .none))
      ∧ (1 ≤ n → n ≤ 2048 → j.log.length < n + beside → run = .next (a.reply h .journalRelease .range .none))
      ∧ (1 ≤ n → n ≤ 2048 → n + beside ≤ j.log.length →
          let left := j.log.length - n
          run = .next (({ a with journal := { j with
            log := j.log.drop n
            lowArmed := if j.lowMark ≤ 2048 - (left + j.reserved) then true else j.lowArmed } } : State).reply h
              .journalRelease .ok (.journalCounts (counts left)))))
end

