-- ==== Sys2Proof/Laws/State.lean ====
section
/-! SUPPORT. What each named update does to each field of State: one lemma for each field and update, by rfl.
Reading back what an update of a list has written. -/

namespace Sys2Proof.Machine

@[simp] theorem State.advance_pending (s : State) (n : Nat) : (s.advance n).pending = s.pending := rfl
@[simp] theorem State.advance_line (s : State) (n : Nat) : (s.advance n).line = s.line := rfl
@[simp] theorem State.advance_calls (s : State) (n : Nat) : (s.advance n).calls = s.calls := rfl
@[simp] theorem State.advance_store (s : State) (n : Nat) : (s.advance n).store = s.store := rfl
@[simp] theorem State.advance_pressure (s : State) (n : Nat) : (s.advance n).pressure = s.pressure := rfl
@[simp] theorem State.advance_docs (s : State) (n : Nat) : (s.advance n).docs = s.docs := rfl
@[simp] theorem State.advance_journal (s : State) (n : Nat) : (s.advance n).journal = s.journal := rfl
@[simp] theorem State.advance_mail (s : State) (n : Nat) : (s.advance n).mail = s.mail := rfl
@[simp] theorem State.advance_delivery (s : State) (n : Nat) : (s.advance n).delivery = s.delivery := rfl
@[simp] theorem State.advance_office (s : State) (n : Nat) : (s.advance n).office = s.office := rfl
@[simp] theorem State.advance_tables (s : State) (n : Nat) : (s.advance n).tables = s.tables := rfl
@[simp] theorem State.advance_mgmt (s : State) (n : Nat) : (s.advance n).mgmt = { s.mgmt with uptime := min (s.mgmt.uptime + n) Config.uptimeMax, tod := TimeOfDay.plus s.mgmt.tod n } := rfl
@[simp] theorem State.advance_waiting (s : State) (n : Nat) : (s.advance n).waiting = s.waiting := rfl
@[simp] theorem State.advance_heldReset (s : State) (n : Nat) : (s.advance n).heldReset = s.heldReset := rfl

@[simp] theorem State.raise_pending (s : State) (src : Source) (o : Occurrence) : (s.raise src o).pending = s.pending := rfl
@[simp] theorem State.raise_line (s : State) (src : Source) (o : Occurrence) : (s.raise src o).line = s.line := rfl
@[simp] theorem State.raise_calls (s : State) (src : Source) (o : Occurrence) : (s.raise src o).calls = s.calls := rfl
@[simp] theorem State.raise_store (s : State) (src : Source) (o : Occurrence) : (s.raise src o).store = s.store := rfl
@[simp] theorem State.raise_pressure (s : State) (src : Source) (o : Occurrence) : (s.raise src o).pressure = s.pressure := rfl
@[simp] theorem State.raise_docs (s : State) (src : Source) (o : Occurrence) : (s.raise src o).docs = s.docs := rfl
@[simp] theorem State.raise_journal (s : State) (src : Source) (o : Occurrence) : (s.raise src o).journal = s.journal := rfl
@[simp] theorem State.raise_mail (s : State) (src : Source) (o : Occurrence) : (s.raise src o).mail = s.mail := rfl
@[simp] theorem State.raise_delivery (s : State) (src : Source) (o : Occurrence) : (s.raise src o).delivery = s.delivery := rfl
@[simp] theorem State.raise_office (s : State) (src : Source) (o : Occurrence) : (s.raise src o).office = s.office := rfl
@[simp] theorem State.raise_tables (s : State) (src : Source) (o : Occurrence) : (s.raise src o).tables = s.tables := rfl
@[simp] theorem State.raise_mgmt (s : State) (src : Source) (o : Occurrence) : (s.raise src o).mgmt = s.mgmt := rfl
@[simp] theorem State.raise_waiting (s : State) (src : Source) (o : Occurrence) : (s.raise src o).waiting = { s.waiting with occurrences := s.waiting.occurrences ++ [(src, o)] } := rfl
@[simp] theorem State.raise_heldReset (s : State) (src : Source) (o : Occurrence) : (s.raise src o).heldReset = s.heldReset := rfl

@[simp] theorem State.trigger_pending (s : State) (t : Trigger) : (s.trigger t).pending = s.pending := rfl
@[simp] theorem State.trigger_line (s : State) (t : Trigger) : (s.trigger t).line = s.line := rfl
@[simp] theorem State.trigger_calls (s : State) (t : Trigger) : (s.trigger t).calls = s.calls := rfl
@[simp] theorem State.trigger_store (s : State) (t : Trigger) : (s.trigger t).store = s.store := rfl
@[simp] theorem State.trigger_pressure (s : State) (t : Trigger) : (s.trigger t).pressure = s.pressure := rfl
@[simp] theorem State.trigger_docs (s : State) (t : Trigger) : (s.trigger t).docs = s.docs := rfl
@[simp] theorem State.trigger_journal (s : State) (t : Trigger) : (s.trigger t).journal = s.journal := rfl
@[simp] theorem State.trigger_mail (s : State) (t : Trigger) : (s.trigger t).mail = s.mail := rfl
@[simp] theorem State.trigger_delivery (s : State) (t : Trigger) : (s.trigger t).delivery = s.delivery := rfl
@[simp] theorem State.trigger_office (s : State) (t : Trigger) : (s.trigger t).office = s.office := rfl
@[simp] theorem State.trigger_tables (s : State) (t : Trigger) : (s.trigger t).tables = s.tables := rfl
@[simp] theorem State.trigger_mgmt (s : State) (t : Trigger) : (s.trigger t).mgmt = s.mgmt := rfl
@[simp] theorem State.trigger_waiting (s : State) (t : Trigger) : (s.trigger t).waiting = { s.waiting with triggers := s.waiting.triggers ++ [t] } := rfl
@[simp] theorem State.trigger_heldReset (s : State) (t : Trigger) : (s.trigger t).heldReset = s.heldReset := rfl

@[simp] theorem State.portReport_pending (s : State) (r : PortReport) : (s.portReport r).pending = s.pending := rfl
@[simp] theorem State.portReport_line (s : State) (r : PortReport) : (s.portReport r).line = s.line := rfl
@[simp] theorem State.portReport_calls (s : State) (r : PortReport) : (s.portReport r).calls = s.calls := rfl
@[simp] theorem State.portReport_store (s : State) (r : PortReport) : (s.portReport r).store = s.store := rfl
@[simp] theorem State.portReport_pressure (s : State) (r : PortReport) : (s.portReport r).pressure = s.pressure := rfl
@[simp] theorem State.portReport_docs (s : State) (r : PortReport) : (s.portReport r).docs = s.docs := rfl
@[simp] theorem State.portReport_journal (s : State) (r : PortReport) : (s.portReport r).journal = s.journal := rfl
@[simp] theorem State.portReport_mail (s : State) (r : PortReport) : (s.portReport r).mail = s.mail := rfl
@[simp] theorem State.portReport_delivery (s : State) (r : PortReport) : (s.portReport r).delivery = s.delivery := rfl
@[simp] theorem State.portReport_office (s : State) (r : PortReport) : (s.portReport r).office = s.office := rfl
@[simp] theorem State.portReport_tables (s : State) (r : PortReport) : (s.portReport r).tables = s.tables := rfl
@[simp] theorem State.portReport_mgmt (s : State) (r : PortReport) : (s.portReport r).mgmt = s.mgmt := rfl
@[simp] theorem State.portReport_waiting (s : State) (r : PortReport) : (s.portReport r).waiting = { s.waiting with portReports := s.waiting.portReports ++ [r] } := rfl
@[simp] theorem State.portReport_heldReset (s : State) (r : PortReport) : (s.portReport r).heldReset = s.heldReset := rfl

@[simp] theorem State.setChannel_pending (s : State) (ch : Nat) (c : Channel) : (s.setChannel ch c).pending = s.pending := rfl
@[simp] theorem State.setChannel_line (s : State) (ch : Nat) (c : Channel) : (s.setChannel ch c).line = s.line := rfl
@[simp] theorem State.setChannel_calls (s : State) (ch : Nat) (c : Channel) : (s.setChannel ch c).calls = { s.calls with channels := s.calls.channels.set ch c } := rfl
@[simp] theorem State.setChannel_store (s : State) (ch : Nat) (c : Channel) : (s.setChannel ch c).store = s.store := rfl
@[simp] theorem State.setChannel_pressure (s : State) (ch : Nat) (c : Channel) : (s.setChannel ch c).pressure = s.pressure := rfl
@[simp] theorem State.setChannel_docs (s : State) (ch : Nat) (c : Channel) : (s.setChannel ch c).docs = s.docs := rfl
@[simp] theorem State.setChannel_journal (s : State) (ch : Nat) (c : Channel) : (s.setChannel ch c).journal = s.journal := rfl
@[simp] theorem State.setChannel_mail (s : State) (ch : Nat) (c : Channel) : (s.setChannel ch c).mail = s.mail := rfl
@[simp] theorem State.setChannel_delivery (s : State) (ch : Nat) (c : Channel) : (s.setChannel ch c).delivery = s.delivery := rfl
@[simp] theorem State.setChannel_office (s : State) (ch : Nat) (c : Channel) : (s.setChannel ch c).office = s.office := rfl
@[simp] theorem State.setChannel_tables (s : State) (ch : Nat) (c : Channel) : (s.setChannel ch c).tables = s.tables := rfl
@[simp] theorem State.setChannel_mgmt (s : State) (ch : Nat) (c : Channel) : (s.setChannel ch c).mgmt = s.mgmt := rfl
@[simp] theorem State.setChannel_waiting (s : State) (ch : Nat) (c : Channel) : (s.setChannel ch c).waiting = s.waiting := rfl
@[simp] theorem State.setChannel_heldReset (s : State) (ch : Nat) (c : Channel) : (s.setChannel ch c).heldReset = s.heldReset := rfl

@[simp] theorem State.setLane_pending (s : State) (i : Nat) (l : Lane) : (s.setLane i l).pending = s.pending := rfl
@[simp] theorem State.setLane_line (s : State) (i : Nat) (l : Lane) : (s.setLane i l).line = s.line := rfl
@[simp] theorem State.setLane_calls (s : State) (i : Nat) (l : Lane) : (s.setLane i l).calls = s.calls := rfl
@[simp] theorem State.setLane_store (s : State) (i : Nat) (l : Lane) : (s.setLane i l).store = s.store := rfl
@[simp] theorem State.setLane_pressure (s : State) (i : Nat) (l : Lane) : (s.setLane i l).pressure = s.pressure := rfl
@[simp] theorem State.setLane_docs (s : State) (i : Nat) (l : Lane) : (s.setLane i l).docs = s.docs := rfl
@[simp] theorem State.setLane_journal (s : State) (i : Nat) (l : Lane) : (s.setLane i l).journal = s.journal := rfl
@[simp] theorem State.setLane_mail (s : State) (i : Nat) (l : Lane) : (s.setLane i l).mail = s.mail := rfl
@[simp] theorem State.setLane_delivery (s : State) (i : Nat) (l : Lane) : (s.setLane i l).delivery = { s.delivery with lanes := s.delivery.lanes.set i l } := rfl
@[simp] theorem State.setLane_office (s : State) (i : Nat) (l : Lane) : (s.setLane i l).office = s.office := rfl
@[simp] theorem State.setLane_tables (s : State) (i : Nat) (l : Lane) : (s.setLane i l).tables = s.tables := rfl
@[simp] theorem State.setLane_mgmt (s : State) (i : Nat) (l : Lane) : (s.setLane i l).mgmt = s.mgmt := rfl
@[simp] theorem State.setLane_waiting (s : State) (i : Nat) (l : Lane) : (s.setLane i l).waiting = s.waiting := rfl
@[simp] theorem State.setLane_heldReset (s : State) (i : Nat) (l : Lane) : (s.setLane i l).heldReset = s.heldReset := rfl

@[simp] theorem State.setPoint_pending (s : State) (p : Nat) (x : Point) : (s.setPoint p x).pending = s.pending := rfl
@[simp] theorem State.setPoint_line (s : State) (p : Nat) (x : Point) : (s.setPoint p x).line = s.line := rfl
@[simp] theorem State.setPoint_calls (s : State) (p : Nat) (x : Point) : (s.setPoint p x).calls = s.calls := rfl
@[simp] theorem State.setPoint_store (s : State) (p : Nat) (x : Point) : (s.setPoint p x).store = s.store := rfl
@[simp] theorem State.setPoint_pressure (s : State) (p : Nat) (x : Point) : (s.setPoint p x).pressure = s.pressure := rfl
@[simp] theorem State.setPoint_docs (s : State) (p : Nat) (x : Point) : (s.setPoint p x).docs = s.docs := rfl
@[simp] theorem State.setPoint_journal (s : State) (p : Nat) (x : Point) : (s.setPoint p x).journal = s.journal := rfl
@[simp] theorem State.setPoint_mail (s : State) (p : Nat) (x : Point) : (s.setPoint p x).mail = s.mail := rfl
@[simp] theorem State.setPoint_delivery (s : State) (p : Nat) (x : Point) : (s.setPoint p x).delivery = { s.delivery with points := s.delivery.points.set (p - 1) x } := rfl
@[simp] theorem State.setPoint_office (s : State) (p : Nat) (x : Point) : (s.setPoint p x).office = s.office := rfl
@[simp] theorem State.setPoint_tables (s : State) (p : Nat) (x : Point) : (s.setPoint p x).tables = s.tables := rfl
@[simp] theorem State.setPoint_mgmt (s : State) (p : Nat) (x : Point) : (s.setPoint p x).mgmt = s.mgmt := rfl
@[simp] theorem State.setPoint_waiting (s : State) (p : Nat) (x : Point) : (s.setPoint p x).waiting = s.waiting := rfl
@[simp] theorem State.setPoint_heldReset (s : State) (p : Nat) (x : Point) : (s.setPoint p x).heldReset = s.heldReset := rfl

@[simp] theorem State.setBox_pending (s : State) (m : Nat) (b : Mailbox) : (s.setBox m b).pending = s.pending := rfl
@[simp] theorem State.setBox_line (s : State) (m : Nat) (b : Mailbox) : (s.setBox m b).line = s.line := rfl
@[simp] theorem State.setBox_calls (s : State) (m : Nat) (b : Mailbox) : (s.setBox m b).calls = s.calls := rfl
@[simp] theorem State.setBox_store (s : State) (m : Nat) (b : Mailbox) : (s.setBox m b).store = s.store := rfl
@[simp] theorem State.setBox_pressure (s : State) (m : Nat) (b : Mailbox) : (s.setBox m b).pressure = s.pressure := rfl
@[simp] theorem State.setBox_docs (s : State) (m : Nat) (b : Mailbox) : (s.setBox m b).docs = s.docs := rfl
@[simp] theorem State.setBox_journal (s : State) (m : Nat) (b : Mailbox) : (s.setBox m b).journal = s.journal := rfl
@[simp] theorem State.setBox_mail (s : State) (m : Nat) (b : Mailbox) : (s.setBox m b).mail = { s.mail with boxes := s.mail.boxes.set m b } := rfl
@[simp] theorem State.setBox_delivery (s : State) (m : Nat) (b : Mailbox) : (s.setBox m b).delivery = s.delivery := rfl
@[simp] theorem State.setBox_office (s : State) (m : Nat) (b : Mailbox) : (s.setBox m b).office = s.office := rfl
@[simp] theorem State.setBox_tables (s : State) (m : Nat) (b : Mailbox) : (s.setBox m b).tables = s.tables := rfl
@[simp] theorem State.setBox_mgmt (s : State) (m : Nat) (b : Mailbox) : (s.setBox m b).mgmt = s.mgmt := rfl
@[simp] theorem State.setBox_waiting (s : State) (m : Nat) (b : Mailbox) : (s.setBox m b).waiting = s.waiting := rfl
@[simp] theorem State.setBox_heldReset (s : State) (m : Nat) (b : Mailbox) : (s.setBox m b).heldReset = s.heldReset := rfl

@[simp] theorem State.setRecord_pending (s : State) (r : Nat) (x : PageRecord) : (s.setRecord r x).pending = s.pending := rfl
@[simp] theorem State.setRecord_line (s : State) (r : Nat) (x : PageRecord) : (s.setRecord r x).line = s.line := rfl
@[simp] theorem State.setRecord_calls (s : State) (r : Nat) (x : PageRecord) : (s.setRecord r x).calls = s.calls := rfl
@[simp] theorem State.setRecord_store (s : State) (r : Nat) (x : PageRecord) : (s.setRecord r x).store = { s.store with records := tablePut r x s.store.records } := rfl
@[simp] theorem State.setRecord_pressure (s : State) (r : Nat) (x : PageRecord) : (s.setRecord r x).pressure = s.pressure := rfl
@[simp] theorem State.setRecord_docs (s : State) (r : Nat) (x : PageRecord) : (s.setRecord r x).docs = s.docs := rfl
@[simp] theorem State.setRecord_journal (s : State) (r : Nat) (x : PageRecord) : (s.setRecord r x).journal = s.journal := rfl
@[simp] theorem State.setRecord_mail (s : State) (r : Nat) (x : PageRecord) : (s.setRecord r x).mail = s.mail := rfl
@[simp] theorem State.setRecord_delivery (s : State) (r : Nat) (x : PageRecord) : (s.setRecord r x).delivery = s.delivery := rfl
@[simp] theorem State.setRecord_office (s : State) (r : Nat) (x : PageRecord) : (s.setRecord r x).office = s.office := rfl
@[simp] theorem State.setRecord_tables (s : State) (r : Nat) (x : PageRecord) : (s.setRecord r x).tables = s.tables := rfl
@[simp] theorem State.setRecord_mgmt (s : State) (r : Nat) (x : PageRecord) : (s.setRecord r x).mgmt = s.mgmt := rfl
@[simp] theorem State.setRecord_waiting (s : State) (r : Nat) (x : PageRecord) : (s.setRecord r x).waiting = s.waiting := rfl
@[simp] theorem State.setRecord_heldReset (s : State) (r : Nat) (x : PageRecord) : (s.setRecord r x).heldReset = s.heldReset := rfl

@[simp] theorem State.setDoc_pending (s : State) (slot : Nat) (d : Doc) : (s.setDoc slot d).pending = s.pending := rfl
@[simp] theorem State.setDoc_line (s : State) (slot : Nat) (d : Doc) : (s.setDoc slot d).line = s.line := rfl
@[simp] theorem State.setDoc_calls (s : State) (slot : Nat) (d : Doc) : (s.setDoc slot d).calls = s.calls := rfl
@[simp] theorem State.setDoc_store (s : State) (slot : Nat) (d : Doc) : (s.setDoc slot d).store = s.store := rfl
@[simp] theorem State.setDoc_pressure (s : State) (slot : Nat) (d : Doc) : (s.setDoc slot d).pressure = s.pressure := rfl
@[simp] theorem State.setDoc_docs (s : State) (slot : Nat) (d : Doc) : (s.setDoc slot d).docs = { s.docs with slots := tablePut slot (.inUse d) s.docs.slots } := rfl
@[simp] theorem State.setDoc_journal (s : State) (slot : Nat) (d : Doc) : (s.setDoc slot d).journal = s.journal := rfl
@[simp] theorem State.setDoc_mail (s : State) (slot : Nat) (d : Doc) : (s.setDoc slot d).mail = s.mail := rfl
@[simp] theorem State.setDoc_delivery (s : State) (slot : Nat) (d : Doc) : (s.setDoc slot d).delivery = s.delivery := rfl
@[simp] theorem State.setDoc_office (s : State) (slot : Nat) (d : Doc) : (s.setDoc slot d).office = s.office := rfl
@[simp] theorem State.setDoc_tables (s : State) (slot : Nat) (d : Doc) : (s.setDoc slot d).tables = s.tables := rfl
@[simp] theorem State.setDoc_mgmt (s : State) (slot : Nat) (d : Doc) : (s.setDoc slot d).mgmt = s.mgmt := rfl
@[simp] theorem State.setDoc_waiting (s : State) (slot : Nat) (d : Doc) : (s.setDoc slot d).waiting = s.waiting := rfl
@[simp] theorem State.setDoc_heldReset (s : State) (slot : Nat) (d : Doc) : (s.setDoc slot d).heldReset = s.heldReset := rfl

theorem State.channel_setChannel (s : State) (ch : Nat) (c : Channel) (h : ch < s.calls.channels.length) :
    (s.setChannel ch c).channel ch = c := by simp [State.channel, h]

theorem State.channel_setChannel_ne (s : State) (ch k : Nat) (c : Channel) (h : ch ≠ k) :
    (s.setChannel ch c).channel k = s.channel k := by simp [State.channel, List.getElem?_set_ne h]

theorem State.lane_setLane (s : State) (i : Nat) (l : Lane) (h : i < s.delivery.lanes.length) :
    (s.setLane i l).lane i = l := by simp [State.lane, h]

theorem State.lane_setLane_ne (s : State) (i k : Nat) (l : Lane) (h : i ≠ k) :
    (s.setLane i l).lane k = s.lane k := by simp [State.lane, List.getElem?_set_ne h]

theorem State.point_setPoint (s : State) (p : Nat) (x : Point) (h : p - 1 < s.delivery.points.length) :
    (s.setPoint p x).point p = x := by simp [State.point, h]

theorem State.box_setBox (s : State) (m : Nat) (b : Mailbox) (h : m < s.mail.boxes.length) :
    (s.setBox m b).box m = b := by simp [State.box, h]

@[simp] theorem tableGet_tablePut {α : Type} (k : Nat) (v : α) (l : List (Nat × α)) :
    tableGet k (tablePut k v l) = some v := by
  induction l with
  | nil => simp [tablePut, tableGet]
  | cons e t ih => unfold tablePut; split <;> [simp [tableGet]; skip]; split <;> simp_all [tableGet, eq_comm]

theorem tableGet_tablePut_ne {α : Type} (k j : Nat) (v : α) (l : List (Nat × α)) (h : k ≠ j) :
    tableGet j (tablePut k v l) = tableGet j l := by
  induction l with
  | nil => simp [tablePut, tableGet, h]
  | cons e t ih =>
    unfold tablePut
    split
    · simp [tableGet, h]
    · split
      · next h1 h2 => subst h2; simp [tableGet, h]
      · simp [tableGet, ih]

theorem State.doc_setDoc (s : State) (slot : Nat) (d : Doc) : (s.setDoc slot d).doc slot = some d := by
  simp [State.doc, DocSlot.doc]

theorem State.doc_setDoc_ne (s : State) (slot k : Nat) (d : Doc) (h : slot ≠ k) :
    (s.setDoc slot d).doc k = s.doc k := by simp [State.doc, tableGet_tablePut_ne _ _ _ _ h]

theorem State.record_setRecord (s : State) (r : Nat) (x : PageRecord) : (s.setRecord r x).record r = some x := by
  simp [State.record]

/-- A command that is not held in reset has its effect. -/
theorem act_live (f : State → State) (s : State) (h : s.heldReset = none) : act f s = .next (f s) := by
  simp [act, h]

/-- While the reset input is asserted a command changes nothing. -/
theorem act_held (f : State → State) (s : State) (h : s.heldReset.isSome = true) : act f s = .next s := by
  simp [act, h]

end Sys2Proof.Machine
end

