-- ==== Sys2Proof/Laws/Frames.lean ====
section
/-! SUPPORT. What each operation of the machine leaves as it is: one lemma for each operation, the fields of State it
never changes, so that no proof about one block unfolds the operations of another. -/

namespace Sys2Proof.Machine

@[simp] theorem State.advance_frame (s : State) (n : Nat) :
    (s.advance n).pending = s.pending ∧ (s.advance n).line = s.line ∧ (s.advance n).calls = s.calls ∧ (s.advance n).store = s.store ∧ (s.advance n).pressure = s.pressure ∧ (s.advance n).docs = s.docs ∧ (s.advance n).journal = s.journal ∧ (s.advance n).mail = s.mail ∧ (s.advance n).delivery = s.delivery ∧ (s.advance n).office = s.office ∧ (s.advance n).tables = s.tables ∧ (s.advance n).waiting = s.waiting ∧ (s.advance n).heldReset = s.heldReset := by
  refine ⟨?_, ?_, ?_, ?_, ?_, ?_, ?_, ?_, ?_, ?_, ?_, ?_, ?_⟩ <;> (unfold State.advance; first | (simp; done) | ((repeat' split) <;> simp; done) | (dsimp only; (repeat' split) <;> simp; done) | (dsimp only; simp; (repeat' split) <;> simp; done))

@[simp] theorem State.advanceTo_frame (s : State) (d : Nat) :
    (s.advanceTo d).pending = s.pending ∧ (s.advanceTo d).line = s.line ∧ (s.advanceTo d).calls = s.calls ∧ (s.advanceTo d).store = s.store ∧ (s.advanceTo d).pressure = s.pressure ∧ (s.advanceTo d).docs = s.docs ∧ (s.advanceTo d).journal = s.journal ∧ (s.advanceTo d).mail = s.mail ∧ (s.advanceTo d).delivery = s.delivery ∧ (s.advanceTo d).office = s.office ∧ (s.advanceTo d).tables = s.tables ∧ (s.advanceTo d).waiting = s.waiting ∧ (s.advanceTo d).heldReset = s.heldReset := by
  refine ⟨?_, ?_, ?_, ?_, ?_, ?_, ?_, ?_, ?_, ?_, ?_, ?_, ?_⟩ <;> (unfold State.advanceTo; first | (simp; done) | ((repeat' split) <;> simp; done) | (dsimp only; (repeat' split) <;> simp; done) | (dsimp only; simp; (repeat' split) <;> simp; done))

@[simp] theorem State.raise_frame (s : State) (src : Source) (o : Occurrence) :
    (s.raise src o).pending = s.pending ∧ (s.raise src o).line = s.line ∧ (s.raise src o).calls = s.calls ∧ (s.raise src o).store = s.store ∧ (s.raise src o).pressure = s.pressure ∧ (s.raise src o).docs = s.docs ∧ (s.raise src o).journal = s.journal ∧ (s.raise src o).mail = s.mail ∧ (s.raise src o).delivery = s.delivery ∧ (s.raise src o).office = s.office ∧ (s.raise src o).tables = s.tables ∧ (s.raise src o).mgmt = s.mgmt ∧ (s.raise src o).heldReset = s.heldReset := by
  refine ⟨?_, ?_, ?_, ?_, ?_, ?_, ?_, ?_, ?_, ?_, ?_, ?_, ?_⟩ <;> (unfold State.raise; first | (simp; done) | ((repeat' split) <;> simp; done) | (dsimp only; (repeat' split) <;> simp; done) | (dsimp only; simp; (repeat' split) <;> simp; done))

@[simp] theorem State.trigger_frame (s : State) (t : Trigger) :
    (s.trigger t).pending = s.pending ∧ (s.trigger t).line = s.line ∧ (s.trigger t).calls = s.calls ∧ (s.trigger t).store = s.store ∧ (s.trigger t).pressure = s.pressure ∧ (s.trigger t).docs = s.docs ∧ (s.trigger t).journal = s.journal ∧ (s.trigger t).mail = s.mail ∧ (s.trigger t).delivery = s.delivery ∧ (s.trigger t).office = s.office ∧ (s.trigger t).tables = s.tables ∧ (s.trigger t).mgmt = s.mgmt ∧ (s.trigger t).heldReset = s.heldReset := by
  refine ⟨?_, ?_, ?_, ?_, ?_, ?_, ?_, ?_, ?_, ?_, ?_, ?_, ?_⟩ <;> (unfold State.trigger; first | (simp; done) | ((repeat' split) <;> simp; done) | (dsimp only; (repeat' split) <;> simp; done) | (dsimp only; simp; (repeat' split) <;> simp; done))

@[simp] theorem State.portReport_frame (s : State) (r : PortReport) :
    (s.portReport r).pending = s.pending ∧ (s.portReport r).line = s.line ∧ (s.portReport r).calls = s.calls ∧ (s.portReport r).store = s.store ∧ (s.portReport r).pressure = s.pressure ∧ (s.portReport r).docs = s.docs ∧ (s.portReport r).journal = s.journal ∧ (s.portReport r).mail = s.mail ∧ (s.portReport r).delivery = s.delivery ∧ (s.portReport r).office = s.office ∧ (s.portReport r).tables = s.tables ∧ (s.portReport r).mgmt = s.mgmt ∧ (s.portReport r).heldReset = s.heldReset := by
  refine ⟨?_, ?_, ?_, ?_, ?_, ?_, ?_, ?_, ?_, ?_, ?_, ?_, ?_⟩ <;> (unfold State.portReport; first | (simp; done) | ((repeat' split) <;> simp; done) | (dsimp only; (repeat' split) <;> simp; done) | (dsimp only; simp; (repeat' split) <;> simp; done))

@[simp] theorem State.setChannel_frame (s : State) (ch : Nat) (c : Channel) :
    (s.setChannel ch c).pending = s.pending ∧ (s.setChannel ch c).line = s.line ∧ (s.setChannel ch c).store = s.store ∧ (s.setChannel ch c).pressure = s.pressure ∧ (s.setChannel ch c).docs = s.docs ∧ (s.setChannel ch c).journal = s.journal ∧ (s.setChannel ch c).mail = s.mail ∧ (s.setChannel ch c).delivery = s.delivery ∧ (s.setChannel ch c).office = s.office ∧ (s.setChannel ch c).tables = s.tables ∧ (s.setChannel ch c).mgmt = s.mgmt ∧ (s.setChannel ch c).waiting = s.waiting ∧ (s.setChannel ch c).heldReset = s.heldReset := by
  refine ⟨?_, ?_, ?_, ?_, ?_, ?_, ?_, ?_, ?_, ?_, ?_, ?_, ?_⟩ <;> (unfold State.setChannel; first | (simp; done) | ((repeat' split) <;> simp; done) | (dsimp only; (repeat' split) <;> simp; done) | (dsimp only; simp; (repeat' split) <;> simp; done))

@[simp] theorem State.setLane_frame (s : State) (i : Nat) (l : Lane) :
    (s.setLane i l).pending = s.pending ∧ (s.setLane i l).line = s.line ∧ (s.setLane i l).calls = s.calls ∧ (s.setLane i l).store = s.store ∧ (s.setLane i l).pressure = s.pressure ∧ (s.setLane i l).docs = s.docs ∧ (s.setLane i l).journal = s.journal ∧ (s.setLane i l).mail = s.mail ∧ (s.setLane i l).office = s.office ∧ (s.setLane i l).tables = s.tables ∧ (s.setLane i l).mgmt = s.mgmt ∧ (s.setLane i l).waiting = s.waiting ∧ (s.setLane i l).heldReset = s.heldReset := by
  refine ⟨?_, ?_, ?_, ?_, ?_, ?_, ?_, ?_, ?_, ?_, ?_, ?_, ?_⟩ <;> (unfold State.setLane; first | (simp; done) | ((repeat' split) <;> simp; done) | (dsimp only; (repeat' split) <;> simp; done) | (dsimp only; simp; (repeat' split) <;> simp; done))

@[simp] theorem State.setPoint_frame (s : State) (p : Nat) (x : Point) :
    (s.setPoint p x).pending = s.pending ∧ (s.setPoint p x).line = s.line ∧ (s.setPoint p x).calls = s.calls ∧ (s.setPoint p x).store = s.store ∧ (s.setPoint p x).pressure = s.pressure ∧ (s.setPoint p x).docs = s.docs ∧ (s.setPoint p x).journal = s.journal ∧ (s.setPoint p x).mail = s.mail ∧ (s.setPoint p x).office = s.office ∧ (s.setPoint p x).tables = s.tables ∧ (s.setPoint p x).mgmt = s.mgmt ∧ (s.setPoint p x).waiting = s.waiting ∧ (s.setPoint p x).heldReset = s.heldReset := by
  refine ⟨?_, ?_, ?_, ?_, ?_, ?_, ?_, ?_, ?_, ?_, ?_, ?_, ?_⟩ <;> (unfold State.setPoint; first | (simp; done) | ((repeat' split) <;> simp; done) | (dsimp only; (repeat' split) <;> simp; done) | (dsimp only; simp; (repeat' split) <;> simp; done))

@[simp] theorem State.setBox_frame (s : State) (m : Nat) (b : Mailbox) :
    (s.setBox m b).pending = s.pending ∧ (s.setBox m b).line = s.line ∧ (s.setBox m b).calls = s.calls ∧ (s.setBox m b).store = s.store ∧ (s.setBox m b).pressure = s.pressure ∧ (s.setBox m b).docs = s.docs ∧ (s.setBox m b).journal = s.journal ∧ (s.setBox m b).delivery = s.delivery ∧ (s.setBox m b).office = s.office ∧ (s.setBox m b).tables = s.tables ∧ (s.setBox m b).mgmt = s.mgmt ∧ (s.setBox m b).waiting = s.waiting ∧ (s.setBox m b).heldReset = s.heldReset := by
  refine ⟨?_, ?_, ?_, ?_, ?_, ?_, ?_, ?_, ?_, ?_, ?_, ?_, ?_⟩ <;> (unfold State.setBox; first | (simp; done) | ((repeat' split) <;> simp; done) | (dsimp only; (repeat' split) <;> simp; done) | (dsimp only; simp; (repeat' split) <;> simp; done))

@[simp] theorem State.setRecord_frame (s : State) (r : Nat) (x : PageRecord) :
    (s.setRecord r x).pending = s.pending ∧ (s.setRecord r x).line = s.line ∧ (s.setRecord r x).calls = s.calls ∧ (s.setRecord r x).pressure = s.pressure ∧ (s.setRecord r x).docs = s.docs ∧ (s.setRecord r x).journal = s.journal ∧ (s.setRecord r x).mail = s.mail ∧ (s.setRecord r x).delivery = s.delivery ∧ (s.setRecord r x).office = s.office ∧ (s.setRecord r x).tables = s.tables ∧ (s.setRecord r x).mgmt = s.mgmt ∧ (s.setRecord r x).waiting = s.waiting ∧ (s.setRecord r x).heldReset = s.heldReset := by
  refine ⟨?_, ?_, ?_, ?_, ?_, ?_, ?_, ?_, ?_, ?_, ?_, ?_, ?_⟩ <;> (unfold State.setRecord; first | (simp; done) | ((repeat' split) <;> simp; done) | (dsimp only; (repeat' split) <;> simp; done) | (dsimp only; simp; (repeat' split) <;> simp; done))

@[simp] theorem State.setDoc_frame (s : State) (slot : Nat) (d : Doc) :
    (s.setDoc slot d).pending = s.pending ∧ (s.setDoc slot d).line = s.line ∧ (s.setDoc slot d).calls = s.calls ∧ (s.setDoc slot d).store = s.store ∧ (s.setDoc slot d).pressure = s.pressure ∧ (s.setDoc slot d).journal = s.journal ∧ (s.setDoc slot d).mail = s.mail ∧ (s.setDoc slot d).delivery = s.delivery ∧ (s.setDoc slot d).office = s.office ∧ (s.setDoc slot d).tables = s.tables ∧ (s.setDoc slot d).mgmt = s.mgmt ∧ (s.setDoc slot d).waiting = s.waiting ∧ (s.setDoc slot d).heldReset = s.heldReset := by
  refine ⟨?_, ?_, ?_, ?_, ?_, ?_, ?_, ?_, ?_, ?_, ?_, ?_, ?_⟩ <;> (unfold State.setDoc; first | (simp; done) | ((repeat' split) <;> simp; done) | (dsimp only; (repeat' split) <;> simp; done) | (dsimp only; simp; (repeat' split) <;> simp; done))

@[simp] theorem State.pressureMoved_frame (s : State) (before after : Level) (free : Nat) :
    (s.pressureMoved before after free).pending = s.pending ∧ (s.pressureMoved before after free).line = s.line ∧ (s.pressureMoved before after free).calls = s.calls ∧ (s.pressureMoved before after free).store = s.store ∧ (s.pressureMoved before after free).pressure = s.pressure ∧ (s.pressureMoved before after free).docs = s.docs ∧ (s.pressureMoved before after free).journal = s.journal ∧ (s.pressureMoved before after free).mail = s.mail ∧ (s.pressureMoved before after free).delivery = s.delivery ∧ (s.pressureMoved before after free).office = s.office ∧ (s.pressureMoved before after free).tables = s.tables ∧ (s.pressureMoved before after free).mgmt = s.mgmt ∧ (s.pressureMoved before after free).heldReset = s.heldReset := by
  refine ⟨?_, ?_, ?_, ?_, ?_, ?_, ?_, ?_, ?_, ?_, ?_, ?_, ?_⟩ <;> (unfold State.pressureMoved; first | (simp; done) | ((repeat' split) <;> simp; done) | (dsimp only; (repeat' split) <;> simp; done) | (dsimp only; simp; (repeat' split) <;> simp; done))

@[simp] theorem State.releaseAsked_frame (s : State) (level : Level) :
    (s.releaseAsked level).pending = s.pending ∧ (s.releaseAsked level).line = s.line ∧ (s.releaseAsked level).calls = s.calls ∧ (s.releaseAsked level).store = s.store ∧ (s.releaseAsked level).pressure = s.pressure ∧ (s.releaseAsked level).docs = s.docs ∧ (s.releaseAsked level).journal = s.journal ∧ (s.releaseAsked level).mail = s.mail ∧ (s.releaseAsked level).delivery = s.delivery ∧ (s.releaseAsked level).office = s.office ∧ (s.releaseAsked level).tables = s.tables ∧ (s.releaseAsked level).mgmt = s.mgmt ∧ (s.releaseAsked level).heldReset = s.heldReset := by
  refine ⟨?_, ?_, ?_, ?_, ?_, ?_, ?_, ?_, ?_, ?_, ?_, ?_, ?_⟩ <;> (unfold State.releaseAsked; first | (simp; done) | ((repeat' split) <;> simp; done) | (dsimp only; (repeat' split) <;> simp; done) | (dsimp only; simp; (repeat' split) <;> simp; done))

@[simp] theorem State.evaluate_frame (s : State) :
    (s.evaluate).pending = s.pending ∧ (s.evaluate).line = s.line ∧ (s.evaluate).calls = s.calls ∧ (s.evaluate).store = s.store ∧ (s.evaluate).docs = s.docs ∧ (s.evaluate).journal = s.journal ∧ (s.evaluate).mail = s.mail ∧ (s.evaluate).delivery = s.delivery ∧ (s.evaluate).office = s.office ∧ (s.evaluate).tables = s.tables ∧ (s.evaluate).mgmt = s.mgmt ∧ (s.evaluate).heldReset = s.heldReset := by
  refine ⟨?_, ?_, ?_, ?_, ?_, ?_, ?_, ?_, ?_, ?_, ?_, ?_⟩ <;> (unfold State.evaluate; first | (simp; done) | ((repeat' split) <;> simp; done) | (dsimp only; (repeat' split) <;> simp; done) | (dsimp only; simp; (repeat' split) <;> simp; done))

@[simp] theorem State.pressureChange_frame (s : State) (p : PressureParams) :
    (s.pressureChange p).pending = s.pending ∧ (s.pressureChange p).line = s.line ∧ (s.pressureChange p).calls = s.calls ∧ (s.pressureChange p).store = s.store ∧ (s.pressureChange p).docs = s.docs ∧ (s.pressureChange p).journal = s.journal ∧ (s.pressureChange p).mail = s.mail ∧ (s.pressureChange p).delivery = s.delivery ∧ (s.pressureChange p).office = s.office ∧ (s.pressureChange p).tables = s.tables ∧ (s.pressureChange p).mgmt = s.mgmt ∧ (s.pressureChange p).heldReset = s.heldReset := by
  refine ⟨?_, ?_, ?_, ?_, ?_, ?_, ?_, ?_, ?_, ?_, ?_, ?_⟩ <;> (unfold State.pressureChange; first | (simp; done) | ((repeat' split) <;> simp; done) | (dsimp only; (repeat' split) <;> simp; done) | (dsimp only; simp; (repeat' split) <;> simp; done))

@[simp] theorem State.releaseBlocks_frame (s : State) (blocks : List Nat) :
    (s.releaseBlocks blocks).pending = s.pending ∧ (s.releaseBlocks blocks).line = s.line ∧ (s.releaseBlocks blocks).calls = s.calls ∧ (s.releaseBlocks blocks).docs = s.docs ∧ (s.releaseBlocks blocks).journal = s.journal ∧ (s.releaseBlocks blocks).mail = s.mail ∧ (s.releaseBlocks blocks).delivery = s.delivery ∧ (s.releaseBlocks blocks).office = s.office ∧ (s.releaseBlocks blocks).tables = s.tables ∧ (s.releaseBlocks blocks).mgmt = s.mgmt ∧ (s.releaseBlocks blocks).heldReset = s.heldReset := by
  refine ⟨?_, ?_, ?_, ?_, ?_, ?_, ?_, ?_, ?_, ?_, ?_⟩ <;> (unfold State.releaseBlocks; first | (simp; done) | ((repeat' split) <;> simp; done) | (dsimp only; (repeat' split) <;> simp; done) | (dsimp only; simp; (repeat' split) <;> simp; done))

theorem State.beginWrite_frame (s : State) (ch : Nat) (buf : BufId) (r : Nat) (x : PageRecord) (t : State) (h : s.beginWrite ch buf r x = some t) :
    t.pending = s.pending ∧ t.line = s.line ∧ t.calls = s.calls ∧ t.docs = s.docs ∧ t.journal = s.journal ∧ t.mail = s.mail ∧ t.delivery = s.delivery ∧ t.office = s.office ∧ t.tables = s.tables ∧ t.mgmt = s.mgmt ∧ t.heldReset = s.heldReset := by
  unfold State.beginWrite at h; (repeat' split at h) <;> simp_all <;> (try (obtain ⟨_, h⟩ := h)) <;> (try subst h) <;> simp

@[simp] theorem State.dropRecord_frame (s : State) (r : Nat) :
    (s.dropRecord r).pending = s.pending ∧ (s.dropRecord r).line = s.line ∧ (s.dropRecord r).calls = s.calls ∧ (s.dropRecord r).pressure = s.pressure ∧ (s.dropRecord r).docs = s.docs ∧ (s.dropRecord r).journal = s.journal ∧ (s.dropRecord r).mail = s.mail ∧ (s.dropRecord r).delivery = s.delivery ∧ (s.dropRecord r).office = s.office ∧ (s.dropRecord r).tables = s.tables ∧ (s.dropRecord r).mgmt = s.mgmt ∧ (s.dropRecord r).waiting = s.waiting ∧ (s.dropRecord r).heldReset = s.heldReset := by
  refine ⟨?_, ?_, ?_, ?_, ?_, ?_, ?_, ?_, ?_, ?_, ?_, ?_, ?_⟩ <;> (unfold State.dropRecord; first | (simp; done) | ((repeat' split) <;> simp; done) | (dsimp only; (repeat' split) <;> simp; done) | (dsimp only; simp; (repeat' split) <;> simp; done))

@[simp] theorem State.discardPage_frame (s : State) (r : Nat) :
    (s.discardPage r).pending = s.pending ∧ (s.discardPage r).line = s.line ∧ (s.discardPage r).calls = s.calls ∧ (s.discardPage r).docs = s.docs ∧ (s.discardPage r).journal = s.journal ∧ (s.discardPage r).mail = s.mail ∧ (s.discardPage r).delivery = s.delivery ∧ (s.discardPage r).office = s.office ∧ (s.discardPage r).tables = s.tables ∧ (s.discardPage r).mgmt = s.mgmt ∧ (s.discardPage r).heldReset = s.heldReset := by
  refine ⟨?_, ?_, ?_, ?_, ?_, ?_, ?_, ?_, ?_, ?_, ?_⟩ <;> (unfold State.discardPage; first | (simp; done) | ((repeat' split) <;> simp; done) | (dsimp only; (repeat' split) <;> simp; done) | (dsimp only; simp; (repeat' split) <;> simp; done))

@[simp] theorem State.beginRead_frame (s : State) (lane record pos receipt : Nat) :
    (s.beginRead lane record pos receipt).pending = s.pending ∧ (s.beginRead lane record pos receipt).line = s.line ∧ (s.beginRead lane record pos receipt).calls = s.calls ∧ (s.beginRead lane record pos receipt).pressure = s.pressure ∧ (s.beginRead lane record pos receipt).docs = s.docs ∧ (s.beginRead lane record pos receipt).journal = s.journal ∧ (s.beginRead lane record pos receipt).mail = s.mail ∧ (s.beginRead lane record pos receipt).delivery = s.delivery ∧ (s.beginRead lane record pos receipt).office = s.office ∧ (s.beginRead lane record pos receipt).tables = s.tables ∧ (s.beginRead lane record pos receipt).mgmt = s.mgmt ∧ (s.beginRead lane record pos receipt).waiting = s.waiting ∧ (s.beginRead lane record pos receipt).heldReset = s.heldReset := by
  refine ⟨?_, ?_, ?_, ?_, ?_, ?_, ?_, ?_, ?_, ?_, ?_, ?_, ?_⟩ <;> (unfold State.beginRead; first | (simp; done) | ((repeat' split) <;> simp; done) | (dsimp only; (repeat' split) <;> simp; done) | (dsimp only; simp; (repeat' split) <;> simp; done))

@[simp] theorem State.portDone_frame (s : State) :
    (s.portDone).pending = s.pending ∧ (s.portDone).line = s.line ∧ (s.portDone).calls = s.calls ∧ (s.portDone).pressure = s.pressure ∧ (s.portDone).docs = s.docs ∧ (s.portDone).journal = s.journal ∧ (s.portDone).mail = s.mail ∧ (s.portDone).delivery = s.delivery ∧ (s.portDone).office = s.office ∧ (s.portDone).tables = s.tables ∧ (s.portDone).mgmt = s.mgmt ∧ (s.portDone).waiting = s.waiting ∧ (s.portDone).heldReset = s.heldReset := by
  refine ⟨?_, ?_, ?_, ?_, ?_, ?_, ?_, ?_, ?_, ?_, ?_, ?_, ?_⟩ <;> (unfold State.portDone; first | (simp; done) | ((repeat' split) <;> simp; done) | (dsimp only; (repeat' split) <;> simp; done) | (dsimp only; simp; (repeat' split) <;> simp; done))

@[simp] theorem State.storeBlock_frame (s : State) (b : Nat) (bytes : List Byte) :
    (s.storeBlock b bytes).pending = s.pending ∧ (s.storeBlock b bytes).line = s.line ∧ (s.storeBlock b bytes).calls = s.calls ∧ (s.storeBlock b bytes).pressure = s.pressure ∧ (s.storeBlock b bytes).docs = s.docs ∧ (s.storeBlock b bytes).journal = s.journal ∧ (s.storeBlock b bytes).mail = s.mail ∧ (s.storeBlock b bytes).delivery = s.delivery ∧ (s.storeBlock b bytes).office = s.office ∧ (s.storeBlock b bytes).tables = s.tables ∧ (s.storeBlock b bytes).mgmt = s.mgmt ∧ (s.storeBlock b bytes).waiting = s.waiting ∧ (s.storeBlock b bytes).heldReset = s.heldReset := by
  refine ⟨?_, ?_, ?_, ?_, ?_, ?_, ?_, ?_, ?_, ?_, ?_, ?_, ?_⟩ <;> (unfold State.storeBlock; first | (simp; done) | ((repeat' split) <;> simp; done) | (dsimp only; (repeat' split) <;> simp; done) | (dsimp only; simp; (repeat' split) <;> simp; done))

@[simp] theorem State.decayBlock_frame (s : State) (b : Nat) (cells : List (Nat × Byte)) :
    (s.decayBlock b cells).pending = s.pending ∧ (s.decayBlock b cells).line = s.line ∧ (s.decayBlock b cells).calls = s.calls ∧ (s.decayBlock b cells).pressure = s.pressure ∧ (s.decayBlock b cells).docs = s.docs ∧ (s.decayBlock b cells).journal = s.journal ∧ (s.decayBlock b cells).mail = s.mail ∧ (s.decayBlock b cells).delivery = s.delivery ∧ (s.decayBlock b cells).office = s.office ∧ (s.decayBlock b cells).tables = s.tables ∧ (s.decayBlock b cells).mgmt = s.mgmt ∧ (s.decayBlock b cells).waiting = s.waiting ∧ (s.decayBlock b cells).heldReset = s.heldReset := by
  refine ⟨?_, ?_, ?_, ?_, ?_, ?_, ?_, ?_, ?_, ?_, ?_, ?_, ?_⟩ <;> (unfold State.decayBlock; first | (simp; done) | ((repeat' split) <;> simp; done) | (dsimp only; (repeat' split) <;> simp; done) | (dsimp only; simp; (repeat' split) <;> simp; done))

@[simp] theorem State.growRecord_frame (s : State) (r n : Nat) :
    (s.growRecord r n).pending = s.pending ∧ (s.growRecord r n).line = s.line ∧ (s.growRecord r n).calls = s.calls ∧ (s.growRecord r n).pressure = s.pressure ∧ (s.growRecord r n).docs = s.docs ∧ (s.growRecord r n).journal = s.journal ∧ (s.growRecord r n).mail = s.mail ∧ (s.growRecord r n).delivery = s.delivery ∧ (s.growRecord r n).office = s.office ∧ (s.growRecord r n).tables = s.tables ∧ (s.growRecord r n).mgmt = s.mgmt ∧ (s.growRecord r n).waiting = s.waiting ∧ (s.growRecord r n).heldReset = s.heldReset := by
  refine ⟨?_, ?_, ?_, ?_, ?_, ?_, ?_, ?_, ?_, ?_, ?_, ?_, ?_⟩ <;> (unfold State.growRecord; first | (simp; done) | ((repeat' split) <;> simp; done) | (dsimp only; (repeat' split) <;> simp; done) | (dsimp only; simp; (repeat' split) <;> simp; done))

@[simp] theorem State.heldUp_frame (s : State) (m n : Nat) :
    (s.heldUp m n).pending = s.pending ∧ (s.heldUp m n).line = s.line ∧ (s.heldUp m n).calls = s.calls ∧ (s.heldUp m n).store = s.store ∧ (s.heldUp m n).pressure = s.pressure ∧ (s.heldUp m n).docs = s.docs ∧ (s.heldUp m n).journal = s.journal ∧ (s.heldUp m n).delivery = s.delivery ∧ (s.heldUp m n).office = s.office ∧ (s.heldUp m n).tables = s.tables ∧ (s.heldUp m n).mgmt = s.mgmt ∧ (s.heldUp m n).waiting = s.waiting ∧ (s.heldUp m n).heldReset = s.heldReset := by
  refine ⟨?_, ?_, ?_, ?_, ?_, ?_, ?_, ?_, ?_, ?_, ?_, ?_, ?_⟩ <;> (unfold State.heldUp; first | (simp; done) | ((repeat' split) <;> simp; done) | (dsimp only; (repeat' split) <;> simp; done) | (dsimp only; simp; (repeat' split) <;> simp; done))

@[simp] theorem State.heldDown_frame (s : State) (m n : Nat) :
    (s.heldDown m n).pending = s.pending ∧ (s.heldDown m n).line = s.line ∧ (s.heldDown m n).calls = s.calls ∧ (s.heldDown m n).store = s.store ∧ (s.heldDown m n).pressure = s.pressure ∧ (s.heldDown m n).docs = s.docs ∧ (s.heldDown m n).journal = s.journal ∧ (s.heldDown m n).delivery = s.delivery ∧ (s.heldDown m n).office = s.office ∧ (s.heldDown m n).tables = s.tables ∧ (s.heldDown m n).mgmt = s.mgmt ∧ (s.heldDown m n).waiting = s.waiting ∧ (s.heldDown m n).heldReset = s.heldReset := by
  refine ⟨?_, ?_, ?_, ?_, ?_, ?_, ?_, ?_, ?_, ?_, ?_, ?_, ?_⟩ <;> (unfold State.heldDown; first | (simp; done) | ((repeat' split) <;> simp; done) | (dsimp only; (repeat' split) <;> simp; done) | (dsimp only; simp; (repeat' split) <;> simp; done))

@[simp] theorem State.headReport_frame (s : State) (m : Nat) (before after : Option Nat) :
    (s.headReport m before after).pending = s.pending ∧ (s.headReport m before after).line = s.line ∧ (s.headReport m before after).calls = s.calls ∧ (s.headReport m before after).store = s.store ∧ (s.headReport m before after).pressure = s.pressure ∧ (s.headReport m before after).docs = s.docs ∧ (s.headReport m before after).journal = s.journal ∧ (s.headReport m before after).mail = s.mail ∧ (s.headReport m before after).delivery = s.delivery ∧ (s.headReport m before after).office = s.office ∧ (s.headReport m before after).tables = s.tables ∧ (s.headReport m before after).mgmt = s.mgmt ∧ (s.headReport m before after).heldReset = s.heldReset := by
  refine ⟨?_, ?_, ?_, ?_, ?_, ?_, ?_, ?_, ?_, ?_, ?_, ?_, ?_⟩ <;> (unfold State.headReport; first | (simp; done) | ((repeat' split) <;> simp; done) | (dsimp only; (repeat' split) <;> simp; done) | (dsimp only; simp; (repeat' split) <;> simp; done))

@[simp] theorem State.flagReport_frame (s : State) (m : Nat) (before : Bool) :
    (s.flagReport m before).pending = s.pending ∧ (s.flagReport m before).line = s.line ∧ (s.flagReport m before).calls = s.calls ∧ (s.flagReport m before).store = s.store ∧ (s.flagReport m before).pressure = s.pressure ∧ (s.flagReport m before).docs = s.docs ∧ (s.flagReport m before).journal = s.journal ∧ (s.flagReport m before).mail = s.mail ∧ (s.flagReport m before).delivery = s.delivery ∧ (s.flagReport m before).office = s.office ∧ (s.flagReport m before).tables = s.tables ∧ (s.flagReport m before).mgmt = s.mgmt ∧ (s.flagReport m before).heldReset = s.heldReset := by
  refine ⟨?_, ?_, ?_, ?_, ?_, ?_, ?_, ?_, ?_, ?_, ?_, ?_, ?_⟩ <;> (unfold State.flagReport; split <;> simp)

@[simp] theorem State.setQueue_frame (s : State) (m : Nat) (queue : List Nat) :
    (s.setQueue m queue).pending = s.pending ∧ (s.setQueue m queue).line = s.line ∧ (s.setQueue m queue).calls = s.calls ∧ (s.setQueue m queue).store = s.store ∧ (s.setQueue m queue).pressure = s.pressure ∧ (s.setQueue m queue).docs = s.docs ∧ (s.setQueue m queue).journal = s.journal ∧ (s.setQueue m queue).delivery = s.delivery ∧ (s.setQueue m queue).office = s.office ∧ (s.setQueue m queue).tables = s.tables ∧ (s.setQueue m queue).mgmt = s.mgmt ∧ (s.setQueue m queue).heldReset = s.heldReset := by
  refine ⟨?_, ?_, ?_, ?_, ?_, ?_, ?_, ?_, ?_, ?_, ?_, ?_⟩ <;> (unfold State.setQueue; first | (simp; done) | ((repeat' split) <;> simp; done) | (dsimp only; (repeat' split) <;> simp; done) | (dsimp only; simp; (repeat' split) <;> simp; done))

@[simp] theorem State.queueTail_frame (s : State) (m slot : Nat) :
    (s.queueTail m slot).pending = s.pending ∧ (s.queueTail m slot).line = s.line ∧ (s.queueTail m slot).calls = s.calls ∧ (s.queueTail m slot).store = s.store ∧ (s.queueTail m slot).pressure = s.pressure ∧ (s.queueTail m slot).docs = s.docs ∧ (s.queueTail m slot).journal = s.journal ∧ (s.queueTail m slot).delivery = s.delivery ∧ (s.queueTail m slot).office = s.office ∧ (s.queueTail m slot).tables = s.tables ∧ (s.queueTail m slot).mgmt = s.mgmt ∧ (s.queueTail m slot).heldReset = s.heldReset := by
  refine ⟨?_, ?_, ?_, ?_, ?_, ?_, ?_, ?_, ?_, ?_, ?_, ?_⟩ <;> (unfold State.queueTail; first | (simp; done) | ((repeat' split) <;> simp; done) | (dsimp only; (repeat' split) <;> simp; done) | (dsimp only; simp; (repeat' split) <;> simp; done))

@[simp] theorem State.queueHead_frame (s : State) (m slot : Nat) :
    (s.queueHead m slot).pending = s.pending ∧ (s.queueHead m slot).line = s.line ∧ (s.queueHead m slot).calls = s.calls ∧ (s.queueHead m slot).store = s.store ∧ (s.queueHead m slot).pressure = s.pressure ∧ (s.queueHead m slot).docs = s.docs ∧ (s.queueHead m slot).journal = s.journal ∧ (s.queueHead m slot).delivery = s.delivery ∧ (s.queueHead m slot).office = s.office ∧ (s.queueHead m slot).tables = s.tables ∧ (s.queueHead m slot).mgmt = s.mgmt ∧ (s.queueHead m slot).heldReset = s.heldReset := by
  refine ⟨?_, ?_, ?_, ?_, ?_, ?_, ?_, ?_, ?_, ?_, ?_, ?_⟩ <;> (unfold State.queueHead; first | (simp; done) | ((repeat' split) <;> simp; done) | (dsimp only; (repeat' split) <;> simp; done) | (dsimp only; simp; (repeat' split) <;> simp; done))

@[simp] theorem State.unqueue_frame (s : State) (m slot : Nat) :
    (s.unqueue m slot).pending = s.pending ∧ (s.unqueue m slot).line = s.line ∧ (s.unqueue m slot).calls = s.calls ∧ (s.unqueue m slot).store = s.store ∧ (s.unqueue m slot).pressure = s.pressure ∧ (s.unqueue m slot).docs = s.docs ∧ (s.unqueue m slot).journal = s.journal ∧ (s.unqueue m slot).delivery = s.delivery ∧ (s.unqueue m slot).office = s.office ∧ (s.unqueue m slot).tables = s.tables ∧ (s.unqueue m slot).mgmt = s.mgmt ∧ (s.unqueue m slot).heldReset = s.heldReset := by
  refine ⟨?_, ?_, ?_, ?_, ?_, ?_, ?_, ?_, ?_, ?_, ?_, ?_⟩ <;> (unfold State.unqueue; first | (simp; done) | ((repeat' split) <;> simp; done) | (dsimp only; (repeat' split) <;> simp; done) | (dsimp only; simp; (repeat' split) <;> simp; done))

@[simp] theorem State.openBoxes_frame (s : State) (ms : List Nat) :
    (s.openBoxes ms).pending = s.pending ∧ (s.openBoxes ms).line = s.line ∧ (s.openBoxes ms).calls = s.calls ∧ (s.openBoxes ms).store = s.store ∧ (s.openBoxes ms).pressure = s.pressure ∧ (s.openBoxes ms).docs = s.docs ∧ (s.openBoxes ms).journal = s.journal ∧ (s.openBoxes ms).delivery = s.delivery ∧ (s.openBoxes ms).office = s.office ∧ (s.openBoxes ms).tables = s.tables ∧ (s.openBoxes ms).mgmt = s.mgmt ∧ (s.openBoxes ms).heldReset = s.heldReset := by
  induction ms generalizing s with
  | nil => simp [State.openBoxes]
  | cons x t ih =>
    refine ⟨?_, ?_, ?_, ?_, ?_, ?_, ?_, ?_, ?_, ?_, ?_, ?_⟩ <;> (rw [State.openBoxes]; (try dsimp only); (repeat' split) <;> simp [ih])

theorem State.claimSlot_frame (s : State) (ch : Nat) (slot : Nat) (t : State) (h : s.claimSlot ch = some (slot, t)) :
    t.pending = s.pending ∧ t.line = s.line ∧ t.calls = s.calls ∧ t.store = s.store ∧ t.pressure = s.pressure ∧ t.journal = s.journal ∧ t.mail = s.mail ∧ t.delivery = s.delivery ∧ t.office = s.office ∧ t.tables = s.tables ∧ t.mgmt = s.mgmt ∧ t.waiting = s.waiting ∧ t.heldReset = s.heldReset := by
  unfold State.claimSlot at h; (repeat' split at h) <;> simp_all <;> (try (obtain ⟨_, h⟩ := h)) <;> (try subst h) <;> simp

@[simp] theorem State.freeSlot_frame (s : State) (slot : Nat) :
    (s.freeSlot slot).pending = s.pending ∧ (s.freeSlot slot).line = s.line ∧ (s.freeSlot slot).calls = s.calls ∧ (s.freeSlot slot).store = s.store ∧ (s.freeSlot slot).pressure = s.pressure ∧ (s.freeSlot slot).journal = s.journal ∧ (s.freeSlot slot).mail = s.mail ∧ (s.freeSlot slot).delivery = s.delivery ∧ (s.freeSlot slot).office = s.office ∧ (s.freeSlot slot).tables = s.tables ∧ (s.freeSlot slot).mgmt = s.mgmt ∧ (s.freeSlot slot).waiting = s.waiting ∧ (s.freeSlot slot).heldReset = s.heldReset := by
  refine ⟨?_, ?_, ?_, ?_, ?_, ?_, ?_, ?_, ?_, ?_, ?_, ?_, ?_⟩ <;> (unfold State.freeSlot; first | (simp; done) | ((repeat' split) <;> simp; done) | (dsimp only; (repeat' split) <;> simp; done) | (dsimp only; simp; (repeat' split) <;> simp; done))

@[simp] theorem State.dropRecords_frame (s : State) (pages : List Nat) :
    (s.dropRecords pages).pending = s.pending ∧ (s.dropRecords pages).line = s.line ∧ (s.dropRecords pages).calls = s.calls ∧ (s.dropRecords pages).pressure = s.pressure ∧ (s.dropRecords pages).docs = s.docs ∧ (s.dropRecords pages).journal = s.journal ∧ (s.dropRecords pages).mail = s.mail ∧ (s.dropRecords pages).delivery = s.delivery ∧ (s.dropRecords pages).office = s.office ∧ (s.dropRecords pages).tables = s.tables ∧ (s.dropRecords pages).mgmt = s.mgmt ∧ (s.dropRecords pages).waiting = s.waiting ∧ (s.dropRecords pages).heldReset = s.heldReset := by
  refine ⟨?_, ?_, ?_, ?_, ?_, ?_, ?_, ?_, ?_, ?_, ?_, ?_, ?_⟩ <;> (unfold State.dropRecords; first | (simp; done) | ((repeat' split) <;> simp; done) | (dsimp only; (repeat' split) <;> simp; done) | (dsimp only; simp; (repeat' split) <;> simp; done))

@[simp] theorem State.leaveMailbox_frame (s : State) (slot : Nat) (d : Doc) (purged : Bool) :
    (s.leaveMailbox slot d purged).pending = s.pending ∧ (s.leaveMailbox slot d purged).line = s.line ∧ (s.leaveMailbox slot d purged).calls = s.calls ∧ (s.leaveMailbox slot d purged).store = s.store ∧ (s.leaveMailbox slot d purged).pressure = s.pressure ∧ (s.leaveMailbox slot d purged).docs = s.docs ∧ (s.leaveMailbox slot d purged).journal = s.journal ∧ (s.leaveMailbox slot d purged).delivery = s.delivery ∧ (s.leaveMailbox slot d purged).office = s.office ∧ (s.leaveMailbox slot d purged).tables = s.tables ∧ (s.leaveMailbox slot d purged).mgmt = s.mgmt ∧ (s.leaveMailbox slot d purged).heldReset = s.heldReset := by
  refine ⟨?_, ?_, ?_, ?_, ?_, ?_, ?_, ?_, ?_, ?_, ?_, ?_⟩ <;> (unfold State.leaveMailbox; first | (simp; done) | ((repeat' split) <;> simp; done) | (dsimp only; (repeat' split) <;> simp; done) | (dsimp only; simp; (repeat' split) <;> simp; done))

@[simp] theorem State.freeDoc_frame (s : State) (slot : Nat) (d : Doc) (purged : Bool) :
    (s.freeDoc slot d purged).pending = s.pending ∧ (s.freeDoc slot d purged).line = s.line ∧ (s.freeDoc slot d purged).calls = s.calls ∧ (s.freeDoc slot d purged).journal = s.journal ∧ (s.freeDoc slot d purged).delivery = s.delivery ∧ (s.freeDoc slot d purged).office = s.office ∧ (s.freeDoc slot d purged).tables = s.tables ∧ (s.freeDoc slot d purged).mgmt = s.mgmt ∧ (s.freeDoc slot d purged).heldReset = s.heldReset := by
  refine ⟨?_, ?_, ?_, ?_, ?_, ?_, ?_, ?_, ?_⟩ <;> (unfold State.freeDoc; first | (simp; done) | ((repeat' split) <;> simp; done) | (dsimp only; (repeat' split) <;> simp; done) | (dsimp only; simp; (repeat' split) <;> simp; done))

@[simp] theorem State.updDoc_frame (s : State) (slot : Nat) (f : Doc → Doc) :
    (s.updDoc slot f).pending = s.pending ∧ (s.updDoc slot f).line = s.line ∧ (s.updDoc slot f).calls = s.calls ∧ (s.updDoc slot f).store = s.store ∧ (s.updDoc slot f).pressure = s.pressure ∧ (s.updDoc slot f).journal = s.journal ∧ (s.updDoc slot f).mail = s.mail ∧ (s.updDoc slot f).delivery = s.delivery ∧ (s.updDoc slot f).office = s.office ∧ (s.updDoc slot f).tables = s.tables ∧ (s.updDoc slot f).mgmt = s.mgmt ∧ (s.updDoc slot f).waiting = s.waiting ∧ (s.updDoc slot f).heldReset = s.heldReset := by
  refine ⟨?_, ?_, ?_, ?_, ?_, ?_, ?_, ?_, ?_, ?_, ?_, ?_, ?_⟩ <;> (unfold State.updDoc; first | (simp; done) | ((repeat' split) <;> simp; done) | (dsimp only; (repeat' split) <;> simp; done) | (dsimp only; simp; (repeat' split) <;> simp; done))

@[simp] theorem State.releaseRetained_frame (s : State) :
    (s.releaseRetained).pending = s.pending ∧ (s.releaseRetained).line = s.line ∧ (s.releaseRetained).calls = s.calls ∧ (s.releaseRetained).journal = s.journal ∧ (s.releaseRetained).delivery = s.delivery ∧ (s.releaseRetained).office = s.office ∧ (s.releaseRetained).tables = s.tables ∧ (s.releaseRetained).mgmt = s.mgmt ∧ (s.releaseRetained).heldReset = s.heldReset := by
  refine ⟨?_, ?_, ?_, ?_, ?_, ?_, ?_, ?_, ?_⟩ <;> (unfold State.releaseRetained; first | (simp; done) | ((repeat' split) <;> simp; done) | (dsimp only; (repeat' split) <;> simp; done) | (dsimp only; simp; (repeat' split) <;> simp; done))

@[simp] theorem State.lowTest_frame (s : State) :
    (s.lowTest).pending = s.pending ∧ (s.lowTest).line = s.line ∧ (s.lowTest).calls = s.calls ∧ (s.lowTest).store = s.store ∧ (s.lowTest).pressure = s.pressure ∧ (s.lowTest).docs = s.docs ∧ (s.lowTest).mail = s.mail ∧ (s.lowTest).delivery = s.delivery ∧ (s.lowTest).office = s.office ∧ (s.lowTest).tables = s.tables ∧ (s.lowTest).mgmt = s.mgmt ∧ (s.lowTest).heldReset = s.heldReset := by
  refine ⟨?_, ?_, ?_, ?_, ?_, ?_, ?_, ?_, ?_, ?_, ?_, ?_⟩ <;> (unfold State.lowTest; first | (simp; done) | ((repeat' split) <;> simp; done) | (dsimp only; (repeat' split) <;> simp; done) | (dsimp only; simp; (repeat' split) <;> simp; done))

@[simp] theorem State.reserve_frame (s : State) :
    (s.reserve).pending = s.pending ∧ (s.reserve).line = s.line ∧ (s.reserve).calls = s.calls ∧ (s.reserve).store = s.store ∧ (s.reserve).pressure = s.pressure ∧ (s.reserve).docs = s.docs ∧ (s.reserve).mail = s.mail ∧ (s.reserve).delivery = s.delivery ∧ (s.reserve).office = s.office ∧ (s.reserve).tables = s.tables ∧ (s.reserve).mgmt = s.mgmt ∧ (s.reserve).heldReset = s.heldReset := by
  refine ⟨?_, ?_, ?_, ?_, ?_, ?_, ?_, ?_, ?_, ?_, ?_, ?_⟩ <;> (unfold State.reserve; first | (simp; done) | ((repeat' split) <;> simp; done) | (dsimp only; (repeat' split) <;> simp; done) | (dsimp only; simp; (repeat' split) <;> simp; done))

@[simp] theorem State.countUnrecorded_frame (s : State) :
    (s.countUnrecorded).pending = s.pending ∧ (s.countUnrecorded).line = s.line ∧ (s.countUnrecorded).calls = s.calls ∧ (s.countUnrecorded).store = s.store ∧ (s.countUnrecorded).pressure = s.pressure ∧ (s.countUnrecorded).docs = s.docs ∧ (s.countUnrecorded).mail = s.mail ∧ (s.countUnrecorded).delivery = s.delivery ∧ (s.countUnrecorded).office = s.office ∧ (s.countUnrecorded).tables = s.tables ∧ (s.countUnrecorded).mgmt = s.mgmt ∧ (s.countUnrecorded).waiting = s.waiting ∧ (s.countUnrecorded).heldReset = s.heldReset := by
  refine ⟨?_, ?_, ?_, ?_, ?_, ?_, ?_, ?_, ?_, ?_, ?_, ?_, ?_⟩ <;> (unfold State.countUnrecorded; first | (simp; done) | ((repeat' split) <;> simp; done) | (dsimp only; (repeat' split) <;> simp; done) | (dsimp only; simp; (repeat' split) <;> simp; done))

@[simp] theorem State.writeEntry_frame (s : State) (e : Entry) :
    (s.writeEntry e).pending = s.pending ∧ (s.writeEntry e).line = s.line ∧ (s.writeEntry e).calls = s.calls ∧ (s.writeEntry e).store = s.store ∧ (s.writeEntry e).pressure = s.pressure ∧ (s.writeEntry e).docs = s.docs ∧ (s.writeEntry e).mail = s.mail ∧ (s.writeEntry e).delivery = s.delivery ∧ (s.writeEntry e).office = s.office ∧ (s.writeEntry e).tables = s.tables ∧ (s.writeEntry e).mgmt = s.mgmt ∧ (s.writeEntry e).waiting = s.waiting ∧ (s.writeEntry e).heldReset = s.heldReset := by
  refine ⟨?_, ?_, ?_, ?_, ?_, ?_, ?_, ?_, ?_, ?_, ?_, ?_, ?_⟩ <;> (unfold State.writeEntry; first | (simp; done) | ((repeat' split) <;> simp; done) | (dsimp only; (repeat' split) <;> simp; done) | (dsimp only; simp; (repeat' split) <;> simp; done))

@[simp] theorem State.installLowMark_frame (s : State) (mark : Nat) :
    (s.installLowMark mark).pending = s.pending ∧ (s.installLowMark mark).line = s.line ∧ (s.installLowMark mark).calls = s.calls ∧ (s.installLowMark mark).store = s.store ∧ (s.installLowMark mark).pressure = s.pressure ∧ (s.installLowMark mark).docs = s.docs ∧ (s.installLowMark mark).mail = s.mail ∧ (s.installLowMark mark).delivery = s.delivery ∧ (s.installLowMark mark).office = s.office ∧ (s.installLowMark mark).tables = s.tables ∧ (s.installLowMark mark).mgmt = s.mgmt ∧ (s.installLowMark mark).heldReset = s.heldReset := by
  refine ⟨?_, ?_, ?_, ?_, ?_, ?_, ?_, ?_, ?_, ?_, ?_, ?_⟩ <;> (unfold State.installLowMark; first | (simp; done) | ((repeat' split) <;> simp; done) | (dsimp only; (repeat' split) <;> simp; done) | (dsimp only; simp; (repeat' split) <;> simp; done))

@[simp] theorem State.lineGood_frame (s : State) :
    (s.lineGood).pending = s.pending ∧ (s.lineGood).calls = s.calls ∧ (s.lineGood).store = s.store ∧ (s.lineGood).pressure = s.pressure ∧ (s.lineGood).docs = s.docs ∧ (s.lineGood).journal = s.journal ∧ (s.lineGood).mail = s.mail ∧ (s.lineGood).delivery = s.delivery ∧ (s.lineGood).office = s.office ∧ (s.lineGood).tables = s.tables ∧ (s.lineGood).mgmt = s.mgmt ∧ (s.lineGood).heldReset = s.heldReset := by
  refine ⟨?_, ?_, ?_, ?_, ?_, ?_, ?_, ?_, ?_, ?_, ?_, ?_⟩ <;> (unfold State.lineGood; first | (simp; done) | ((repeat' split) <;> simp; done) | (dsimp only; (repeat' split) <;> simp; done) | (dsimp only; simp; (repeat' split) <;> simp; done))

@[simp] theorem State.lineBad_frame (s : State) :
    (s.lineBad).pending = s.pending ∧ (s.lineBad).calls = s.calls ∧ (s.lineBad).store = s.store ∧ (s.lineBad).pressure = s.pressure ∧ (s.lineBad).docs = s.docs ∧ (s.lineBad).journal = s.journal ∧ (s.lineBad).mail = s.mail ∧ (s.lineBad).delivery = s.delivery ∧ (s.lineBad).office = s.office ∧ (s.lineBad).tables = s.tables ∧ (s.lineBad).mgmt = s.mgmt ∧ (s.lineBad).waiting = s.waiting ∧ (s.lineBad).heldReset = s.heldReset := by
  refine ⟨?_, ?_, ?_, ?_, ?_, ?_, ?_, ?_, ?_, ?_, ?_, ?_, ?_⟩ <;> (unfold State.lineBad; first | (simp; done) | ((repeat' split) <;> simp; done) | (dsimp only; (repeat' split) <;> simp; done) | (dsimp only; simp; (repeat' split) <;> simp; done))

@[simp] theorem State.sendLine_frame (s : State) (ch : Nat) (body : LineBody) :
    (s.sendLine ch body).pending = s.pending ∧ (s.sendLine ch body).calls = s.calls ∧ (s.sendLine ch body).store = s.store ∧ (s.sendLine ch body).pressure = s.pressure ∧ (s.sendLine ch body).docs = s.docs ∧ (s.sendLine ch body).journal = s.journal ∧ (s.sendLine ch body).mail = s.mail ∧ (s.sendLine ch body).delivery = s.delivery ∧ (s.sendLine ch body).office = s.office ∧ (s.sendLine ch body).tables = s.tables ∧ (s.sendLine ch body).mgmt = s.mgmt ∧ (s.sendLine ch body).waiting = s.waiting ∧ (s.sendLine ch body).heldReset = s.heldReset := by
  refine ⟨?_, ?_, ?_, ?_, ?_, ?_, ?_, ?_, ?_, ?_, ?_, ?_, ?_⟩ <;> (unfold State.sendLine; first | (simp; done) | ((repeat' split) <;> simp; done) | (dsimp only; (repeat' split) <;> simp; done) | (dsimp only; simp; (repeat' split) <;> simp; done))

@[simp] theorem State.lineDown_frame (s : State) :
    (s.lineDown).pending = s.pending ∧ (s.lineDown).store = s.store ∧ (s.lineDown).pressure = s.pressure ∧ (s.lineDown).docs = s.docs ∧ (s.lineDown).journal = s.journal ∧ (s.lineDown).mail = s.mail ∧ (s.lineDown).delivery = s.delivery ∧ (s.lineDown).office = s.office ∧ (s.lineDown).tables = s.tables ∧ (s.lineDown).mgmt = s.mgmt ∧ (s.lineDown).heldReset = s.heldReset := by
  refine ⟨?_, ?_, ?_, ?_, ?_, ?_, ?_, ?_, ?_, ?_, ?_⟩ <;> (unfold State.lineDown; first | (simp; done) | ((repeat' split) <;> simp; done) | (dsimp only; (repeat' split) <;> simp; done) | (dsimp only; simp; (repeat' split) <;> simp; done))

@[simp] theorem State.dropClaim_frame (s : State) (claim : Option Nat) :
    (s.dropClaim claim).pending = s.pending ∧ (s.dropClaim claim).line = s.line ∧ (s.dropClaim claim).calls = s.calls ∧ (s.dropClaim claim).store = s.store ∧ (s.dropClaim claim).pressure = s.pressure ∧ (s.dropClaim claim).journal = s.journal ∧ (s.dropClaim claim).mail = s.mail ∧ (s.dropClaim claim).delivery = s.delivery ∧ (s.dropClaim claim).office = s.office ∧ (s.dropClaim claim).tables = s.tables ∧ (s.dropClaim claim).mgmt = s.mgmt ∧ (s.dropClaim claim).waiting = s.waiting ∧ (s.dropClaim claim).heldReset = s.heldReset := by
  refine ⟨?_, ?_, ?_, ?_, ?_, ?_, ?_, ?_, ?_, ?_, ?_, ?_, ?_⟩ <;> (unfold State.dropClaim; first | (simp; done) | ((repeat' split) <;> simp; done) | (dsimp only; (repeat' split) <;> simp; done) | (dsimp only; simp; (repeat' split) <;> simp; done))

@[simp] theorem State.refuse_frame (s : State) (ch : Nat) (d : Decision) (cause : Cause) (routeGen : Option Nat) (screening : ScreenResult) :
    (s.refuse ch d cause routeGen screening).pending = s.pending ∧ (s.refuse ch d cause routeGen screening).store = s.store ∧ (s.refuse ch d cause routeGen screening).pressure = s.pressure ∧ (s.refuse ch d cause routeGen screening).mail = s.mail ∧ (s.refuse ch d cause routeGen screening).delivery = s.delivery ∧ (s.refuse ch d cause routeGen screening).office = s.office ∧ (s.refuse ch d cause routeGen screening).tables = s.tables ∧ (s.refuse ch d cause routeGen screening).mgmt = s.mgmt ∧ (s.refuse ch d cause routeGen screening).heldReset = s.heldReset := by
  refine ⟨?_, ?_, ?_, ?_, ?_, ?_, ?_, ?_, ?_⟩ <;> (unfold State.refuse; first | (simp; done) | ((repeat' split) <;> simp; done) | (dsimp only; (repeat' split) <;> simp; done) | (dsimp only; simp; (repeat' split) <;> simp; done))

@[simp] theorem State.answerCall_frame (s : State) (ch slot receipt : Nat) (d : Decision) (p : Placement) :
    (s.answerCall ch slot receipt d p).pending = s.pending ∧ (s.answerCall ch slot receipt d p).store = s.store ∧ (s.answerCall ch slot receipt d p).pressure = s.pressure ∧ (s.answerCall ch slot receipt d p).journal = s.journal ∧ (s.answerCall ch slot receipt d p).mail = s.mail ∧ (s.answerCall ch slot receipt d p).delivery = s.delivery ∧ (s.answerCall ch slot receipt d p).office = s.office ∧ (s.answerCall ch slot receipt d p).tables = s.tables ∧ (s.answerCall ch slot receipt d p).mgmt = s.mgmt ∧ (s.answerCall ch slot receipt d p).waiting = s.waiting ∧ (s.answerCall ch slot receipt d p).heldReset = s.heldReset := by
  refine ⟨?_, ?_, ?_, ?_, ?_, ?_, ?_, ?_, ?_, ?_, ?_⟩ <;> (unfold State.answerCall; first | (simp; done) | ((repeat' split) <;> simp; done) | (dsimp only; (repeat' split) <;> simp; done) | (dsimp only; simp; (repeat' split) <;> simp; done))

@[simp] theorem State.answeringStep_frame (s : State) (ch slot : Nat) (d : Decision) (p : Placement) :
    (s.answeringStep ch slot d p).pending = s.pending ∧ (s.answeringStep ch slot d p).store = s.store ∧ (s.answeringStep ch slot d p).pressure = s.pressure ∧ (s.answeringStep ch slot d p).mail = s.mail ∧ (s.answeringStep ch slot d p).delivery = s.delivery ∧ (s.answeringStep ch slot d p).office = s.office ∧ (s.answeringStep ch slot d p).tables = s.tables ∧ (s.answeringStep ch slot d p).mgmt = s.mgmt ∧ (s.answeringStep ch slot d p).heldReset = s.heldReset := by
  refine ⟨?_, ?_, ?_, ?_, ?_, ?_, ?_, ?_, ?_⟩ <;> (unfold State.answeringStep; first | (simp; done) | ((repeat' split) <;> simp; done) | (dsimp only; (repeat' split) <;> simp; done) | (dsimp only; simp; (repeat' split) <;> simp; done))

@[simp] theorem State.setDecision_frame (s : State) (ch : Nat) (d : Option Decision) :
    (s.setDecision ch d).pending = s.pending ∧ (s.setDecision ch d).line = s.line ∧ (s.setDecision ch d).store = s.store ∧ (s.setDecision ch d).pressure = s.pressure ∧ (s.setDecision ch d).docs = s.docs ∧ (s.setDecision ch d).journal = s.journal ∧ (s.setDecision ch d).mail = s.mail ∧ (s.setDecision ch d).delivery = s.delivery ∧ (s.setDecision ch d).office = s.office ∧ (s.setDecision ch d).tables = s.tables ∧ (s.setDecision ch d).mgmt = s.mgmt ∧ (s.setDecision ch d).waiting = s.waiting ∧ (s.setDecision ch d).heldReset = s.heldReset := by
  refine ⟨?_, ?_, ?_, ?_, ?_, ?_, ?_, ?_, ?_, ?_, ?_, ?_, ?_⟩ <;> (unfold State.setDecision; first | (simp; done) | ((repeat' split) <;> simp; done) | (dsimp only; (repeat' split) <;> simp; done) | (dsimp only; simp; (repeat' split) <;> simp; done))

@[simp] theorem State.decisionAct_frame (s : State) (ch : Nat) (d : Decision) :
    (s.decisionAct ch d).pending = s.pending ∧ (s.decisionAct ch d).store = s.store ∧ (s.decisionAct ch d).pressure = s.pressure ∧ (s.decisionAct ch d).mail = s.mail ∧ (s.decisionAct ch d).delivery = s.delivery ∧ (s.decisionAct ch d).office = s.office ∧ (s.decisionAct ch d).tables = s.tables ∧ (s.decisionAct ch d).mgmt = s.mgmt ∧ (s.decisionAct ch d).heldReset = s.heldReset := by
  refine ⟨?_, ?_, ?_, ?_, ?_, ?_, ?_, ?_, ?_⟩ <;>
    (unfold State.decisionAct
     (repeat' split) <;> first
       | (simp; done)
       | (have h := State.claimSlot_frame _ _ _ _ (by assumption); simp [h]))

@[simp] theorem State.decisionRun_frame (s : State) (ch : Nat) (stop : DecisionStop) (n : Nat) :
    (s.decisionRun ch stop n).pending = s.pending ∧ (s.decisionRun ch stop n).store = s.store ∧ (s.decisionRun ch stop n).pressure = s.pressure ∧ (s.decisionRun ch stop n).mail = s.mail ∧ (s.decisionRun ch stop n).delivery = s.delivery ∧ (s.decisionRun ch stop n).office = s.office ∧ (s.decisionRun ch stop n).tables = s.tables ∧ (s.decisionRun ch stop n).mgmt = s.mgmt ∧ (s.decisionRun ch stop n).heldReset = s.heldReset := by
  induction n generalizing s ch stop with
  | zero => simp [State.decisionRun]
  | succ k ih =>
    refine ⟨?_, ?_, ?_, ?_, ?_, ?_, ?_, ?_, ?_⟩ <;> (rw [State.decisionRun]; (try dsimp only); (repeat' split) <;> simp [ih])

@[simp] theorem State.decideOn_frame (s : State) (ch : Nat) (stop : DecisionStop) :
    (s.decideOn ch stop).pending = s.pending ∧ (s.decideOn ch stop).store = s.store ∧ (s.decideOn ch stop).pressure = s.pressure ∧ (s.decideOn ch stop).mail = s.mail ∧ (s.decideOn ch stop).delivery = s.delivery ∧ (s.decideOn ch stop).office = s.office ∧ (s.decideOn ch stop).tables = s.tables ∧ (s.decideOn ch stop).mgmt = s.mgmt ∧ (s.decideOn ch stop).heldReset = s.heldReset := by
  refine ⟨?_, ?_, ?_, ?_, ?_, ?_, ?_, ?_, ?_⟩ <;> (unfold State.decideOn; first | (simp; done) | ((repeat' split) <;> simp; done) | (dsimp only; (repeat' split) <;> simp; done) | (dsimp only; simp; (repeat' split) <;> simp; done))

@[simp] theorem State.setBuf_frame (s : State) (ch : Nat) (b : BufId) (x : Buffer) :
    (s.setBuf ch b x).pending = s.pending ∧ (s.setBuf ch b x).line = s.line ∧ (s.setBuf ch b x).store = s.store ∧ (s.setBuf ch b x).pressure = s.pressure ∧ (s.setBuf ch b x).docs = s.docs ∧ (s.setBuf ch b x).journal = s.journal ∧ (s.setBuf ch b x).mail = s.mail ∧ (s.setBuf ch b x).delivery = s.delivery ∧ (s.setBuf ch b x).office = s.office ∧ (s.setBuf ch b x).tables = s.tables ∧ (s.setBuf ch b x).mgmt = s.mgmt ∧ (s.setBuf ch b x).waiting = s.waiting ∧ (s.setBuf ch b x).heldReset = s.heldReset := by
  refine ⟨?_, ?_, ?_, ?_, ?_, ?_, ?_, ?_, ?_, ?_, ?_, ?_, ?_⟩ <;> (unfold State.setBuf; first | (simp; done) | ((repeat' split) <;> simp; done) | (dsimp only; (repeat' split) <;> simp; done) | (dsimp only; simp; (repeat' split) <;> simp; done))

@[simp] theorem State.giveUp_frame (s : State) (ch : Nat) :
    (s.giveUp ch).pending = s.pending ∧ (s.giveUp ch).line = s.line ∧ (s.giveUp ch).docs = s.docs ∧ (s.giveUp ch).journal = s.journal ∧ (s.giveUp ch).mail = s.mail ∧ (s.giveUp ch).delivery = s.delivery ∧ (s.giveUp ch).office = s.office ∧ (s.giveUp ch).tables = s.tables ∧ (s.giveUp ch).mgmt = s.mgmt ∧ (s.giveUp ch).heldReset = s.heldReset := by
  refine ⟨?_, ?_, ?_, ?_, ?_, ?_, ?_, ?_, ?_, ?_⟩ <;> (unfold State.giveUp; first | (simp; done) | ((repeat' split) <;> simp; done) | (dsimp only; (repeat' split) <;> simp; done) | (dsimp only; simp; (repeat' split) <;> simp; done))

@[simp] theorem State.cut_frame (s : State) (ch : Nat) :
    (s.cut ch).pending = s.pending ∧ (s.cut ch).line = s.line ∧ (s.cut ch).calls = s.calls ∧ (s.cut ch).store = s.store ∧ (s.cut ch).pressure = s.pressure ∧ (s.cut ch).journal = s.journal ∧ (s.cut ch).mail = s.mail ∧ (s.cut ch).delivery = s.delivery ∧ (s.cut ch).office = s.office ∧ (s.cut ch).tables = s.tables ∧ (s.cut ch).mgmt = s.mgmt ∧ (s.cut ch).waiting = s.waiting ∧ (s.cut ch).heldReset = s.heldReset := by
  refine ⟨?_, ?_, ?_, ?_, ?_, ?_, ?_, ?_, ?_, ?_, ?_, ?_, ?_⟩ <;> (unfold State.cut; first | (simp; done) | ((repeat' split) <;> simp; done) | (dsimp only; (repeat' split) <;> simp; done) | (dsimp only; simp; (repeat' split) <;> simp; done))

@[simp] theorem State.drop_frame (s : State) (ch : Nat) (cause : Cause) :
    (s.drop ch cause).pending = s.pending ∧ (s.drop ch cause).journal = s.journal ∧ (s.drop ch cause).mail = s.mail ∧ (s.drop ch cause).delivery = s.delivery ∧ (s.drop ch cause).office = s.office ∧ (s.drop ch cause).tables = s.tables ∧ (s.drop ch cause).mgmt = s.mgmt ∧ (s.drop ch cause).heldReset = s.heldReset := by
  refine ⟨?_, ?_, ?_, ?_, ?_, ?_, ?_, ?_⟩ <;> (unfold State.drop; first | (simp; done) | ((repeat' split) <;> simp; done) | (dsimp only; (repeat' split) <;> simp; done) | (dsimp only; simp; (repeat' split) <;> simp; done))

@[simp] theorem State.queueClosed_frame (s : State) (slot : Nat) (d : Doc) :
    (s.queueClosed slot d).pending = s.pending ∧ (s.queueClosed slot d).line = s.line ∧ (s.queueClosed slot d).calls = s.calls ∧ (s.queueClosed slot d).store = s.store ∧ (s.queueClosed slot d).pressure = s.pressure ∧ (s.queueClosed slot d).docs = s.docs ∧ (s.queueClosed slot d).journal = s.journal ∧ (s.queueClosed slot d).delivery = s.delivery ∧ (s.queueClosed slot d).office = s.office ∧ (s.queueClosed slot d).tables = s.tables ∧ (s.queueClosed slot d).mgmt = s.mgmt ∧ (s.queueClosed slot d).heldReset = s.heldReset := by
  refine ⟨?_, ?_, ?_, ?_, ?_, ?_, ?_, ?_, ?_, ?_, ?_, ?_⟩ <;> (unfold State.queueClosed; first | (simp; done) | ((repeat' split) <;> simp; done) | (dsimp only; (repeat' split) <;> simp; done) | (dsimp only; simp; (repeat' split) <;> simp; done))

@[simp] theorem State.closeDoc_frame (s : State) (ch slot : Nat) (d : Doc) (cause : Cause) (cut : Bool) :
    (s.closeDoc ch slot d cause cut).pending = s.pending ∧ (s.closeDoc ch slot d cause cut).line = s.line ∧ (s.closeDoc ch slot d cause cut).calls = s.calls ∧ (s.closeDoc ch slot d cause cut).delivery = s.delivery ∧ (s.closeDoc ch slot d cause cut).office = s.office ∧ (s.closeDoc ch slot d cause cut).tables = s.tables ∧ (s.closeDoc ch slot d cause cut).mgmt = s.mgmt ∧ (s.closeDoc ch slot d cause cut).heldReset = s.heldReset := by
  refine ⟨?_, ?_, ?_, ?_, ?_, ?_, ?_, ?_⟩ <;> (unfold State.closeDoc; first | (simp; done) | ((repeat' split) <;> simp; done) | (dsimp only; (repeat' split) <;> simp; done) | (dsimp only; simp; (repeat' split) <;> simp; done))

@[simp] theorem State.idleReport_frame (s : State) :
    (s.idleReport).pending = s.pending ∧ (s.idleReport).line = s.line ∧ (s.idleReport).calls = s.calls ∧ (s.idleReport).store = s.store ∧ (s.idleReport).pressure = s.pressure ∧ (s.idleReport).docs = s.docs ∧ (s.idleReport).journal = s.journal ∧ (s.idleReport).mail = s.mail ∧ (s.idleReport).delivery = s.delivery ∧ (s.idleReport).office = s.office ∧ (s.idleReport).tables = s.tables ∧ (s.idleReport).mgmt = s.mgmt ∧ (s.idleReport).heldReset = s.heldReset := by
  refine ⟨?_, ?_, ?_, ?_, ?_, ?_, ?_, ?_, ?_, ?_, ?_, ?_, ?_⟩ <;> (unfold State.idleReport; first | (simp; done) | ((repeat' split) <;> simp; done) | (dsimp only; (repeat' split) <;> simp; done) | (dsimp only; simp; (repeat' split) <;> simp; done))

@[simp] theorem State.closeCall_frame (s : State) (ch : Nat) (cause : Cause) :
    (s.closeCall ch cause).pending = s.pending ∧ (s.closeCall ch cause).line = s.line ∧ (s.closeCall ch cause).delivery = s.delivery ∧ (s.closeCall ch cause).office = s.office ∧ (s.closeCall ch cause).tables = s.tables ∧ (s.closeCall ch cause).mgmt = s.mgmt ∧ (s.closeCall ch cause).heldReset = s.heldReset := by
  refine ⟨?_, ?_, ?_, ?_, ?_, ?_, ?_⟩ <;> (unfold State.closeCall; first | (simp; done) | ((repeat' split) <;> simp; done) | (dsimp only; (repeat' split) <;> simp; done) | (dsimp only; simp; (repeat' split) <;> simp; done))

@[simp] theorem State.loseLink_frame (s : State) (ch : Nat) :
    (s.loseLink ch).pending = s.pending ∧ (s.loseLink ch).line = s.line ∧ (s.loseLink ch).delivery = s.delivery ∧ (s.loseLink ch).office = s.office ∧ (s.loseLink ch).tables = s.tables ∧ (s.loseLink ch).mgmt = s.mgmt ∧ (s.loseLink ch).heldReset = s.heldReset := by
  refine ⟨?_, ?_, ?_, ?_, ?_, ?_, ?_⟩ <;> (unfold State.loseLink; first | (simp; done) | ((repeat' split) <;> simp; done) | (dsimp only; (repeat' split) <;> simp; done) | (dsimp only; simp; (repeat' split) <;> simp; done))

@[simp] theorem State.takeLoss_frame (s : State) (ch : Nat) :
    (s.takeLoss ch).pending = s.pending ∧ (s.takeLoss ch).line = s.line ∧ (s.takeLoss ch).delivery = s.delivery ∧ (s.takeLoss ch).office = s.office ∧ (s.takeLoss ch).tables = s.tables ∧ (s.takeLoss ch).mgmt = s.mgmt ∧ (s.takeLoss ch).heldReset = s.heldReset := by
  refine ⟨?_, ?_, ?_, ?_, ?_, ?_, ?_⟩ <;> (unfold State.takeLoss; first | (simp; done) | ((repeat' split) <;> simp; done) | (dsimp only; (repeat' split) <;> simp; done) | (dsimp only; simp; (repeat' split) <;> simp; done))

@[simp] theorem State.settle_frame (s : State) (ch : Nat) :
    (s.settle ch).pending = s.pending ∧ (s.settle ch).delivery = s.delivery ∧ (s.settle ch).office = s.office ∧ (s.settle ch).tables = s.tables ∧ (s.settle ch).mgmt = s.mgmt ∧ (s.settle ch).heldReset = s.heldReset := by
  refine ⟨?_, ?_, ?_, ?_, ?_, ?_⟩ <;> (unfold State.settle; first | (simp; done) | ((repeat' split) <;> simp; done) | (dsimp only; (repeat' split) <;> simp; done) | (dsimp only; simp; (repeat' split) <;> simp; done))

@[simp] theorem State.carryOn_frame (s : State) (ch : Nat) (stop : DecisionStop) :
    (s.carryOn ch stop).pending = s.pending ∧ (s.carryOn ch stop).delivery = s.delivery ∧ (s.carryOn ch stop).office = s.office ∧ (s.carryOn ch stop).tables = s.tables ∧ (s.carryOn ch stop).mgmt = s.mgmt ∧ (s.carryOn ch stop).heldReset = s.heldReset := by
  refine ⟨?_, ?_, ?_, ?_, ?_, ?_⟩ <;> (unfold State.carryOn; first | (simp; done) | ((repeat' split) <;> simp; done) | (dsimp only; (repeat' split) <;> simp; done) | (dsimp only; simp; (repeat' split) <;> simp; done))

@[simp] theorem State.restartSilence_frame (s : State) (ch : Nat) :
    (s.restartSilence ch).pending = s.pending ∧ (s.restartSilence ch).line = s.line ∧ (s.restartSilence ch).store = s.store ∧ (s.restartSilence ch).pressure = s.pressure ∧ (s.restartSilence ch).docs = s.docs ∧ (s.restartSilence ch).journal = s.journal ∧ (s.restartSilence ch).mail = s.mail ∧ (s.restartSilence ch).delivery = s.delivery ∧ (s.restartSilence ch).office = s.office ∧ (s.restartSilence ch).tables = s.tables ∧ (s.restartSilence ch).mgmt = s.mgmt ∧ (s.restartSilence ch).waiting = s.waiting ∧ (s.restartSilence ch).heldReset = s.heldReset := by
  refine ⟨?_, ?_, ?_, ?_, ?_, ?_, ?_, ?_, ?_, ?_, ?_, ?_, ?_⟩ <;> (unfold State.restartSilence; first | (simp; done) | ((repeat' split) <;> simp; done) | (dsimp only; (repeat' split) <;> simp; done) | (dsimp only; simp; (repeat' split) <;> simp; done))

@[simp] theorem State.channelError_frame (s : State) (ch : Nat) :
    (s.channelError ch).pending = s.pending ∧ (s.channelError ch).line = s.line ∧ (s.channelError ch).store = s.store ∧ (s.channelError ch).pressure = s.pressure ∧ (s.channelError ch).docs = s.docs ∧ (s.channelError ch).journal = s.journal ∧ (s.channelError ch).mail = s.mail ∧ (s.channelError ch).delivery = s.delivery ∧ (s.channelError ch).office = s.office ∧ (s.channelError ch).tables = s.tables ∧ (s.channelError ch).mgmt = s.mgmt ∧ (s.channelError ch).waiting = s.waiting ∧ (s.channelError ch).heldReset = s.heldReset := by
  refine ⟨?_, ?_, ?_, ?_, ?_, ?_, ?_, ?_, ?_, ?_, ?_, ?_, ?_⟩ <;> (unfold State.channelError; first | (simp; done) | ((repeat' split) <;> simp; done) | (dsimp only; (repeat' split) <;> simp; done) | (dsimp only; simp; (repeat' split) <;> simp; done))

@[simp] theorem State.notTaken_frame (s : State) (ch : Nat) :
    (s.notTaken ch).pending = s.pending ∧ (s.notTaken ch).line = s.line ∧ (s.notTaken ch).store = s.store ∧ (s.notTaken ch).pressure = s.pressure ∧ (s.notTaken ch).docs = s.docs ∧ (s.notTaken ch).journal = s.journal ∧ (s.notTaken ch).mail = s.mail ∧ (s.notTaken ch).delivery = s.delivery ∧ (s.notTaken ch).office = s.office ∧ (s.notTaken ch).tables = s.tables ∧ (s.notTaken ch).mgmt = s.mgmt ∧ (s.notTaken ch).waiting = s.waiting ∧ (s.notTaken ch).heldReset = s.heldReset := by
  refine ⟨?_, ?_, ?_, ?_, ?_, ?_, ?_, ?_, ?_, ?_, ?_, ?_, ?_⟩ <;> (unfold State.notTaken; first | (simp; done) | ((repeat' split) <;> simp; done) | (dsimp only; (repeat' split) <;> simp; done) | (dsimp only; simp; (repeat' split) <;> simp; done))

@[simp] theorem State.callOpen_frame (s : State) (ch : Nat) (called : Str) (caller : Option Str) (stop : DecisionStop) :
    (s.callOpen ch called caller stop).pending = s.pending ∧ (s.callOpen ch called caller stop).store = s.store ∧ (s.callOpen ch called caller stop).pressure = s.pressure ∧ (s.callOpen ch called caller stop).mail = s.mail ∧ (s.callOpen ch called caller stop).delivery = s.delivery ∧ (s.callOpen ch called caller stop).office = s.office ∧ (s.callOpen ch called caller stop).tables = s.tables ∧ (s.callOpen ch called caller stop).mgmt = s.mgmt ∧ (s.callOpen ch called caller stop).heldReset = s.heldReset := by
  refine ⟨?_, ?_, ?_, ?_, ?_, ?_, ?_, ?_, ?_⟩ <;> (unfold State.callOpen; first | (simp; done) | ((repeat' split) <;> simp; done) | (dsimp only; (repeat' split) <;> simp; done) | (dsimp only; simp; (repeat' split) <;> simp; done))

@[simp] theorem State.stationAction_frame (s : State) (ch slot : Nat) (d : Doc) (e : ScreenEntry) :
    (s.stationAction ch slot d e).pending = s.pending ∧ (s.stationAction ch slot d e).journal = s.journal ∧ (s.stationAction ch slot d e).mail = s.mail ∧ (s.stationAction ch slot d e).delivery = s.delivery ∧ (s.stationAction ch slot d e).office = s.office ∧ (s.stationAction ch slot d e).tables = s.tables ∧ (s.stationAction ch slot d e).mgmt = s.mgmt ∧ (s.stationAction ch slot d e).heldReset = s.heldReset := by
  refine ⟨?_, ?_, ?_, ?_, ?_, ?_, ?_, ?_⟩ <;> (unfold State.stationAction; first | (simp; done) | ((repeat' split) <;> simp; done) | (dsimp only; (repeat' split) <;> simp; done) | (dsimp only; simp; (repeat' split) <;> simp; done))

@[simp] theorem State.senderInfo_frame (s : State) (ch : Nat) (ident : Str) :
    (s.senderInfo ch ident).pending = s.pending ∧ (s.senderInfo ch ident).journal = s.journal ∧ (s.senderInfo ch ident).mail = s.mail ∧ (s.senderInfo ch ident).delivery = s.delivery ∧ (s.senderInfo ch ident).office = s.office ∧ (s.senderInfo ch ident).tables = s.tables ∧ (s.senderInfo ch ident).mgmt = s.mgmt ∧ (s.senderInfo ch ident).heldReset = s.heldReset := by
  refine ⟨?_, ?_, ?_, ?_, ?_, ?_, ?_, ?_⟩ <;> (unfold State.senderInfo; first | (simp; done) | ((repeat' split) <;> simp; done) | (dsimp only; (repeat' split) <;> simp; done) | (dsimp only; simp; (repeat' split) <;> simp; done))

@[simp] theorem State.beginPage_frame (s : State) (ch r slot page : Nat) (res : Resolution) (width : Width) :
    (s.beginPage ch r slot page res width).pending = s.pending ∧ (s.beginPage ch r slot page res width).line = s.line ∧ (s.beginPage ch r slot page res width).pressure = s.pressure ∧ (s.beginPage ch r slot page res width).docs = s.docs ∧ (s.beginPage ch r slot page res width).journal = s.journal ∧ (s.beginPage ch r slot page res width).mail = s.mail ∧ (s.beginPage ch r slot page res width).delivery = s.delivery ∧ (s.beginPage ch r slot page res width).office = s.office ∧ (s.beginPage ch r slot page res width).tables = s.tables ∧ (s.beginPage ch r slot page res width).mgmt = s.mgmt ∧ (s.beginPage ch r slot page res width).waiting = s.waiting ∧ (s.beginPage ch r slot page res width).heldReset = s.heldReset := by
  refine ⟨?_, ?_, ?_, ?_, ?_, ?_, ?_, ?_, ?_, ?_, ?_, ?_⟩ <;> (unfold State.beginPage; first | (simp; done) | ((repeat' split) <;> simp; done) | (dsimp only; (repeat' split) <;> simp; done) | (dsimp only; simp; (repeat' split) <;> simp; done))

@[simp] theorem State.pageStart_frame (s : State) (ch page : Nat) (res : Resolution) (width : Width) :
    (s.pageStart ch page res width).pending = s.pending ∧ (s.pageStart ch page res width).journal = s.journal ∧ (s.pageStart ch page res width).mail = s.mail ∧ (s.pageStart ch page res width).delivery = s.delivery ∧ (s.pageStart ch page res width).office = s.office ∧ (s.pageStart ch page res width).tables = s.tables ∧ (s.pageStart ch page res width).mgmt = s.mgmt ∧ (s.pageStart ch page res width).heldReset = s.heldReset := by
  refine ⟨?_, ?_, ?_, ?_, ?_, ?_, ?_, ?_⟩ <;> (unfold State.pageStart; first | (simp; done) | ((repeat' split) <;> simp; done) | (dsimp only; (repeat' split) <;> simp; done) | (dsimp only; simp; (repeat' split) <;> simp; done))

theorem State.handOver_frame (s : State) (ch : Nat) (b : BufId) (bytes : List Byte) (t : State) (h : s.handOver ch b bytes = some t) :
    t.pending = s.pending ∧ t.line = s.line ∧ t.docs = s.docs ∧ t.journal = s.journal ∧ t.mail = s.mail ∧ t.delivery = s.delivery ∧ t.office = s.office ∧ t.tables = s.tables ∧ t.mgmt = s.mgmt ∧ t.heldReset = s.heldReset := by
  unfold State.handOver at h
  split at h
  · simp_all
  · split at h
    · simp_all
    · rename_i r _ _ x _
      cases hb : s.beginWrite ch b r x with
      | none => simp [hb] at h
      | some u =>
        have k := State.beginWrite_frame _ _ _ _ _ _ hb
        simp only [hb, Option.map_some, Option.some.injEq] at h
        subst h
        simp [k]

@[simp] theorem State.storeFull_frame (s : State) (ch : Nat) (b : BufId) :
    (s.storeFull ch b).pending = s.pending ∧ (s.storeFull ch b).journal = s.journal ∧ (s.storeFull ch b).mail = s.mail ∧ (s.storeFull ch b).delivery = s.delivery ∧ (s.storeFull ch b).office = s.office ∧ (s.storeFull ch b).tables = s.tables ∧ (s.storeFull ch b).mgmt = s.mgmt ∧ (s.storeFull ch b).heldReset = s.heldReset := by
  refine ⟨?_, ?_, ?_, ?_, ?_, ?_, ?_, ?_⟩ <;> (unfold State.storeFull; first | (simp; done) | ((repeat' split) <;> simp; done) | (dsimp only; (repeat' split) <;> simp; done) | (dsimp only; simp; (repeat' split) <;> simp; done))

@[simp] theorem State.placeBytes_frame (s : State) (ch : Nat) (b : BufId) (held kept : List Byte) :
    (s.placeBytes ch b held kept).pending = s.pending ∧ (s.placeBytes ch b held kept).journal = s.journal ∧ (s.placeBytes ch b held kept).mail = s.mail ∧ (s.placeBytes ch b held kept).delivery = s.delivery ∧ (s.placeBytes ch b held kept).office = s.office ∧ (s.placeBytes ch b held kept).tables = s.tables ∧ (s.placeBytes ch b held kept).mgmt = s.mgmt ∧ (s.placeBytes ch b held kept).heldReset = s.heldReset := by
  refine ⟨?_, ?_, ?_, ?_, ?_, ?_, ?_, ?_⟩ <;>
    (unfold State.placeBytes
     dsimp only
     (repeat' split) <;> first
       | (simp; done)
       | (have h := State.handOver_frame _ _ _ _ _ (by assumption); simp [h]))

@[simp] theorem State.markPage_frame (s : State) (ch : Nat) (m : Bool) :
    (s.markPage ch m).pending = s.pending ∧ (s.markPage ch m).line = s.line ∧ (s.markPage ch m).store = s.store ∧ (s.markPage ch m).pressure = s.pressure ∧ (s.markPage ch m).docs = s.docs ∧ (s.markPage ch m).journal = s.journal ∧ (s.markPage ch m).mail = s.mail ∧ (s.markPage ch m).delivery = s.delivery ∧ (s.markPage ch m).office = s.office ∧ (s.markPage ch m).tables = s.tables ∧ (s.markPage ch m).mgmt = s.mgmt ∧ (s.markPage ch m).waiting = s.waiting ∧ (s.markPage ch m).heldReset = s.heldReset := by
  refine ⟨?_, ?_, ?_, ?_, ?_, ?_, ?_, ?_, ?_, ?_, ?_, ?_, ?_⟩ <;> (unfold State.markPage; first | (simp; done) | ((repeat' split) <;> simp; done) | (dsimp only; (repeat' split) <;> simp; done) | (dsimp only; simp; (repeat' split) <;> simp; done))

@[simp] theorem State.sequence_frame (s : State) (ch seq : Nat) :
    (s.sequence ch seq).pending = s.pending ∧ (s.sequence ch seq).line = s.line ∧ (s.sequence ch seq).store = s.store ∧ (s.sequence ch seq).pressure = s.pressure ∧ (s.sequence ch seq).docs = s.docs ∧ (s.sequence ch seq).journal = s.journal ∧ (s.sequence ch seq).mail = s.mail ∧ (s.sequence ch seq).delivery = s.delivery ∧ (s.sequence ch seq).office = s.office ∧ (s.sequence ch seq).tables = s.tables ∧ (s.sequence ch seq).mgmt = s.mgmt ∧ (s.sequence ch seq).waiting = s.waiting ∧ (s.sequence ch seq).heldReset = s.heldReset := by
  refine ⟨?_, ?_, ?_, ?_, ?_, ?_, ?_, ?_, ?_, ?_, ?_, ?_, ?_⟩ <;> (unfold State.sequence; first | (simp; done) | ((repeat' split) <;> simp; done) | (dsimp only; (repeat' split) <;> simp; done) | (dsimp only; simp; (repeat' split) <;> simp; done))

@[simp] theorem State.takePayload_frame (s : State) (ch : Nat) (payload : List Byte) :
    (s.takePayload ch payload).pending = s.pending ∧ (s.takePayload ch payload).journal = s.journal ∧ (s.takePayload ch payload).mail = s.mail ∧ (s.takePayload ch payload).delivery = s.delivery ∧ (s.takePayload ch payload).office = s.office ∧ (s.takePayload ch payload).tables = s.tables ∧ (s.takePayload ch payload).mgmt = s.mgmt ∧ (s.takePayload ch payload).heldReset = s.heldReset := by
  refine ⟨?_, ?_, ?_, ?_, ?_, ?_, ?_, ?_⟩ <;> (unfold State.takePayload; first | (simp; done) | ((repeat' split) <;> simp; done) | (dsimp only; (repeat' split) <;> simp; done) | (dsimp only; simp; (repeat' split) <;> simp; done))

@[simp] theorem State.pageData_frame (s : State) (ch seq : Nat) (payload : List Byte) :
    (s.pageData ch seq payload).pending = s.pending ∧ (s.pageData ch seq payload).journal = s.journal ∧ (s.pageData ch seq payload).mail = s.mail ∧ (s.pageData ch seq payload).delivery = s.delivery ∧ (s.pageData ch seq payload).office = s.office ∧ (s.pageData ch seq payload).tables = s.tables ∧ (s.pageData ch seq payload).mgmt = s.mgmt ∧ (s.pageData ch seq payload).heldReset = s.heldReset := by
  refine ⟨?_, ?_, ?_, ?_, ?_, ?_, ?_, ?_⟩ <;> (unfold State.pageData; first | (simp; done) | ((repeat' split) <;> simp; done) | (dsimp only; (repeat' split) <;> simp; done) | (dsimp only; simp; (repeat' split) <;> simp; done))

@[simp] theorem State.resendPage_frame (s : State) (ch r : Nat) :
    (s.resendPage ch r).pending = s.pending ∧ (s.resendPage ch r).docs = s.docs ∧ (s.resendPage ch r).journal = s.journal ∧ (s.resendPage ch r).mail = s.mail ∧ (s.resendPage ch r).delivery = s.delivery ∧ (s.resendPage ch r).office = s.office ∧ (s.resendPage ch r).tables = s.tables ∧ (s.resendPage ch r).mgmt = s.mgmt ∧ (s.resendPage ch r).heldReset = s.heldReset := by
  refine ⟨?_, ?_, ?_, ?_, ?_, ?_, ?_, ?_, ?_⟩ <;> (unfold State.resendPage; first | (simp; done) | ((repeat' split) <;> simp; done) | (dsimp only; (repeat' split) <;> simp; done) | (dsimp only; simp; (repeat' split) <;> simp; done))

@[simp] theorem State.joinPage_frame (s : State) (ch r slot : Nat) (x : PageRecord) (f : Finish) :
    (s.joinPage ch r slot x f).pending = s.pending ∧ (s.joinPage ch r slot x f).pressure = s.pressure ∧ (s.joinPage ch r slot x f).journal = s.journal ∧ (s.joinPage ch r slot x f).delivery = s.delivery ∧ (s.joinPage ch r slot x f).office = s.office ∧ (s.joinPage ch r slot x f).tables = s.tables ∧ (s.joinPage ch r slot x f).mgmt = s.mgmt ∧ (s.joinPage ch r slot x f).waiting = s.waiting ∧ (s.joinPage ch r slot x f).heldReset = s.heldReset := by
  refine ⟨?_, ?_, ?_, ?_, ?_, ?_, ?_, ?_, ?_⟩ <;> (unfold State.joinPage; first | (simp; done) | ((repeat' split) <;> simp; done) | (dsimp only; (repeat' split) <;> simp; done) | (dsimp only; simp; (repeat' split) <;> simp; done))

@[simp] theorem State.finalize_frame (s : State) (ch : Nat) :
    (s.finalize ch).pending = s.pending ∧ (s.finalize ch).journal = s.journal ∧ (s.finalize ch).delivery = s.delivery ∧ (s.finalize ch).office = s.office ∧ (s.finalize ch).tables = s.tables ∧ (s.finalize ch).mgmt = s.mgmt ∧ (s.finalize ch).heldReset = s.heldReset := by
  refine ⟨?_, ?_, ?_, ?_, ?_, ?_, ?_⟩ <;> (unfold State.finalize; first | (simp; done) | ((repeat' split) <;> simp; done) | (dsimp only; (repeat' split) <;> simp; done) | (dsimp only; simp; (repeat' split) <;> simp; done))

@[simp] theorem State.finalizeIfDone_frame (s : State) (ch : Nat) :
    (s.finalizeIfDone ch).pending = s.pending ∧ (s.finalizeIfDone ch).journal = s.journal ∧ (s.finalizeIfDone ch).delivery = s.delivery ∧ (s.finalizeIfDone ch).office = s.office ∧ (s.finalizeIfDone ch).tables = s.tables ∧ (s.finalizeIfDone ch).mgmt = s.mgmt ∧ (s.finalizeIfDone ch).heldReset = s.heldReset := by
  refine ⟨?_, ?_, ?_, ?_, ?_, ?_, ?_⟩ <;> (unfold State.finalizeIfDone; first | (simp; done) | ((repeat' split) <;> simp; done) | (dsimp only; (repeat' split) <;> simp; done) | (dsimp only; simp; (repeat' split) <;> simp; done))

@[simp] theorem State.pageEnd_frame (s : State) (ch : Nat) (e : PageEnd) :
    (s.pageEnd ch e).pending = s.pending ∧ (s.pageEnd ch e).journal = s.journal ∧ (s.pageEnd ch e).delivery = s.delivery ∧ (s.pageEnd ch e).office = s.office ∧ (s.pageEnd ch e).tables = s.tables ∧ (s.pageEnd ch e).mgmt = s.mgmt ∧ (s.pageEnd ch e).heldReset = s.heldReset := by
  refine ⟨?_, ?_, ?_, ?_, ?_, ?_, ?_⟩ <;>
    (unfold State.pageEnd
     dsimp only
     (repeat' split) <;> first
       | (simp; done)
       | (have h := State.handOver_frame _ _ _ _ _ (by assumption); simp [h]))

@[simp] theorem State.callClose_frame (s : State) (ch : Nat) (cause : ShelfCause) :
    (s.callClose ch cause).pending = s.pending ∧ (s.callClose ch cause).line = s.line ∧ (s.callClose ch cause).delivery = s.delivery ∧ (s.callClose ch cause).office = s.office ∧ (s.callClose ch cause).tables = s.tables ∧ (s.callClose ch cause).mgmt = s.mgmt ∧ (s.callClose ch cause).heldReset = s.heldReset := by
  refine ⟨?_, ?_, ?_, ?_, ?_, ?_, ?_⟩ <;> (unfold State.callClose; first | (simp; done) | ((repeat' split) <;> simp; done) | (dsimp only; (repeat' split) <;> simp; done) | (dsimp only; simp; (repeat' split) <;> simp; done))

@[simp] theorem State.heldDiscard_frame (s : State) (ch r : Nat) :
    (s.heldDiscard ch r).pending = s.pending ∧ (s.heldDiscard ch r).line = s.line ∧ (s.heldDiscard ch r).docs = s.docs ∧ (s.heldDiscard ch r).journal = s.journal ∧ (s.heldDiscard ch r).mail = s.mail ∧ (s.heldDiscard ch r).delivery = s.delivery ∧ (s.heldDiscard ch r).office = s.office ∧ (s.heldDiscard ch r).tables = s.tables ∧ (s.heldDiscard ch r).mgmt = s.mgmt ∧ (s.heldDiscard ch r).heldReset = s.heldReset := by
  refine ⟨?_, ?_, ?_, ?_, ?_, ?_, ?_, ?_, ?_, ?_⟩ <;> (unfold State.heldDiscard; first | (simp; done) | ((repeat' split) <;> simp; done) | (dsimp only; (repeat' split) <;> simp; done) | (dsimp only; simp; (repeat' split) <;> simp; done))

@[simp] theorem State.writeDone_frame (s : State) (ch : Nat) (b : BufId) (r : Nat) :
    (s.writeDone ch b r).pending = s.pending ∧ (s.writeDone ch b r).journal = s.journal ∧ (s.writeDone ch b r).delivery = s.delivery ∧ (s.writeDone ch b r).office = s.office ∧ (s.writeDone ch b r).tables = s.tables ∧ (s.writeDone ch b r).mgmt = s.mgmt ∧ (s.writeDone ch b r).heldReset = s.heldReset := by
  refine ⟨?_, ?_, ?_, ?_, ?_, ?_, ?_⟩ <;> (unfold State.writeDone; first | (simp; done) | ((repeat' split) <;> simp; done) | (dsimp only; (repeat' split) <;> simp; done) | (dsimp only; simp; (repeat' split) <;> simp; done))

@[simp] theorem State.completeWrite_frame (s : State) (ch : Nat) (b : BufId) (r block : Nat) :
    (s.completeWrite ch b r block).pending = s.pending ∧ (s.completeWrite ch b r block).delivery = s.delivery ∧ (s.completeWrite ch b r block).office = s.office ∧ (s.completeWrite ch b r block).tables = s.tables ∧ (s.completeWrite ch b r block).mgmt = s.mgmt ∧ (s.completeWrite ch b r block).heldReset = s.heldReset := by
  refine ⟨?_, ?_, ?_, ?_, ?_, ?_⟩ <;> (unfold State.completeWrite; first | (simp; done) | ((repeat' split) <;> simp; done) | (dsimp only; (repeat' split) <;> simp; done) | (dsimp only; simp; (repeat' split) <;> simp; done))

@[simp] theorem State.officeGood_frame (s : State) :
    (s.officeGood).pending = s.pending ∧ (s.officeGood).line = s.line ∧ (s.officeGood).calls = s.calls ∧ (s.officeGood).store = s.store ∧ (s.officeGood).pressure = s.pressure ∧ (s.officeGood).docs = s.docs ∧ (s.officeGood).journal = s.journal ∧ (s.officeGood).mail = s.mail ∧ (s.officeGood).delivery = s.delivery ∧ (s.officeGood).tables = s.tables ∧ (s.officeGood).mgmt = s.mgmt ∧ (s.officeGood).heldReset = s.heldReset := by
  refine ⟨?_, ?_, ?_, ?_, ?_, ?_, ?_, ?_, ?_, ?_, ?_, ?_⟩ <;> (unfold State.officeGood; first | (simp; done) | ((repeat' split) <;> simp; done) | (dsimp only; (repeat' split) <;> simp; done) | (dsimp only; simp; (repeat' split) <;> simp; done))

@[simp] theorem State.officeBad_frame (s : State) :
    (s.officeBad).pending = s.pending ∧ (s.officeBad).line = s.line ∧ (s.officeBad).calls = s.calls ∧ (s.officeBad).store = s.store ∧ (s.officeBad).pressure = s.pressure ∧ (s.officeBad).docs = s.docs ∧ (s.officeBad).journal = s.journal ∧ (s.officeBad).mail = s.mail ∧ (s.officeBad).delivery = s.delivery ∧ (s.officeBad).tables = s.tables ∧ (s.officeBad).mgmt = s.mgmt ∧ (s.officeBad).waiting = s.waiting ∧ (s.officeBad).heldReset = s.heldReset := by
  refine ⟨?_, ?_, ?_, ?_, ?_, ?_, ?_, ?_, ?_, ?_, ?_, ?_, ?_⟩ <;> (unfold State.officeBad; first | (simp; done) | ((repeat' split) <;> simp; done) | (dsimp only; (repeat' split) <;> simp; done) | (dsimp only; simp; (repeat' split) <;> simp; done))

@[simp] theorem State.pointState_frame (s : State) (p : Nat) (st : PointState) :
    (s.pointState p st).pending = s.pending ∧ (s.pointState p st).line = s.line ∧ (s.pointState p st).calls = s.calls ∧ (s.pointState p st).store = s.store ∧ (s.pointState p st).pressure = s.pressure ∧ (s.pointState p st).docs = s.docs ∧ (s.pointState p st).journal = s.journal ∧ (s.pointState p st).mail = s.mail ∧ (s.pointState p st).office = s.office ∧ (s.pointState p st).tables = s.tables ∧ (s.pointState p st).mgmt = s.mgmt ∧ (s.pointState p st).heldReset = s.heldReset := by
  refine ⟨?_, ?_, ?_, ?_, ?_, ?_, ?_, ?_, ?_, ?_, ?_, ?_⟩ <;> (unfold State.pointState; first | (simp; done) | ((repeat' split) <;> simp; done) | (dsimp only; (repeat' split) <;> simp; done) | (dsimp only; simp; (repeat' split) <;> simp; done))

@[simp] theorem State.frameSeen_frame (s : State) (p : Nat) :
    (s.frameSeen p).pending = s.pending ∧ (s.frameSeen p).line = s.line ∧ (s.frameSeen p).calls = s.calls ∧ (s.frameSeen p).store = s.store ∧ (s.frameSeen p).pressure = s.pressure ∧ (s.frameSeen p).docs = s.docs ∧ (s.frameSeen p).journal = s.journal ∧ (s.frameSeen p).mail = s.mail ∧ (s.frameSeen p).office = s.office ∧ (s.frameSeen p).tables = s.tables ∧ (s.frameSeen p).mgmt = s.mgmt ∧ (s.frameSeen p).heldReset = s.heldReset := by
  refine ⟨?_, ?_, ?_, ?_, ?_, ?_, ?_, ?_, ?_, ?_, ?_, ?_⟩ <;> (unfold State.frameSeen; first | (simp; done) | ((repeat' split) <;> simp; done) | (dsimp only; (repeat' split) <;> simp; done) | (dsimp only; simp; (repeat' split) <;> simp; done))

@[simp] theorem State.officeArrival_frame (s : State) (src : Nat) :
    (s.officeArrival src).pending = s.pending ∧ (s.officeArrival src).line = s.line ∧ (s.officeArrival src).calls = s.calls ∧ (s.officeArrival src).store = s.store ∧ (s.officeArrival src).pressure = s.pressure ∧ (s.officeArrival src).docs = s.docs ∧ (s.officeArrival src).journal = s.journal ∧ (s.officeArrival src).mail = s.mail ∧ (s.officeArrival src).tables = s.tables ∧ (s.officeArrival src).mgmt = s.mgmt ∧ (s.officeArrival src).heldReset = s.heldReset := by
  refine ⟨?_, ?_, ?_, ?_, ?_, ?_, ?_, ?_, ?_, ?_, ?_⟩ <;> (unfold State.officeArrival; first | (simp; done) | ((repeat' split) <;> simp; done) | (dsimp only; (repeat' split) <;> simp; done) | (dsimp only; simp; (repeat' split) <;> simp; done))

@[simp] theorem State.discarded_frame (s : State) (h : Hander) (f : OfficeFrame) :
    (s.discarded h f).pending = s.pending ∧ (s.discarded h f).line = s.line ∧ (s.discarded h f).calls = s.calls ∧ (s.discarded h f).store = s.store ∧ (s.discarded h f).pressure = s.pressure ∧ (s.discarded h f).docs = s.docs ∧ (s.discarded h f).journal = s.journal ∧ (s.discarded h f).mail = s.mail ∧ (s.discarded h f).delivery = s.delivery ∧ (s.discarded h f).office = s.office ∧ (s.discarded h f).tables = s.tables ∧ (s.discarded h f).mgmt = s.mgmt ∧ (s.discarded h f).heldReset = s.heldReset := by
  refine ⟨?_, ?_, ?_, ?_, ?_, ?_, ?_, ?_, ?_, ?_, ?_, ?_, ?_⟩ <;> (unfold State.discarded; first | (simp; done) | ((repeat' split) <;> simp; done) | (dsimp only; (repeat' split) <;> simp; done) | (dsimp only; simp; (repeat' split) <;> simp; done))

@[simp] theorem State.handOffice_frame (s : State) (h : Hander) (f : OfficeFrame) :
    (s.handOffice h f).pending = s.pending ∧ (s.handOffice h f).line = s.line ∧ (s.handOffice h f).calls = s.calls ∧ (s.handOffice h f).store = s.store ∧ (s.handOffice h f).pressure = s.pressure ∧ (s.handOffice h f).docs = s.docs ∧ (s.handOffice h f).journal = s.journal ∧ (s.handOffice h f).mail = s.mail ∧ (s.handOffice h f).delivery = s.delivery ∧ (s.handOffice h f).tables = s.tables ∧ (s.handOffice h f).mgmt = s.mgmt ∧ (s.handOffice h f).heldReset = s.heldReset := by
  refine ⟨?_, ?_, ?_, ?_, ?_, ?_, ?_, ?_, ?_, ?_, ?_, ?_⟩ <;> (unfold State.handOffice; first | (simp; done) | ((repeat' split) <;> simp; done) | (dsimp only; (repeat' split) <;> simp; done) | (dsimp only; simp; (repeat' split) <;> simp; done))

@[simp] theorem State.discardAll_frame (s : State) (l : List (Hander × OfficeFrame)) :
    (s.discardAll l).pending = s.pending ∧ (s.discardAll l).line = s.line ∧ (s.discardAll l).calls = s.calls ∧ (s.discardAll l).store = s.store ∧ (s.discardAll l).pressure = s.pressure ∧ (s.discardAll l).docs = s.docs ∧ (s.discardAll l).journal = s.journal ∧ (s.discardAll l).mail = s.mail ∧ (s.discardAll l).delivery = s.delivery ∧ (s.discardAll l).office = s.office ∧ (s.discardAll l).tables = s.tables ∧ (s.discardAll l).mgmt = s.mgmt ∧ (s.discardAll l).heldReset = s.heldReset := by
  induction l generalizing s with
  | nil => simp [State.discardAll]
  | cons x t ih =>
    refine ⟨?_, ?_, ?_, ?_, ?_, ?_, ?_, ?_, ?_, ?_, ?_, ?_, ?_⟩ <;> (rw [State.discardAll]; (try dsimp only); (repeat' split) <;> simp [ih])

@[simp] theorem State.countUnsent_frame (s : State) (p n : Nat) :
    (s.countUnsent p n).pending = s.pending ∧ (s.countUnsent p n).line = s.line ∧ (s.countUnsent p n).calls = s.calls ∧ (s.countUnsent p n).store = s.store ∧ (s.countUnsent p n).pressure = s.pressure ∧ (s.countUnsent p n).docs = s.docs ∧ (s.countUnsent p n).journal = s.journal ∧ (s.countUnsent p n).mail = s.mail ∧ (s.countUnsent p n).office = s.office ∧ (s.countUnsent p n).tables = s.tables ∧ (s.countUnsent p n).mgmt = s.mgmt ∧ (s.countUnsent p n).waiting = s.waiting ∧ (s.countUnsent p n).heldReset = s.heldReset := by
  refine ⟨?_, ?_, ?_, ?_, ?_, ?_, ?_, ?_, ?_, ?_, ?_, ?_, ?_⟩ <;> (unfold State.countUnsent; first | (simp; done) | ((repeat' split) <;> simp; done) | (dsimp only; (repeat' split) <;> simp; done) | (dsimp only; simp; (repeat' split) <;> simp; done))

@[simp] theorem State.returnSlot_frame (s : State) (p slot : Nat) (reason : ReturnReason) :
    (s.returnSlot p slot reason).pending = s.pending ∧ (s.returnSlot p slot reason).line = s.line ∧ (s.returnSlot p slot reason).calls = s.calls ∧ (s.returnSlot p slot reason).store = s.store ∧ (s.returnSlot p slot reason).pressure = s.pressure ∧ (s.returnSlot p slot reason).docs = s.docs ∧ (s.returnSlot p slot reason).journal = s.journal ∧ (s.returnSlot p slot reason).mail = s.mail ∧ (s.returnSlot p slot reason).tables = s.tables ∧ (s.returnSlot p slot reason).mgmt = s.mgmt ∧ (s.returnSlot p slot reason).heldReset = s.heldReset := by
  refine ⟨?_, ?_, ?_, ?_, ?_, ?_, ?_, ?_, ?_, ?_, ?_⟩ <;> (unfold State.returnSlot; first | (simp; done) | ((repeat' split) <;> simp; done) | (dsimp only; (repeat' split) <;> simp; done) | (dsimp only; simp; (repeat' split) <;> simp; done))

@[simp] theorem State.returnSlots_frame (s : State) (p : Nat) (slots : List Nat) (reason : ReturnReason) :
    (s.returnSlots p slots reason).pending = s.pending ∧ (s.returnSlots p slots reason).line = s.line ∧ (s.returnSlots p slots reason).calls = s.calls ∧ (s.returnSlots p slots reason).store = s.store ∧ (s.returnSlots p slots reason).pressure = s.pressure ∧ (s.returnSlots p slots reason).docs = s.docs ∧ (s.returnSlots p slots reason).journal = s.journal ∧ (s.returnSlots p slots reason).mail = s.mail ∧ (s.returnSlots p slots reason).tables = s.tables ∧ (s.returnSlots p slots reason).mgmt = s.mgmt ∧ (s.returnSlots p slots reason).heldReset = s.heldReset := by
  induction slots generalizing s p reason with
  | nil => simp [State.returnSlots]
  | cons x t ih =>
    refine ⟨?_, ?_, ?_, ?_, ?_, ?_, ?_, ?_, ?_, ?_, ?_⟩ <;> (rw [State.returnSlots]; (try dsimp only); (repeat' split) <;> simp [ih])

/-- The record of the latest request is all that noteTaken changes. -/
@[simp] theorem State.noteTaken_frame (s : State) (took : Bool) :
    (s.noteTaken took).pending = s.pending ∧ (s.noteTaken took).line = s.line ∧ (s.noteTaken took).calls = s.calls ∧ (s.noteTaken took).store = s.store ∧ (s.noteTaken took).pressure = s.pressure ∧ (s.noteTaken took).docs = s.docs ∧ (s.noteTaken took).journal = s.journal ∧ (s.noteTaken took).mail = s.mail ∧ (s.noteTaken took).delivery = s.delivery ∧ (s.noteTaken took).office = s.office ∧ (s.noteTaken took).tables = s.tables ∧ (s.noteTaken took).waiting = s.waiting ∧ (s.noteTaken took).heldReset = s.heldReset :=
  ⟨rfl, rfl, rfl, rfl, rfl, rfl, rfl, rfl, rfl, rfl, rfl, rfl, rfl⟩

@[simp] theorem State.noteTaken_mgmt (s : State) (took : Bool) :
    (s.noteTaken took).mgmt = { s.mgmt with tookSlot := took } := rfl

@[simp] theorem State.handReply_frame (s : State) :
    (s.handReply).pending = s.pending ∧ (s.handReply).line = s.line ∧ (s.handReply).calls = s.calls ∧ (s.handReply).store = s.store ∧ (s.handReply).pressure = s.pressure ∧ (s.handReply).docs = s.docs ∧ (s.handReply).journal = s.journal ∧ (s.handReply).mail = s.mail ∧ (s.handReply).delivery = s.delivery ∧ (s.handReply).tables = s.tables ∧ (s.handReply).heldReset = s.heldReset := by
  refine ⟨?_, ?_, ?_, ?_, ?_, ?_, ?_, ?_, ?_, ?_, ?_⟩ <;> (unfold State.handReply; first | (simp; done) | ((repeat' split) <;> simp; done) | (dsimp only; (repeat' split) <;> simp; done) | (dsimp only; simp; (repeat' split) <;> simp; done))

@[simp] theorem State.addReply_frame (s : State) (r : Reply) :
    (s.addReply r).pending = s.pending ∧ (s.addReply r).line = s.line ∧ (s.addReply r).calls = s.calls ∧ (s.addReply r).store = s.store ∧ (s.addReply r).pressure = s.pressure ∧ (s.addReply r).docs = s.docs ∧ (s.addReply r).journal = s.journal ∧ (s.addReply r).mail = s.mail ∧ (s.addReply r).delivery = s.delivery ∧ (s.addReply r).tables = s.tables ∧ (s.addReply r).heldReset = s.heldReset := by
  refine ⟨?_, ?_, ?_, ?_, ?_, ?_, ?_, ?_, ?_, ?_, ?_⟩ <;> (unfold State.addReply; first | (simp; done) | ((repeat' split) <;> simp; done) | (dsimp only; (repeat' split) <;> simp; done) | (dsimp only; simp; (repeat' split) <;> simp; done))

@[simp] theorem State.reply_frame (s : State) (h : ReqHead) (k : ReqKind) (result : Result) (body : ReplyBody) :
    (s.reply h k result body).pending = s.pending ∧ (s.reply h k result body).line = s.line ∧ (s.reply h k result body).calls = s.calls ∧ (s.reply h k result body).store = s.store ∧ (s.reply h k result body).pressure = s.pressure ∧ (s.reply h k result body).docs = s.docs ∧ (s.reply h k result body).journal = s.journal ∧ (s.reply h k result body).mail = s.mail ∧ (s.reply h k result body).delivery = s.delivery ∧ (s.reply h k result body).tables = s.tables ∧ (s.reply h k result body).heldReset = s.heldReset := by
  refine ⟨?_, ?_, ?_, ?_, ?_, ?_, ?_, ?_, ?_, ?_, ?_⟩ <;> (unfold State.reply; first | (simp; done) | ((repeat' split) <;> simp; done) | (dsimp only; (repeat' split) <;> simp; done) | (dsimp only; simp; (repeat' split) <;> simp; done))

@[simp] theorem State.immediate_frame (s : State) (h : ReqHead) (code : Nat) (result : Result) :
    (s.immediate h code result).pending = s.pending ∧ (s.immediate h code result).line = s.line ∧ (s.immediate h code result).calls = s.calls ∧ (s.immediate h code result).store = s.store ∧ (s.immediate h code result).pressure = s.pressure ∧ (s.immediate h code result).docs = s.docs ∧ (s.immediate h code result).journal = s.journal ∧ (s.immediate h code result).mail = s.mail ∧ (s.immediate h code result).delivery = s.delivery ∧ (s.immediate h code result).tables = s.tables ∧ (s.immediate h code result).heldReset = s.heldReset := by
  refine ⟨?_, ?_, ?_, ?_, ?_, ?_, ?_, ?_, ?_, ?_, ?_⟩ <;> (unfold State.immediate; first | (simp; done) | ((repeat' split) <;> simp; done) | (dsimp only; (repeat' split) <;> simp; done) | (dsimp only; simp; (repeat' split) <;> simp; done))

@[simp] theorem State.handNotice_frame (s : State) :
    (s.handNotice).pending = s.pending ∧ (s.handNotice).line = s.line ∧ (s.handNotice).calls = s.calls ∧ (s.handNotice).store = s.store ∧ (s.handNotice).pressure = s.pressure ∧ (s.handNotice).docs = s.docs ∧ (s.handNotice).journal = s.journal ∧ (s.handNotice).mail = s.mail ∧ (s.handNotice).delivery = s.delivery ∧ (s.handNotice).tables = s.tables ∧ (s.handNotice).heldReset = s.heldReset := by
  refine ⟨?_, ?_, ?_, ?_, ?_, ?_, ?_, ?_, ?_, ?_, ?_⟩ <;> (unfold State.handNotice; first | (simp; done) | ((repeat' split) <;> simp; done) | (dsimp only; (repeat' split) <;> simp; done) | (dsimp only; simp; (repeat' split) <;> simp; done))

@[simp] theorem State.officeSent_frame (s : State) (f : OfficeFrame) :
    (s.officeSent f).pending = s.pending ∧ (s.officeSent f).line = s.line ∧ (s.officeSent f).calls = s.calls ∧ (s.officeSent f).store = s.store ∧ (s.officeSent f).pressure = s.pressure ∧ (s.officeSent f).docs = s.docs ∧ (s.officeSent f).journal = s.journal ∧ (s.officeSent f).mail = s.mail ∧ (s.officeSent f).delivery = s.delivery ∧ (s.officeSent f).tables = s.tables ∧ (s.officeSent f).mgmt = s.mgmt ∧ (s.officeSent f).waiting = s.waiting ∧ (s.officeSent f).heldReset = s.heldReset := by
  refine ⟨?_, ?_, ?_, ?_, ?_, ?_, ?_, ?_, ?_, ?_, ?_, ?_, ?_⟩ <;> (unfold State.officeSent; first | (simp; done) | ((repeat' split) <;> simp; done) | (dsimp only; (repeat' split) <;> simp; done) | (dsimp only; simp; (repeat' split) <;> simp; done))

@[simp] theorem State.holdDoc_frame (s : State) (slot : Nat) (d : Doc) :
    (s.holdDoc slot d).pending = s.pending ∧ (s.holdDoc slot d).line = s.line ∧ (s.holdDoc slot d).calls = s.calls ∧ (s.holdDoc slot d).store = s.store ∧ (s.holdDoc slot d).pressure = s.pressure ∧ (s.holdDoc slot d).journal = s.journal ∧ (s.holdDoc slot d).delivery = s.delivery ∧ (s.holdDoc slot d).office = s.office ∧ (s.holdDoc slot d).tables = s.tables ∧ (s.holdDoc slot d).mgmt = s.mgmt ∧ (s.holdDoc slot d).heldReset = s.heldReset := by
  refine ⟨?_, ?_, ?_, ?_, ?_, ?_, ?_, ?_, ?_, ?_, ?_⟩ <;> (unfold State.holdDoc; first | (simp; done) | ((repeat' split) <;> simp; done) | (dsimp only; (repeat' split) <;> simp; done) | (dsimp only; simp; (repeat' split) <;> simp; done))

@[simp] theorem State.moveHeld_frame (s : State) (a b n : Nat) :
    (s.moveHeld a b n).pending = s.pending ∧ (s.moveHeld a b n).line = s.line ∧ (s.moveHeld a b n).calls = s.calls ∧ (s.moveHeld a b n).store = s.store ∧ (s.moveHeld a b n).pressure = s.pressure ∧ (s.moveHeld a b n).docs = s.docs ∧ (s.moveHeld a b n).journal = s.journal ∧ (s.moveHeld a b n).delivery = s.delivery ∧ (s.moveHeld a b n).office = s.office ∧ (s.moveHeld a b n).tables = s.tables ∧ (s.moveHeld a b n).mgmt = s.mgmt ∧ (s.moveHeld a b n).waiting = s.waiting ∧ (s.moveHeld a b n).heldReset = s.heldReset := by
  refine ⟨?_, ?_, ?_, ?_, ?_, ?_, ?_, ?_, ?_, ?_, ?_, ?_, ?_⟩ <;> (unfold State.moveHeld; first | (simp; done) | ((repeat' split) <;> simp; done) | (dsimp only; (repeat' split) <;> simp; done) | (dsimp only; simp; (repeat' split) <;> simp; done))

@[simp] theorem State.rerouteDoc_frame (s : State) (slot : Nat) (d : Doc) (t : Nat) :
    (s.rerouteDoc slot d t).pending = s.pending ∧ (s.rerouteDoc slot d t).line = s.line ∧ (s.rerouteDoc slot d t).calls = s.calls ∧ (s.rerouteDoc slot d t).store = s.store ∧ (s.rerouteDoc slot d t).pressure = s.pressure ∧ (s.rerouteDoc slot d t).journal = s.journal ∧ (s.rerouteDoc slot d t).delivery = s.delivery ∧ (s.rerouteDoc slot d t).office = s.office ∧ (s.rerouteDoc slot d t).tables = s.tables ∧ (s.rerouteDoc slot d t).mgmt = s.mgmt ∧ (s.rerouteDoc slot d t).heldReset = s.heldReset := by
  refine ⟨?_, ?_, ?_, ?_, ?_, ?_, ?_, ?_, ?_, ?_, ?_⟩ <;> (unfold State.rerouteDoc; first | (simp; done) | ((repeat' split) <;> simp; done) | (dsimp only; (repeat' split) <;> simp; done) | (dsimp only; simp; (repeat' split) <;> simp; done))

@[simp] theorem State.rerouteHeld_frame (s : State) (slot : Nat) (d : Doc) (t : Nat) :
    (s.rerouteHeld slot d t).pending = s.pending ∧ (s.rerouteHeld slot d t).line = s.line ∧ (s.rerouteHeld slot d t).calls = s.calls ∧ (s.rerouteHeld slot d t).store = s.store ∧ (s.rerouteHeld slot d t).pressure = s.pressure ∧ (s.rerouteHeld slot d t).journal = s.journal ∧ (s.rerouteHeld slot d t).delivery = s.delivery ∧ (s.rerouteHeld slot d t).office = s.office ∧ (s.rerouteHeld slot d t).tables = s.tables ∧ (s.rerouteHeld slot d t).mgmt = s.mgmt ∧ (s.rerouteHeld slot d t).waiting = s.waiting ∧ (s.rerouteHeld slot d t).heldReset = s.heldReset := by
  refine ⟨?_, ?_, ?_, ?_, ?_, ?_, ?_, ?_, ?_, ?_, ?_, ?_⟩ <;> (unfold State.rerouteHeld; first | (simp; done) | ((repeat' split) <;> simp; done) | (dsimp only; (repeat' split) <;> simp; done) | (dsimp only; simp; (repeat' split) <;> simp; done))

@[simp] theorem State.completeHold_frame (s : State) (h : ReqHead) (receipt : Nat) :
    (s.completeHold h receipt).pending = s.pending ∧ (s.completeHold h receipt).line = s.line ∧ (s.completeHold h receipt).calls = s.calls ∧ (s.completeHold h receipt).store = s.store ∧ (s.completeHold h receipt).pressure = s.pressure ∧ (s.completeHold h receipt).journal = s.journal ∧ (s.completeHold h receipt).delivery = s.delivery ∧ (s.completeHold h receipt).tables = s.tables ∧ (s.completeHold h receipt).heldReset = s.heldReset := by
  refine ⟨?_, ?_, ?_, ?_, ?_, ?_, ?_, ?_, ?_⟩ <;> (unfold State.completeHold; first | (simp; done) | ((repeat' split) <;> simp; done) | (dsimp only; (repeat' split) <;> simp; done) | (dsimp only; simp; (repeat' split) <;> simp; done))

@[simp] theorem State.rerouteTo_frame (s : State) (slot : Nat) (d : Doc) (t : Nat) :
    (s.rerouteTo slot d t).pending = s.pending ∧ (s.rerouteTo slot d t).line = s.line ∧ (s.rerouteTo slot d t).calls = s.calls ∧ (s.rerouteTo slot d t).store = s.store ∧ (s.rerouteTo slot d t).pressure = s.pressure ∧ (s.rerouteTo slot d t).journal = s.journal ∧ (s.rerouteTo slot d t).delivery = s.delivery ∧ (s.rerouteTo slot d t).office = s.office ∧ (s.rerouteTo slot d t).tables = s.tables ∧ (s.rerouteTo slot d t).mgmt = s.mgmt ∧ (s.rerouteTo slot d t).heldReset = s.heldReset := by
  refine ⟨?_, ?_, ?_, ?_, ?_, ?_, ?_, ?_, ?_, ?_, ?_⟩ <;> (unfold State.rerouteTo; first | (simp; done) | ((repeat' split) <;> simp; done) | (dsimp only; (repeat' split) <;> simp; done) | (dsimp only; simp; (repeat' split) <;> simp; done))

@[simp] theorem State.completeReroute_frame (s : State) (h : ReqHead) (receipt t : Nat) :
    (s.completeReroute h receipt t).pending = s.pending ∧ (s.completeReroute h receipt t).line = s.line ∧ (s.completeReroute h receipt t).calls = s.calls ∧ (s.completeReroute h receipt t).store = s.store ∧ (s.completeReroute h receipt t).pressure = s.pressure ∧ (s.completeReroute h receipt t).journal = s.journal ∧ (s.completeReroute h receipt t).delivery = s.delivery ∧ (s.completeReroute h receipt t).tables = s.tables ∧ (s.completeReroute h receipt t).heldReset = s.heldReset := by
  refine ⟨?_, ?_, ?_, ?_, ?_, ?_, ?_, ?_, ?_⟩ <;> (unfold State.completeReroute; first | (simp; done) | ((repeat' split) <;> simp; done) | (dsimp only; (repeat' split) <;> simp; done) | (dsimp only; simp; (repeat' split) <;> simp; done))

@[simp] theorem State.completePurge_frame (s : State) (h : ReqHead) (receipt : Nat) :
    (s.completePurge h receipt).pending = s.pending ∧ (s.completePurge h receipt).line = s.line ∧ (s.completePurge h receipt).calls = s.calls ∧ (s.completePurge h receipt).journal = s.journal ∧ (s.completePurge h receipt).delivery = s.delivery ∧ (s.completePurge h receipt).tables = s.tables ∧ (s.completePurge h receipt).heldReset = s.heldReset := by
  refine ⟨?_, ?_, ?_, ?_, ?_, ?_, ?_⟩ <;> (unfold State.completePurge; first | (simp; done) | ((repeat' split) <;> simp; done) | (dsimp only; (repeat' split) <;> simp; done) | (dsimp only; simp; (repeat' split) <;> simp; done))

@[simp] theorem State.completeDeferred_frame (s : State) (receipt : Nat) :
    (s.completeDeferred receipt).pending = s.pending ∧ (s.completeDeferred receipt).line = s.line ∧ (s.completeDeferred receipt).calls = s.calls ∧ (s.completeDeferred receipt).journal = s.journal ∧ (s.completeDeferred receipt).delivery = s.delivery ∧ (s.completeDeferred receipt).tables = s.tables ∧ (s.completeDeferred receipt).heldReset = s.heldReset := by
  refine ⟨?_, ?_, ?_, ?_, ?_, ?_, ?_⟩ <;> (unfold State.completeDeferred; first | (simp; done) | ((repeat' split) <;> simp; done) | (dsimp only; (repeat' split) <;> simp; done) | (dsimp only; simp; (repeat' split) <;> simp; done))

@[simp] theorem State.handLane_frame (s : State) (i : Nat) :
    (s.handLane i).pending = s.pending ∧ (s.handLane i).line = s.line ∧ (s.handLane i).calls = s.calls ∧ (s.handLane i).store = s.store ∧ (s.handLane i).pressure = s.pressure ∧ (s.handLane i).docs = s.docs ∧ (s.handLane i).journal = s.journal ∧ (s.handLane i).mail = s.mail ∧ (s.handLane i).tables = s.tables ∧ (s.handLane i).mgmt = s.mgmt ∧ (s.handLane i).heldReset = s.heldReset := by
  refine ⟨?_, ?_, ?_, ?_, ?_, ?_, ?_, ?_, ?_, ?_, ?_⟩ <;> (unfold State.handLane; first | (simp; done) | ((repeat' split) <;> simp; done) | (dsimp only; (repeat' split) <;> simp; done) | (dsimp only; simp; (repeat' split) <;> simp; done))

@[simp] theorem State.produce_frame (s : State) (i : Nat) (fs : List OfficeFrame) :
    (s.produce i fs).pending = s.pending ∧ (s.produce i fs).line = s.line ∧ (s.produce i fs).calls = s.calls ∧ (s.produce i fs).store = s.store ∧ (s.produce i fs).pressure = s.pressure ∧ (s.produce i fs).docs = s.docs ∧ (s.produce i fs).journal = s.journal ∧ (s.produce i fs).mail = s.mail ∧ (s.produce i fs).office = s.office ∧ (s.produce i fs).tables = s.tables ∧ (s.produce i fs).mgmt = s.mgmt ∧ (s.produce i fs).waiting = s.waiting ∧ (s.produce i fs).heldReset = s.heldReset := by
  refine ⟨?_, ?_, ?_, ?_, ?_, ?_, ?_, ?_, ?_, ?_, ?_, ?_, ?_⟩ <;> (unfold State.produce; first | (simp; done) | ((repeat' split) <;> simp; done) | (dsimp only; (repeat' split) <;> simp; done) | (dsimp only; simp; (repeat' split) <;> simp; done))

@[simp] theorem State.laneReads_frame (s : State) (i : Nat) :
    (s.laneReads i).pending = s.pending ∧ (s.laneReads i).line = s.line ∧ (s.laneReads i).pressure = s.pressure ∧ (s.laneReads i).docs = s.docs ∧ (s.laneReads i).journal = s.journal ∧ (s.laneReads i).mail = s.mail ∧ (s.laneReads i).office = s.office ∧ (s.laneReads i).tables = s.tables ∧ (s.laneReads i).mgmt = s.mgmt ∧ (s.laneReads i).waiting = s.waiting ∧ (s.laneReads i).heldReset = s.heldReset := by
  refine ⟨?_, ?_, ?_, ?_, ?_, ?_, ?_, ?_, ?_, ?_, ?_⟩ <;> (unfold State.laneReads; first | (simp; done) | ((repeat' split) <;> simp; done) | (dsimp only; (repeat' split) <;> simp; done) | (dsimp only; simp; (repeat' split) <;> simp; done))

@[simp] theorem State.returnSmall_frame (s : State) (i p : Nat) (small : List IntakeSlot) :
    (s.returnSmall i p small).pending = s.pending ∧ (s.returnSmall i p small).line = s.line ∧ (s.returnSmall i p small).calls = s.calls ∧ (s.returnSmall i p small).store = s.store ∧ (s.returnSmall i p small).pressure = s.pressure ∧ (s.returnSmall i p small).docs = s.docs ∧ (s.returnSmall i p small).journal = s.journal ∧ (s.returnSmall i p small).mail = s.mail ∧ (s.returnSmall i p small).office = s.office ∧ (s.returnSmall i p small).tables = s.tables ∧ (s.returnSmall i p small).mgmt = s.mgmt ∧ (s.returnSmall i p small).waiting = s.waiting ∧ (s.returnSmall i p small).heldReset = s.heldReset := by
  refine ⟨?_, ?_, ?_, ?_, ?_, ?_, ?_, ?_, ?_, ?_, ?_, ?_, ?_⟩ <;> (unfold State.returnSmall; first | (simp; done) | ((repeat' split) <;> simp; done) | (dsimp only; (repeat' split) <;> simp; done) | (dsimp only; simp; (repeat' split) <;> simp; done))

@[simp] theorem State.sendPage_frame (s : State) (i p slot : Nat) (b : BufId) (rest : List BufId) (k : Nat) (bytes : List Byte) :
    (s.sendPage i p slot b rest k bytes).pending = s.pending ∧ (s.sendPage i p slot b rest k bytes).line = s.line ∧ (s.sendPage i p slot b rest k bytes).pressure = s.pressure ∧ (s.sendPage i p slot b rest k bytes).docs = s.docs ∧ (s.sendPage i p slot b rest k bytes).journal = s.journal ∧ (s.sendPage i p slot b rest k bytes).mail = s.mail ∧ (s.sendPage i p slot b rest k bytes).office = s.office ∧ (s.sendPage i p slot b rest k bytes).tables = s.tables ∧ (s.sendPage i p slot b rest k bytes).mgmt = s.mgmt ∧ (s.sendPage i p slot b rest k bytes).waiting = s.waiting ∧ (s.sendPage i p slot b rest k bytes).heldReset = s.heldReset := by
  refine ⟨?_, ?_, ?_, ?_, ?_, ?_, ?_, ?_, ?_, ?_, ?_⟩ <;> (unfold State.sendPage; first | (simp; done) | ((repeat' split) <;> simp; done) | (dsimp only; (repeat' split) <;> simp; done) | (dsimp only; simp; (repeat' split) <;> simp; done))

@[simp] theorem State.awaitSlot_frame (s : State) (i p : Nat) :
    (s.awaitSlot i p).pending = s.pending ∧ (s.awaitSlot i p).line = s.line ∧ (s.awaitSlot i p).calls = s.calls ∧ (s.awaitSlot i p).store = s.store ∧ (s.awaitSlot i p).pressure = s.pressure ∧ (s.awaitSlot i p).docs = s.docs ∧ (s.awaitSlot i p).journal = s.journal ∧ (s.awaitSlot i p).mail = s.mail ∧ (s.awaitSlot i p).office = s.office ∧ (s.awaitSlot i p).tables = s.tables ∧ (s.awaitSlot i p).mgmt = s.mgmt ∧ (s.awaitSlot i p).waiting = s.waiting ∧ (s.awaitSlot i p).heldReset = s.heldReset := by
  refine ⟨?_, ?_, ?_, ?_, ?_, ?_, ?_, ?_, ?_, ?_, ?_, ?_, ?_⟩ <;> (unfold State.awaitSlot; first | (simp; done) | ((repeat' split) <;> simp; done) | (dsimp only; (repeat' split) <;> simp; done) | (dsimp only; simp; (repeat' split) <;> simp; done))

@[simp] theorem State.tryPage_frame (s : State) (i p : Nat) (b : BufId) (rest : List BufId) (k : Nat) (bytes : List Byte) :
    (s.tryPage i p b rest k bytes).pending = s.pending ∧ (s.tryPage i p b rest k bytes).line = s.line ∧ (s.tryPage i p b rest k bytes).pressure = s.pressure ∧ (s.tryPage i p b rest k bytes).docs = s.docs ∧ (s.tryPage i p b rest k bytes).journal = s.journal ∧ (s.tryPage i p b rest k bytes).mail = s.mail ∧ (s.tryPage i p b rest k bytes).office = s.office ∧ (s.tryPage i p b rest k bytes).tables = s.tables ∧ (s.tryPage i p b rest k bytes).mgmt = s.mgmt ∧ (s.tryPage i p b rest k bytes).waiting = s.waiting ∧ (s.tryPage i p b rest k bytes).heldReset = s.heldReset := by
  refine ⟨?_, ?_, ?_, ?_, ?_, ?_, ?_, ?_, ?_, ?_, ?_⟩ <;> (unfold State.tryPage; first | (simp; done) | ((repeat' split) <;> simp; done) | (dsimp only; (repeat' split) <;> simp; done) | (dsimp only; simp; (repeat' split) <;> simp; done))

@[simp] theorem State.laneBegins_frame (s : State) (i : Nat) :
    (s.laneBegins i).pending = s.pending ∧ (s.laneBegins i).line = s.line ∧ (s.laneBegins i).pressure = s.pressure ∧ (s.laneBegins i).docs = s.docs ∧ (s.laneBegins i).journal = s.journal ∧ (s.laneBegins i).mail = s.mail ∧ (s.laneBegins i).office = s.office ∧ (s.laneBegins i).tables = s.tables ∧ (s.laneBegins i).mgmt = s.mgmt ∧ (s.laneBegins i).waiting = s.waiting ∧ (s.laneBegins i).heldReset = s.heldReset := by
  refine ⟨?_, ?_, ?_, ?_, ?_, ?_, ?_, ?_, ?_, ?_, ?_⟩ <;> (unfold State.laneBegins; first | (simp; done) | ((repeat' split) <;> simp; done) | (dsimp only; (repeat' split) <;> simp; done) | (dsimp only; simp; (repeat' split) <;> simp; done))

@[simp] theorem State.laneOn_frame (s : State) (i : Nat) :
    (s.laneOn i).pending = s.pending ∧ (s.laneOn i).line = s.line ∧ (s.laneOn i).pressure = s.pressure ∧ (s.laneOn i).docs = s.docs ∧ (s.laneOn i).journal = s.journal ∧ (s.laneOn i).mail = s.mail ∧ (s.laneOn i).tables = s.tables ∧ (s.laneOn i).mgmt = s.mgmt ∧ (s.laneOn i).heldReset = s.heldReset := by
  refine ⟨?_, ?_, ?_, ?_, ?_, ?_, ?_, ?_, ?_⟩ <;> (unfold State.laneOn; first | (simp; done) | ((repeat' split) <;> simp; done) | (dsimp only; (repeat' split) <;> simp; done) | (dsimp only; simp; (repeat' split) <;> simp; done))

@[simp] theorem State.endLane_frame (s : State) (i : Nat) :
    (s.endLane i).pending = s.pending ∧ (s.endLane i).line = s.line ∧ (s.endLane i).calls = s.calls ∧ (s.endLane i).store = s.store ∧ (s.endLane i).pressure = s.pressure ∧ (s.endLane i).docs = s.docs ∧ (s.endLane i).journal = s.journal ∧ (s.endLane i).mail = s.mail ∧ (s.endLane i).tables = s.tables ∧ (s.endLane i).mgmt = s.mgmt ∧ (s.endLane i).heldReset = s.heldReset := by
  refine ⟨?_, ?_, ?_, ?_, ?_, ?_, ?_, ?_, ?_, ?_, ?_⟩ <;> (unfold State.endLane; first | (simp; done) | ((repeat' split) <;> simp; done) | (dsimp only; (repeat' split) <;> simp; done) | (dsimp only; simp; (repeat' split) <;> simp; done))

@[simp] theorem State.completeIf_frame (s : State) (was : LaneState) (receipt : Nat) :
    (s.completeIf was receipt).pending = s.pending ∧ (s.completeIf was receipt).line = s.line ∧ (s.completeIf was receipt).calls = s.calls ∧ (s.completeIf was receipt).journal = s.journal ∧ (s.completeIf was receipt).delivery = s.delivery ∧ (s.completeIf was receipt).tables = s.tables ∧ (s.completeIf was receipt).heldReset = s.heldReset := by
  refine ⟨?_, ?_, ?_, ?_, ?_, ?_, ?_⟩ <;> (unfold State.completeIf; first | (simp; done) | ((repeat' split) <;> simp; done) | (dsimp only; (repeat' split) <;> simp; done) | (dsimp only; simp; (repeat' split) <;> simp; done))

@[simp] theorem State.handBack_frame (s : State) (slot : Nat) (d : Doc) (notBefore : Option Nat) :
    (s.handBack slot d notBefore).pending = s.pending ∧ (s.handBack slot d notBefore).line = s.line ∧ (s.handBack slot d notBefore).calls = s.calls ∧ (s.handBack slot d notBefore).store = s.store ∧ (s.handBack slot d notBefore).pressure = s.pressure ∧ (s.handBack slot d notBefore).journal = s.journal ∧ (s.handBack slot d notBefore).delivery = s.delivery ∧ (s.handBack slot d notBefore).office = s.office ∧ (s.handBack slot d notBefore).tables = s.tables ∧ (s.handBack slot d notBefore).mgmt = s.mgmt ∧ (s.handBack slot d notBefore).heldReset = s.heldReset := by
  refine ⟨?_, ?_, ?_, ?_, ?_, ?_, ?_, ?_, ?_, ?_, ?_⟩ <;> (unfold State.handBack; first | (simp; done) | ((repeat' split) <;> simp; done) | (dsimp only; (repeat' split) <;> simp; done) | (dsimp only; simp; (repeat' split) <;> simp; done))

@[simp] theorem State.afterAttempt_frame (s : State) (slot : Nat) (d : Doc) :
    (s.afterAttempt slot d).pending = s.pending ∧ (s.afterAttempt slot d).line = s.line ∧ (s.afterAttempt slot d).calls = s.calls ∧ (s.afterAttempt slot d).store = s.store ∧ (s.afterAttempt slot d).pressure = s.pressure ∧ (s.afterAttempt slot d).journal = s.journal ∧ (s.afterAttempt slot d).delivery = s.delivery ∧ (s.afterAttempt slot d).office = s.office ∧ (s.afterAttempt slot d).tables = s.tables ∧ (s.afterAttempt slot d).mgmt = s.mgmt ∧ (s.afterAttempt slot d).heldReset = s.heldReset := by
  refine ⟨?_, ?_, ?_, ?_, ?_, ?_, ?_, ?_, ?_, ?_, ?_⟩ <;> (unfold State.afterAttempt; first | (simp; done) | ((repeat' split) <;> simp; done) | (dsimp only; (repeat' split) <;> simp; done) | (dsimp only; simp; (repeat' split) <;> simp; done))

@[simp] theorem State.failPoint_frame (s : State) (p : Nat) (reason : SuspendReason) :
    (s.failPoint p reason).pending = s.pending ∧ (s.failPoint p reason).line = s.line ∧ (s.failPoint p reason).calls = s.calls ∧ (s.failPoint p reason).store = s.store ∧ (s.failPoint p reason).pressure = s.pressure ∧ (s.failPoint p reason).docs = s.docs ∧ (s.failPoint p reason).journal = s.journal ∧ (s.failPoint p reason).mail = s.mail ∧ (s.failPoint p reason).office = s.office ∧ (s.failPoint p reason).tables = s.tables ∧ (s.failPoint p reason).mgmt = s.mgmt ∧ (s.failPoint p reason).heldReset = s.heldReset := by
  refine ⟨?_, ?_, ?_, ?_, ?_, ?_, ?_, ?_, ?_, ?_, ?_, ?_⟩ <;> (unfold State.failPoint; first | (simp; done) | ((repeat' split) <;> simp; done) | (dsimp only; (repeat' split) <;> simp; done) | (dsimp only; simp; (repeat' split) <;> simp; done))

@[simp] theorem State.suspendNotices_frame (s : State) (p : Nat) (d : Doc) (reason : SuspendReason) :
    (s.suspendNotices p d reason).pending = s.pending ∧ (s.suspendNotices p d reason).line = s.line ∧ (s.suspendNotices p d reason).calls = s.calls ∧ (s.suspendNotices p d reason).store = s.store ∧ (s.suspendNotices p d reason).pressure = s.pressure ∧ (s.suspendNotices p d reason).docs = s.docs ∧ (s.suspendNotices p d reason).journal = s.journal ∧ (s.suspendNotices p d reason).mail = s.mail ∧ (s.suspendNotices p d reason).delivery = s.delivery ∧ (s.suspendNotices p d reason).office = s.office ∧ (s.suspendNotices p d reason).tables = s.tables ∧ (s.suspendNotices p d reason).mgmt = s.mgmt ∧ (s.suspendNotices p d reason).heldReset = s.heldReset := by
  refine ⟨?_, ?_, ?_, ?_, ?_, ?_, ?_, ?_, ?_, ?_, ?_, ?_, ?_⟩ <;> (unfold State.suspendNotices; first | (simp; done) | ((repeat' split) <;> simp; done) | (dsimp only; (repeat' split) <;> simp; done) | (dsimp only; simp; (repeat' split) <;> simp; done))

@[simp] theorem State.suspendCounted_frame (s : State) (i : Nat) (reason : SuspendReason) :
    (s.suspendCounted i reason).pending = s.pending ∧ (s.suspendCounted i reason).line = s.line ∧ (s.suspendCounted i reason).calls = s.calls ∧ (s.suspendCounted i reason).journal = s.journal ∧ (s.suspendCounted i reason).tables = s.tables ∧ (s.suspendCounted i reason).heldReset = s.heldReset := by
  refine ⟨?_, ?_, ?_, ?_, ?_, ?_⟩ <;> (unfold State.suspendCounted; first | (simp; done) | ((repeat' split) <;> simp; done) | (dsimp only; (repeat' split) <;> simp; done) | (dsimp only; simp; (repeat' split) <;> simp; done))

@[simp] theorem State.suspendUncounted_frame (s : State) (i : Nat) (reason : SuspendReason) :
    (s.suspendUncounted i reason).pending = s.pending ∧ (s.suspendUncounted i reason).line = s.line ∧ (s.suspendUncounted i reason).calls = s.calls ∧ (s.suspendUncounted i reason).journal = s.journal ∧ (s.suspendUncounted i reason).tables = s.tables ∧ (s.suspendUncounted i reason).heldReset = s.heldReset := by
  refine ⟨?_, ?_, ?_, ?_, ?_, ?_⟩ <;> (unfold State.suspendUncounted; first | (simp; done) | ((repeat' split) <;> simp; done) | (dsimp only; (repeat' split) <;> simp; done) | (dsimp only; simp; (repeat' split) <;> simp; done))

@[simp] theorem State.suspendServing_frame (s : State) (p : Nat) (reason : SuspendReason) :
    (s.suspendServing p reason).pending = s.pending ∧ (s.suspendServing p reason).line = s.line ∧ (s.suspendServing p reason).calls = s.calls ∧ (s.suspendServing p reason).journal = s.journal ∧ (s.suspendServing p reason).tables = s.tables ∧ (s.suspendServing p reason).heldReset = s.heldReset := by
  refine ⟨?_, ?_, ?_, ?_, ?_, ?_⟩ <;> (unfold State.suspendServing; first | (simp; done) | ((repeat' split) <;> simp; done) | (dsimp only; (repeat' split) <;> simp; done) | (dsimp only; simp; (repeat' split) <;> simp; done))

@[simp] theorem State.delivered_frame (s : State) (slot : Nat) (d : Doc) :
    (s.delivered slot d).pending = s.pending ∧ (s.delivered slot d).line = s.line ∧ (s.delivered slot d).calls = s.calls ∧ (s.delivered slot d).journal = s.journal ∧ (s.delivered slot d).delivery = s.delivery ∧ (s.delivered slot d).office = s.office ∧ (s.delivered slot d).tables = s.tables ∧ (s.delivered slot d).mgmt = s.mgmt ∧ (s.delivered slot d).heldReset = s.heldReset := by
  refine ⟨?_, ?_, ?_, ?_, ?_, ?_, ?_, ?_, ?_⟩ <;> (unfold State.delivered; first | (simp; done) | ((repeat' split) <;> simp; done) | (dsimp only; (repeat' split) <;> simp; done) | (dsimp only; simp; (repeat' split) <;> simp; done))

@[simp] theorem State.completeDelivery_frame (s : State) (i slot : Nat) (d : Doc) (p : Nat) :
    (s.completeDelivery i slot d p).pending = s.pending ∧ (s.completeDelivery i slot d p).line = s.line ∧ (s.completeDelivery i slot d p).calls = s.calls ∧ (s.completeDelivery i slot d p).journal = s.journal ∧ (s.completeDelivery i slot d p).tables = s.tables ∧ (s.completeDelivery i slot d p).heldReset = s.heldReset := by
  refine ⟨?_, ?_, ?_, ?_, ?_, ?_⟩ <;> (unfold State.completeDelivery; first | (simp; done) | ((repeat' split) <;> simp; done) | (dsimp only; (repeat' split) <;> simp; done) | (dsimp only; simp; (repeat' split) <;> simp; done))

@[simp] theorem State.endWithdrawal_frame (s : State) (i : Nat) :
    (s.endWithdrawal i).pending = s.pending ∧ (s.endWithdrawal i).line = s.line ∧ (s.endWithdrawal i).calls = s.calls ∧ (s.endWithdrawal i).journal = s.journal ∧ (s.endWithdrawal i).tables = s.tables ∧ (s.endWithdrawal i).heldReset = s.heldReset := by
  refine ⟨?_, ?_, ?_, ?_, ?_, ?_⟩ <;> (unfold State.endWithdrawal; first | (simp; done) | ((repeat' split) <;> simp; done) | (dsimp only; (repeat' split) <;> simp; done) | (dsimp only; simp; (repeat' split) <;> simp; done))

@[simp] theorem State.withdrawalMayEnd_frame (s : State) (i : Nat) :
    (s.withdrawalMayEnd i).pending = s.pending ∧ (s.withdrawalMayEnd i).line = s.line ∧ (s.withdrawalMayEnd i).calls = s.calls ∧ (s.withdrawalMayEnd i).journal = s.journal ∧ (s.withdrawalMayEnd i).tables = s.tables ∧ (s.withdrawalMayEnd i).heldReset = s.heldReset := by
  refine ⟨?_, ?_, ?_, ?_, ?_, ?_⟩ <;> (unfold State.withdrawalMayEnd; first | (simp; done) | ((repeat' split) <;> simp; done) | (dsimp only; (repeat' split) <;> simp; done) | (dsimp only; simp; (repeat' split) <;> simp; done))

@[simp] theorem State.ackPage_frame (s : State) (i slot : Nat) (d : Doc) (p : Nat) (b : BufId) (k : Nat) :
    (s.ackPage i slot d p b k).pending = s.pending ∧ (s.ackPage i slot d p b k).line = s.line ∧ (s.ackPage i slot d p b k).store = s.store ∧ (s.ackPage i slot d p b k).pressure = s.pressure ∧ (s.ackPage i slot d p b k).journal = s.journal ∧ (s.ackPage i slot d p b k).mail = s.mail ∧ (s.ackPage i slot d p b k).office = s.office ∧ (s.ackPage i slot d p b k).tables = s.tables ∧ (s.ackPage i slot d p b k).mgmt = s.mgmt ∧ (s.ackPage i slot d p b k).waiting = s.waiting ∧ (s.ackPage i slot d p b k).heldReset = s.heldReset := by
  refine ⟨?_, ?_, ?_, ?_, ?_, ?_, ?_, ?_, ?_, ?_, ?_⟩ <;> (unfold State.ackPage; first | (simp; done) | ((repeat' split) <;> simp; done) | (dsimp only; (repeat' split) <;> simp; done) | (dsimp only; simp; (repeat' split) <;> simp; done))

@[simp] theorem State.pointError_frame (s : State) (p : Nat) :
    (s.pointError p).pending = s.pending ∧ (s.pointError p).line = s.line ∧ (s.pointError p).calls = s.calls ∧ (s.pointError p).store = s.store ∧ (s.pointError p).pressure = s.pressure ∧ (s.pointError p).docs = s.docs ∧ (s.pointError p).journal = s.journal ∧ (s.pointError p).mail = s.mail ∧ (s.pointError p).office = s.office ∧ (s.pointError p).tables = s.tables ∧ (s.pointError p).mgmt = s.mgmt ∧ (s.pointError p).waiting = s.waiting ∧ (s.pointError p).heldReset = s.heldReset := by
  refine ⟨?_, ?_, ?_, ?_, ?_, ?_, ?_, ?_, ?_, ?_, ?_, ?_, ?_⟩ <;> (unfold State.pointError; first | (simp; done) | ((repeat' split) <;> simp; done) | (dsimp only; (repeat' split) <;> simp; done) | (dsimp only; simp; (repeat' split) <;> simp; done))

@[simp] theorem State.pointUp_frame (s : State) (p : Nat) :
    (s.pointUp p).pending = s.pending ∧ (s.pointUp p).line = s.line ∧ (s.pointUp p).calls = s.calls ∧ (s.pointUp p).journal = s.journal ∧ (s.pointUp p).tables = s.tables ∧ (s.pointUp p).heldReset = s.heldReset := by
  refine ⟨?_, ?_, ?_, ?_, ?_, ?_⟩ <;> (unfold State.pointUp; first | (simp; done) | ((repeat' split) <;> simp; done) | (dsimp only; (repeat' split) <;> simp; done) | (dsimp only; simp; (repeat' split) <;> simp; done))

@[simp] theorem State.pointOff_frame (s : State) (p : Nat) :
    (s.pointOff p).pending = s.pending ∧ (s.pointOff p).line = s.line ∧ (s.pointOff p).calls = s.calls ∧ (s.pointOff p).store = s.store ∧ (s.pointOff p).pressure = s.pressure ∧ (s.pointOff p).docs = s.docs ∧ (s.pointOff p).journal = s.journal ∧ (s.pointOff p).mail = s.mail ∧ (s.pointOff p).office = s.office ∧ (s.pointOff p).tables = s.tables ∧ (s.pointOff p).mgmt = s.mgmt ∧ (s.pointOff p).heldReset = s.heldReset := by
  refine ⟨?_, ?_, ?_, ?_, ?_, ?_, ?_, ?_, ?_, ?_, ?_, ?_⟩ <;> (unfold State.pointOff; first | (simp; done) | ((repeat' split) <;> simp; done) | (dsimp only; (repeat' split) <;> simp; done) | (dsimp only; simp; (repeat' split) <;> simp; done))

@[simp] theorem State.pointDown_frame (s : State) (p : Nat) :
    (s.pointDown p).pending = s.pending ∧ (s.pointDown p).line = s.line ∧ (s.pointDown p).calls = s.calls ∧ (s.pointDown p).journal = s.journal ∧ (s.pointDown p).tables = s.tables ∧ (s.pointDown p).heldReset = s.heldReset := by
  refine ⟨?_, ?_, ?_, ?_, ?_, ?_⟩ <;> (unfold State.pointDown; first | (simp; done) | ((repeat' split) <;> simp; done) | (dsimp only; (repeat' split) <;> simp; done) | (dsimp only; simp; (repeat' split) <;> simp; done))

@[simp] theorem State.clearSends_frame (s : State) (pages : List Nat) :
    (s.clearSends pages).pending = s.pending ∧ (s.clearSends pages).line = s.line ∧ (s.clearSends pages).calls = s.calls ∧ (s.clearSends pages).pressure = s.pressure ∧ (s.clearSends pages).docs = s.docs ∧ (s.clearSends pages).journal = s.journal ∧ (s.clearSends pages).mail = s.mail ∧ (s.clearSends pages).delivery = s.delivery ∧ (s.clearSends pages).office = s.office ∧ (s.clearSends pages).tables = s.tables ∧ (s.clearSends pages).mgmt = s.mgmt ∧ (s.clearSends pages).waiting = s.waiting ∧ (s.clearSends pages).heldReset = s.heldReset := by
  refine ⟨?_, ?_, ?_, ?_, ?_, ?_, ?_, ?_, ?_, ?_, ?_, ?_, ?_⟩ <;> (unfold State.clearSends; first | (simp; done) | ((repeat' split) <;> simp; done) | (dsimp only; (repeat' split) <;> simp; done) | (dsimp only; simp; (repeat' split) <;> simp; done))

@[simp] theorem State.accepted_frame (s : State) (i : Nat) (d : Doc) :
    (s.accepted i d).pending = s.pending ∧ (s.accepted i d).line = s.line ∧ (s.accepted i d).pressure = s.pressure ∧ (s.accepted i d).docs = s.docs ∧ (s.accepted i d).journal = s.journal ∧ (s.accepted i d).mail = s.mail ∧ (s.accepted i d).tables = s.tables ∧ (s.accepted i d).mgmt = s.mgmt ∧ (s.accepted i d).heldReset = s.heldReset := by
  refine ⟨?_, ?_, ?_, ?_, ?_, ?_, ?_, ?_, ?_⟩ <;> (unfold State.accepted; first | (simp; done) | ((repeat' split) <;> simp; done) | (dsimp only; (repeat' split) <;> simp; done) | (dsimp only; simp; (repeat' split) <;> simp; done))

@[simp] theorem State.declined_frame (s : State) (i slot : Nat) (d : Doc) (p retry : Nat) :
    (s.declined i slot d p retry).pending = s.pending ∧ (s.declined i slot d p retry).line = s.line ∧ (s.declined i slot d p retry).calls = s.calls ∧ (s.declined i slot d p retry).store = s.store ∧ (s.declined i slot d p retry).pressure = s.pressure ∧ (s.declined i slot d p retry).journal = s.journal ∧ (s.declined i slot d p retry).tables = s.tables ∧ (s.declined i slot d p retry).mgmt = s.mgmt ∧ (s.declined i slot d p retry).heldReset = s.heldReset := by
  refine ⟨?_, ?_, ?_, ?_, ?_, ?_, ?_, ?_, ?_⟩ <;> (unfold State.declined; first | (simp; done) | ((repeat' split) <;> simp; done) | (dsimp only; (repeat' split) <;> simp; done) | (dsimp only; simp; (repeat' split) <;> simp; done))

@[simp] theorem State.tryWaiting_frame (s : State) (p : Nat) :
    (s.tryWaiting p).pending = s.pending ∧ (s.tryWaiting p).line = s.line ∧ (s.tryWaiting p).pressure = s.pressure ∧ (s.tryWaiting p).docs = s.docs ∧ (s.tryWaiting p).journal = s.journal ∧ (s.tryWaiting p).mail = s.mail ∧ (s.tryWaiting p).tables = s.tables ∧ (s.tryWaiting p).mgmt = s.mgmt ∧ (s.tryWaiting p).heldReset = s.heldReset := by
  refine ⟨?_, ?_, ?_, ?_, ?_, ?_, ?_, ?_, ?_⟩ <;> (unfold State.tryWaiting; first | (simp; done) | ((repeat' split) <;> simp; done) | (dsimp only; (repeat' split) <;> simp; done) | (dsimp only; simp; (repeat' split) <;> simp; done))

@[simp] theorem State.intakePost_frame (s : State) (p slot cap : Nat) :
    (s.intakePost p slot cap).pending = s.pending ∧ (s.intakePost p slot cap).line = s.line ∧ (s.intakePost p slot cap).pressure = s.pressure ∧ (s.intakePost p slot cap).docs = s.docs ∧ (s.intakePost p slot cap).journal = s.journal ∧ (s.intakePost p slot cap).mail = s.mail ∧ (s.intakePost p slot cap).tables = s.tables ∧ (s.intakePost p slot cap).mgmt = s.mgmt ∧ (s.intakePost p slot cap).heldReset = s.heldReset := by
  refine ⟨?_, ?_, ?_, ?_, ?_, ?_, ?_, ?_, ?_⟩ <;> (unfold State.intakePost; first | (simp; done) | ((repeat' split) <;> simp; done) | (dsimp only; (repeat' split) <;> simp; done) | (dsimp only; simp; (repeat' split) <;> simp; done))

@[simp] theorem State.pageAcked_frame (s : State) (i p : Nat) (b : BufId) (k : Nat) :
    (s.pageAcked i p b k).pending = s.pending ∧ (s.pageAcked i p b k).line = s.line ∧ (s.pageAcked i p b k).journal = s.journal ∧ (s.pageAcked i p b k).tables = s.tables ∧ (s.pageAcked i p b k).heldReset = s.heldReset := by
  refine ⟨?_, ?_, ?_, ?_, ?_⟩ <;> (unfold State.pageAcked; first | (simp; done) | ((repeat' split) <;> simp; done) | (dsimp only; (repeat' split) <;> simp; done) | (dsimp only; simp; (repeat' split) <;> simp; done))

@[simp] theorem State.pageRefused_frame (s : State) (i : Nat) (b : BufId) (k : Nat) (bytes : List Byte) :
    (s.pageRefused i b k bytes).pending = s.pending ∧ (s.pageRefused i b k bytes).line = s.line ∧ (s.pageRefused i b k bytes).journal = s.journal ∧ (s.pageRefused i b k bytes).tables = s.tables ∧ (s.pageRefused i b k bytes).heldReset = s.heldReset := by
  refine ⟨?_, ?_, ?_, ?_, ?_⟩ <;> (unfold State.pageRefused; first | (simp; done) | ((repeat' split) <;> simp; done) | (dsimp only; (repeat' split) <;> simp; done) | (dsimp only; simp; (repeat' split) <;> simp; done))

@[simp] theorem State.laneExpiry_frame (s : State) (i : Nat) (timer : Option Nat) (reason : SuspendReason) :
    (s.laneExpiry i timer reason).pending = s.pending ∧ (s.laneExpiry i timer reason).line = s.line ∧ (s.laneExpiry i timer reason).calls = s.calls ∧ (s.laneExpiry i timer reason).journal = s.journal ∧ (s.laneExpiry i timer reason).tables = s.tables ∧ (s.laneExpiry i timer reason).heldReset = s.heldReset := by
  refine ⟨?_, ?_, ?_, ?_, ?_, ?_⟩ <;> (unfold State.laneExpiry; first | (simp; done) | ((repeat' split) <;> simp; done) | (dsimp only; (repeat' split) <;> simp; done) | (dsimp only; simp; (repeat' split) <;> simp; done))

@[simp] theorem State.grant_frame (s : State) (i : Nat) (g : Grant) :
    (s.grant i g).pending = s.pending ∧ (s.grant i g).line = s.line ∧ (s.grant i g).calls = s.calls ∧ (s.grant i g).store = s.store ∧ (s.grant i g).pressure = s.pressure ∧ (s.grant i g).journal = s.journal ∧ (s.grant i g).tables = s.tables ∧ (s.grant i g).mgmt = s.mgmt ∧ (s.grant i g).heldReset = s.heldReset := by
  refine ⟨?_, ?_, ?_, ?_, ?_, ?_, ?_, ?_, ?_⟩ <;> (unfold State.grant; first | (simp; done) | ((repeat' split) <;> simp; done) | (dsimp only; (repeat' split) <;> simp; done) | (dsimp only; simp; (repeat' split) <;> simp; done))

@[simp] theorem State.grants_frame (s : State) (n : Nat) :
    (s.grants n).pending = s.pending ∧ (s.grants n).line = s.line ∧ (s.grants n).calls = s.calls ∧ (s.grants n).store = s.store ∧ (s.grants n).pressure = s.pressure ∧ (s.grants n).journal = s.journal ∧ (s.grants n).tables = s.tables ∧ (s.grants n).mgmt = s.mgmt ∧ (s.grants n).heldReset = s.heldReset := by
  induction n generalizing s with
  | zero => simp [State.grants]
  | succ k ih =>
    refine ⟨?_, ?_, ?_, ?_, ?_, ?_, ?_, ?_, ?_⟩ <;> (rw [State.grants]; (try dsimp only); (repeat' split) <;> simp [ih])

@[simp] theorem State.checkFailed_frame (s : State) (r pos receipt : Nat) :
    (s.checkFailed r pos receipt).pending = s.pending ∧ (s.checkFailed r pos receipt).line = s.line ∧ (s.checkFailed r pos receipt).calls = s.calls ∧ (s.checkFailed r pos receipt).pressure = s.pressure ∧ (s.checkFailed r pos receipt).journal = s.journal ∧ (s.checkFailed r pos receipt).mail = s.mail ∧ (s.checkFailed r pos receipt).delivery = s.delivery ∧ (s.checkFailed r pos receipt).office = s.office ∧ (s.checkFailed r pos receipt).tables = s.tables ∧ (s.checkFailed r pos receipt).mgmt = s.mgmt ∧ (s.checkFailed r pos receipt).heldReset = s.heldReset := by
  refine ⟨?_, ?_, ?_, ?_, ?_, ?_, ?_, ?_, ?_, ?_, ?_⟩ <;> (unfold State.checkFailed; first | (simp; done) | ((repeat' split) <;> simp; done) | (dsimp only; (repeat' split) <;> simp; done) | (dsimp only; simp; (repeat' split) <;> simp; done))

@[simp] theorem State.takeBlock_frame (s : State) (i r pos receipt : Nat) (bytes : List Byte) :
    (s.takeBlock i r pos receipt bytes).pending = s.pending ∧ (s.takeBlock i r pos receipt bytes).line = s.line ∧ (s.takeBlock i r pos receipt bytes).pressure = s.pressure ∧ (s.takeBlock i r pos receipt bytes).docs = s.docs ∧ (s.takeBlock i r pos receipt bytes).journal = s.journal ∧ (s.takeBlock i r pos receipt bytes).mail = s.mail ∧ (s.takeBlock i r pos receipt bytes).tables = s.tables ∧ (s.takeBlock i r pos receipt bytes).mgmt = s.mgmt ∧ (s.takeBlock i r pos receipt bytes).heldReset = s.heldReset := by
  refine ⟨?_, ?_, ?_, ?_, ?_, ?_, ?_, ?_, ?_⟩ <;> (unfold State.takeBlock; first | (simp; done) | ((repeat' split) <;> simp; done) | (dsimp only; (repeat' split) <;> simp; done) | (dsimp only; simp; (repeat' split) <;> simp; done))

@[simp] theorem State.dropBlock_frame (s : State) (i : Nat) :
    (s.dropBlock i).pending = s.pending ∧ (s.dropBlock i).line = s.line ∧ (s.dropBlock i).journal = s.journal ∧ (s.dropBlock i).tables = s.tables ∧ (s.dropBlock i).heldReset = s.heldReset := by
  refine ⟨?_, ?_, ?_, ?_, ?_⟩ <;> (unfold State.dropBlock; first | (simp; done) | ((repeat' split) <;> simp; done) | (dsimp only; (repeat' split) <;> simp; done) | (dsimp only; simp; (repeat' split) <;> simp; done))

@[simp] theorem State.readDone_frame (s : State) (i r pos receipt : Nat) (bytes : List Byte) :
    (s.readDone i r pos receipt bytes).pending = s.pending ∧ (s.readDone i r pos receipt bytes).line = s.line ∧ (s.readDone i r pos receipt bytes).journal = s.journal ∧ (s.readDone i r pos receipt bytes).tables = s.tables ∧ (s.readDone i r pos receipt bytes).heldReset = s.heldReset := by
  refine ⟨?_, ?_, ?_, ?_, ?_⟩ <;> (unfold State.readDone; first | (simp; done) | ((repeat' split) <;> simp; done) | (dsimp only; (repeat' split) <;> simp; done) | (dsimp only; simp; (repeat' split) <;> simp; done))

@[simp] theorem State.completeRead_frame (s : State) (i r pos block receipt : Nat) (decay : List (Nat × Byte)) :
    (s.completeRead i r pos block receipt decay).pending = s.pending ∧ (s.completeRead i r pos block receipt decay).line = s.line ∧ (s.completeRead i r pos block receipt decay).journal = s.journal ∧ (s.completeRead i r pos block receipt decay).tables = s.tables ∧ (s.completeRead i r pos block receipt decay).heldReset = s.heldReset := by
  refine ⟨?_, ?_, ?_, ?_, ?_⟩ <;> (unfold State.completeRead; first | (simp; done) | ((repeat' split) <;> simp; done) | (dsimp only; (repeat' split) <;> simp; done) | (dsimp only; simp; (repeat' split) <;> simp; done))

@[simp] theorem State.withdraw_frame (s : State) (i p receipt : Nat) :
    (s.withdraw i p receipt).pending = s.pending ∧ (s.withdraw i p receipt).line = s.line ∧ (s.withdraw i p receipt).calls = s.calls ∧ (s.withdraw i p receipt).store = s.store ∧ (s.withdraw i p receipt).pressure = s.pressure ∧ (s.withdraw i p receipt).docs = s.docs ∧ (s.withdraw i p receipt).journal = s.journal ∧ (s.withdraw i p receipt).mail = s.mail ∧ (s.withdraw i p receipt).tables = s.tables ∧ (s.withdraw i p receipt).mgmt = s.mgmt ∧ (s.withdraw i p receipt).heldReset = s.heldReset := by
  refine ⟨?_, ?_, ?_, ?_, ?_, ?_, ?_, ?_, ?_, ?_, ?_⟩ <;> (unfold State.withdraw; first | (simp; done) | ((repeat' split) <;> simp; done) | (dsimp only; (repeat' split) <;> simp; done) | (dsimp only; simp; (repeat' split) <;> simp; done))

@[simp] theorem State.takeWithdrawal_frame (s : State) (receipt : Nat) :
    (s.takeWithdrawal receipt).pending = s.pending ∧ (s.takeWithdrawal receipt).line = s.line ∧ (s.takeWithdrawal receipt).calls = s.calls ∧ (s.takeWithdrawal receipt).journal = s.journal ∧ (s.takeWithdrawal receipt).tables = s.tables ∧ (s.takeWithdrawal receipt).heldReset = s.heldReset := by
  refine ⟨?_, ?_, ?_, ?_, ?_, ?_⟩ <;> (unfold State.takeWithdrawal; first | (simp; done) | ((repeat' split) <;> simp; done) | (dsimp only; (repeat' split) <;> simp; done) | (dsimp only; simp; (repeat' split) <;> simp; done))

@[simp] theorem State.pointsDown_frame (s : State) (p n : Nat) :
    (s.pointsDown p n).pending = s.pending ∧ (s.pointsDown p n).line = s.line ∧ (s.pointsDown p n).calls = s.calls ∧ (s.pointsDown p n).store = s.store ∧ (s.pointsDown p n).pressure = s.pressure ∧ (s.pointsDown p n).docs = s.docs ∧ (s.pointsDown p n).journal = s.journal ∧ (s.pointsDown p n).mail = s.mail ∧ (s.pointsDown p n).office = s.office ∧ (s.pointsDown p n).tables = s.tables ∧ (s.pointsDown p n).mgmt = s.mgmt ∧ (s.pointsDown p n).heldReset = s.heldReset := by
  induction n generalizing s p with
  | zero => simp [State.pointsDown]
  | succ k ih =>
    refine ⟨?_, ?_, ?_, ?_, ?_, ?_, ?_, ?_, ?_, ?_, ?_, ?_⟩ <;> (rw [State.pointsDown]; (try dsimp only); (repeat' split) <;> simp [ih])

@[simp] theorem State.lanesDown_frame (s : State) (i n : Nat) :
    (s.lanesDown i n).pending = s.pending ∧ (s.lanesDown i n).line = s.line ∧ (s.lanesDown i n).calls = s.calls ∧ (s.lanesDown i n).journal = s.journal ∧ (s.lanesDown i n).tables = s.tables ∧ (s.lanesDown i n).heldReset = s.heldReset := by
  induction n generalizing s i with
  | zero => simp [State.lanesDown]
  | succ k ih =>
    refine ⟨?_, ?_, ?_, ?_, ?_, ?_⟩ <;> (rw [State.lanesDown]; (try dsimp only); (repeat' split) <;> simp [ih])

@[simp] theorem State.officeDown_frame (s : State) :
    (s.officeDown).pending = s.pending ∧ (s.officeDown).line = s.line ∧ (s.officeDown).calls = s.calls ∧ (s.officeDown).journal = s.journal ∧ (s.officeDown).tables = s.tables ∧ (s.officeDown).heldReset = s.heldReset := by
  refine ⟨?_, ?_, ?_, ?_, ?_, ?_⟩ <;> (unfold State.officeDown; first | (simp; done) | ((repeat' split) <;> simp; done) | (dsimp only; (repeat' split) <;> simp; done) | (dsimp only; simp; (repeat' split) <;> simp; done))

@[simp] theorem State.coldReset_frame (s : State) (cause : ResetCause) :
    (s.coldReset cause).pending = s.pending := rfl

@[simp] theorem State.restartReset_frame (s : State) :
    (s.restartReset).pending = s.pending := rfl

@[simp] theorem State.tailSent_frame (s : State) (i : Nat) :
    (s.tailSent i).pending = s.pending ∧ (s.tailSent i).line = s.line ∧ (s.tailSent i).calls = s.calls ∧ (s.tailSent i).store = s.store ∧ (s.tailSent i).pressure = s.pressure ∧ (s.tailSent i).docs = s.docs ∧ (s.tailSent i).journal = s.journal ∧ (s.tailSent i).mail = s.mail ∧ (s.tailSent i).office = s.office ∧ (s.tailSent i).tables = s.tables ∧ (s.tailSent i).mgmt = s.mgmt ∧ (s.tailSent i).waiting = s.waiting ∧ (s.tailSent i).heldReset = s.heldReset := by
  refine ⟨?_, ?_, ?_, ?_, ?_, ?_, ?_, ?_, ?_, ?_, ?_, ?_, ?_⟩ <;> (unfold State.tailSent; first | (simp; done) | ((repeat' split) <;> simp; done) | (dsimp only; (repeat' split) <;> simp; done) | (dsimp only; simp; (repeat' split) <;> simp; done))

@[simp] theorem State.offerSent_frame (s : State) (i : Nat) :
    (s.offerSent i).pending = s.pending ∧ (s.offerSent i).line = s.line ∧ (s.offerSent i).calls = s.calls ∧ (s.offerSent i).store = s.store ∧ (s.offerSent i).pressure = s.pressure ∧ (s.offerSent i).docs = s.docs ∧ (s.offerSent i).journal = s.journal ∧ (s.offerSent i).mail = s.mail ∧ (s.offerSent i).office = s.office ∧ (s.offerSent i).tables = s.tables ∧ (s.offerSent i).mgmt = s.mgmt ∧ (s.offerSent i).waiting = s.waiting ∧ (s.offerSent i).heldReset = s.heldReset := by
  refine ⟨?_, ?_, ?_, ?_, ?_, ?_, ?_, ?_, ?_, ?_, ?_, ?_, ?_⟩ <;> (unfold State.offerSent; first | (simp; done) | ((repeat' split) <;> simp; done) | (dsimp only; (repeat' split) <;> simp; done) | (dsimp only; simp; (repeat' split) <;> simp; done))

@[simp] theorem State.withdrawSent_frame (s : State) (i : Nat) :
    (s.withdrawSent i).pending = s.pending ∧ (s.withdrawSent i).line = s.line ∧ (s.withdrawSent i).calls = s.calls ∧ (s.withdrawSent i).journal = s.journal ∧ (s.withdrawSent i).tables = s.tables ∧ (s.withdrawSent i).heldReset = s.heldReset := by
  refine ⟨?_, ?_, ?_, ?_, ?_, ?_⟩ <;> (unfold State.withdrawSent; first | (simp; done) | ((repeat' split) <;> simp; done) | (dsimp only; (repeat' split) <;> simp; done) | (dsimp only; simp; (repeat' split) <;> simp; done))

@[simp] theorem State.laneFrameSent_frame (s : State) (i : Nat) (f : OfficeFrame) :
    (s.laneFrameSent i f).pending = s.pending ∧ (s.laneFrameSent i f).line = s.line ∧ (s.laneFrameSent i f).calls = s.calls ∧ (s.laneFrameSent i f).journal = s.journal ∧ (s.laneFrameSent i f).tables = s.tables ∧ (s.laneFrameSent i f).heldReset = s.heldReset := by
  refine ⟨?_, ?_, ?_, ?_, ?_, ?_⟩ <;> (unfold State.laneFrameSent; first | (simp; done) | ((repeat' split) <;> simp; done) | (dsimp only; (repeat' split) <;> simp; done) | (dsimp only; simp; (repeat' split) <;> simp; done))

@[simp] theorem State.laneSent_frame (s : State) (i : Nat) (f : OfficeFrame) :
    (s.laneSent i f).pending = s.pending ∧ (s.laneSent i f).line = s.line ∧ (s.laneSent i f).journal = s.journal ∧ (s.laneSent i f).tables = s.tables ∧ (s.laneSent i f).heldReset = s.heldReset := by
  refine ⟨?_, ?_, ?_, ?_, ?_⟩ <;> (unfold State.laneSent; first | (simp; done) | ((repeat' split) <;> simp; done) | (dsimp only; (repeat' split) <;> simp; done) | (dsimp only; simp; (repeat' split) <;> simp; done))

@[simp] theorem State.replyDone_frame (s : State) (restart : Bool) :
    (s.replyDone restart).pending = s.pending := by
  unfold State.replyDone; (repeat' split) <;> simp

@[simp] theorem State.noticeSent_frame (s : State) :
    (s.noticeSent).pending = s.pending ∧ (s.noticeSent).line = s.line ∧ (s.noticeSent).calls = s.calls ∧ (s.noticeSent).store = s.store ∧ (s.noticeSent).pressure = s.pressure ∧ (s.noticeSent).docs = s.docs ∧ (s.noticeSent).journal = s.journal ∧ (s.noticeSent).mail = s.mail ∧ (s.noticeSent).delivery = s.delivery ∧ (s.noticeSent).tables = s.tables ∧ (s.noticeSent).heldReset = s.heldReset := by
  refine ⟨?_, ?_, ?_, ?_, ?_, ?_, ?_, ?_, ?_, ?_, ?_⟩ <;> (unfold State.noticeSent; first | (simp; done) | ((repeat' split) <;> simp; done) | (dsimp only; (repeat' split) <;> simp; done) | (dsimp only; simp; (repeat' split) <;> simp; done))

@[simp] theorem State.sentTo_frame (s : State) (h : Hander) (f : OfficeFrame) :
    (s.sentTo h f).pending = s.pending := by
  unfold State.sentTo; (repeat' split) <;> simp

@[simp] theorem State.laneDiscarded_frame (s : State) (i : Nat) :
    (s.laneDiscarded i).pending = s.pending ∧ (s.laneDiscarded i).line = s.line ∧ (s.laneDiscarded i).calls = s.calls ∧ (s.laneDiscarded i).store = s.store ∧ (s.laneDiscarded i).pressure = s.pressure ∧ (s.laneDiscarded i).docs = s.docs ∧ (s.laneDiscarded i).journal = s.journal ∧ (s.laneDiscarded i).mail = s.mail ∧ (s.laneDiscarded i).office = s.office ∧ (s.laneDiscarded i).tables = s.tables ∧ (s.laneDiscarded i).mgmt = s.mgmt ∧ (s.laneDiscarded i).heldReset = s.heldReset := by
  refine ⟨?_, ?_, ?_, ?_, ?_, ?_, ?_, ?_, ?_, ?_, ?_, ?_⟩ <;> (unfold State.laneDiscarded; first | (simp; done) | ((repeat' split) <;> simp; done) | (dsimp only; (repeat' split) <;> simp; done) | (dsimp only; simp; (repeat' split) <;> simp; done))

@[simp] theorem State.swapEffects_frame (s : State) (t : TableId) :
    (s.swapEffects t).pending = s.pending ∧ (s.swapEffects t).line = s.line ∧ (s.swapEffects t).calls = s.calls ∧ (s.swapEffects t).store = s.store ∧ (s.swapEffects t).pressure = s.pressure ∧ (s.swapEffects t).docs = s.docs ∧ (s.swapEffects t).journal = s.journal ∧ (s.swapEffects t).mail = s.mail ∧ (s.swapEffects t).delivery = s.delivery ∧ (s.swapEffects t).office = s.office ∧ (s.swapEffects t).tables = s.tables ∧ (s.swapEffects t).mgmt = s.mgmt ∧ (s.swapEffects t).heldReset = s.heldReset := by
  refine ⟨?_, ?_, ?_, ?_, ?_, ?_, ?_, ?_, ?_, ?_, ?_, ?_, ?_⟩ <;> (unfold State.swapEffects; first | (simp; done) | ((repeat' split) <;> simp; done) | (dsimp only; (repeat' split) <;> simp; done) | (dsimp only; simp; (repeat' split) <;> simp; done))

@[simp] theorem State.swapTable_frame (s : State) (h : ReqHead) (t : TableId) :
    (s.swapTable h t).pending = s.pending ∧ (s.swapTable h t).line = s.line ∧ (s.swapTable h t).calls = s.calls ∧ (s.swapTable h t).store = s.store ∧ (s.swapTable h t).pressure = s.pressure ∧ (s.swapTable h t).docs = s.docs ∧ (s.swapTable h t).journal = s.journal ∧ (s.swapTable h t).mail = s.mail ∧ (s.swapTable h t).delivery = s.delivery ∧ (s.swapTable h t).heldReset = s.heldReset := by
  refine ⟨?_, ?_, ?_, ?_, ?_, ?_, ?_, ?_, ?_, ?_⟩ <;> (unfold State.swapTable; first | (simp; done) | ((repeat' split) <;> simp; done) | (dsimp only; (repeat' split) <;> simp; done) | (dsimp only; simp; (repeat' split) <;> simp; done))

@[simp] theorem State.completeCommit_frame (s : State) (h : ReqHead) (t : TableId) :
    (s.completeCommit h t).pending = s.pending ∧ (s.completeCommit h t).line = s.line ∧ (s.completeCommit h t).calls = s.calls ∧ (s.completeCommit h t).store = s.store ∧ (s.completeCommit h t).pressure = s.pressure ∧ (s.completeCommit h t).docs = s.docs ∧ (s.completeCommit h t).journal = s.journal ∧ (s.completeCommit h t).mail = s.mail ∧ (s.completeCommit h t).delivery = s.delivery ∧ (s.completeCommit h t).heldReset = s.heldReset := by
  refine ⟨?_, ?_, ?_, ?_, ?_, ?_, ?_, ?_, ?_, ?_⟩ <;> (unfold State.completeCommit; first | (simp; done) | ((repeat' split) <;> simp; done) | (dsimp only; (repeat' split) <;> simp; done) | (dsimp only; simp; (repeat' split) <;> simp; done))

@[simp] theorem State.testResumes_frame (s : State) :
    (s.testResumes).pending = s.pending ∧ (s.testResumes).line = s.line ∧ (s.testResumes).calls = s.calls ∧ (s.testResumes).store = s.store ∧ (s.testResumes).pressure = s.pressure ∧ (s.testResumes).journal = s.journal ∧ (s.testResumes).mail = s.mail ∧ (s.testResumes).delivery = s.delivery ∧ (s.testResumes).office = s.office ∧ (s.testResumes).tables = s.tables ∧ (s.testResumes).mgmt = s.mgmt ∧ (s.testResumes).waiting = s.waiting ∧ (s.testResumes).heldReset = s.heldReset := by
  refine ⟨?_, ?_, ?_, ?_, ?_, ?_, ?_, ?_, ?_, ?_, ?_, ?_, ?_⟩ <;> (unfold State.testResumes; first | (simp; done) | ((repeat' split) <;> simp; done) | (dsimp only; (repeat' split) <;> simp; done) | (dsimp only; simp; (repeat' split) <;> simp; done))

@[simp] theorem State.pointsRemoved_frame (s : State) (ps : List Nat) :
    (s.pointsRemoved ps).pending = s.pending ∧ (s.pointsRemoved ps).line = s.line ∧ (s.pointsRemoved ps).calls = s.calls ∧ (s.pointsRemoved ps).store = s.store ∧ (s.pointsRemoved ps).pressure = s.pressure ∧ (s.pointsRemoved ps).docs = s.docs ∧ (s.pointsRemoved ps).journal = s.journal ∧ (s.pointsRemoved ps).mail = s.mail ∧ (s.pointsRemoved ps).office = s.office ∧ (s.pointsRemoved ps).tables = s.tables ∧ (s.pointsRemoved ps).mgmt = s.mgmt ∧ (s.pointsRemoved ps).heldReset = s.heldReset := by
  induction ps generalizing s with
  | nil => simp [State.pointsRemoved]
  | cons x t ih =>
    refine ⟨?_, ?_, ?_, ?_, ?_, ?_, ?_, ?_, ?_, ?_, ?_, ?_⟩ <;> (rw [State.pointsRemoved]; (try dsimp only); (repeat' split) <;> simp [ih])

@[simp] theorem State.cutIntake_frame (s : State) (p max : Nat) :
    (s.cutIntake p max).pending = s.pending ∧ (s.cutIntake p max).line = s.line ∧ (s.cutIntake p max).calls = s.calls ∧ (s.cutIntake p max).store = s.store ∧ (s.cutIntake p max).pressure = s.pressure ∧ (s.cutIntake p max).docs = s.docs ∧ (s.cutIntake p max).journal = s.journal ∧ (s.cutIntake p max).mail = s.mail ∧ (s.cutIntake p max).tables = s.tables ∧ (s.cutIntake p max).mgmt = s.mgmt ∧ (s.cutIntake p max).heldReset = s.heldReset := by
  refine ⟨?_, ?_, ?_, ?_, ?_, ?_, ?_, ?_, ?_, ?_, ?_⟩ <;> (unfold State.cutIntake; first | (simp; done) | ((repeat' split) <;> simp; done) | (dsimp only; (repeat' split) <;> simp; done) | (dsimp only; simp; (repeat' split) <;> simp; done))

@[simp] theorem State.cutIntakes_frame (s : State) (rows : List (Nat × PointRow)) :
    (s.cutIntakes rows).pending = s.pending ∧ (s.cutIntakes rows).line = s.line ∧ (s.cutIntakes rows).calls = s.calls ∧ (s.cutIntakes rows).store = s.store ∧ (s.cutIntakes rows).pressure = s.pressure ∧ (s.cutIntakes rows).docs = s.docs ∧ (s.cutIntakes rows).journal = s.journal ∧ (s.cutIntakes rows).mail = s.mail ∧ (s.cutIntakes rows).tables = s.tables ∧ (s.cutIntakes rows).mgmt = s.mgmt ∧ (s.cutIntakes rows).heldReset = s.heldReset := by
  induction rows generalizing s with
  | nil => simp [State.cutIntakes]
  | cons x t ih =>
    refine ⟨?_, ?_, ?_, ?_, ?_, ?_, ?_, ?_, ?_, ?_, ?_⟩ <;> (rw [State.cutIntakes]; (try dsimp only); (repeat' split) <;> simp [ih])

@[simp] theorem State.clearName_frame (s : State) (n : Nat) :
    (s.clearName n).pending = s.pending ∧ (s.clearName n).line = s.line ∧ (s.clearName n).calls = s.calls ∧ (s.clearName n).store = s.store ∧ (s.clearName n).pressure = s.pressure ∧ (s.clearName n).docs = s.docs ∧ (s.clearName n).journal = s.journal ∧ (s.clearName n).mail = s.mail ∧ (s.clearName n).delivery = s.delivery ∧ (s.clearName n).office = s.office ∧ (s.clearName n).tables = s.tables ∧ (s.clearName n).heldReset = s.heldReset := by
  refine ⟨?_, ?_, ?_, ?_, ?_, ?_, ?_, ?_, ?_, ?_, ?_, ?_⟩ <;> (unfold State.clearName; first | (simp; done) | ((repeat' split) <;> simp; done) | (dsimp only; (repeat' split) <;> simp; done) | (dsimp only; simp; (repeat' split) <;> simp; done))

@[simp] theorem State.clearAll_frame (s : State) (names : List Nat) :
    (s.clearAll names).pending = s.pending ∧ (s.clearAll names).line = s.line ∧ (s.clearAll names).calls = s.calls ∧ (s.clearAll names).store = s.store ∧ (s.clearAll names).pressure = s.pressure ∧ (s.clearAll names).docs = s.docs ∧ (s.clearAll names).journal = s.journal ∧ (s.clearAll names).mail = s.mail ∧ (s.clearAll names).delivery = s.delivery ∧ (s.clearAll names).office = s.office ∧ (s.clearAll names).tables = s.tables ∧ (s.clearAll names).heldReset = s.heldReset := by
  unfold State.clearAll
  induction names generalizing s with
  | nil => simp
  | cons x t ih => simp [ih]

@[simp] theorem State.clearCount_frame (s : State) (c : CountName) :
    (s.clearCount c).pending = s.pending ∧ (s.clearCount c).calls = s.calls ∧ (s.clearCount c).store = s.store ∧ (s.clearCount c).pressure = s.pressure ∧ (s.clearCount c).docs = s.docs ∧ (s.clearCount c).mail = s.mail ∧ (s.clearCount c).delivery = s.delivery ∧ (s.clearCount c).tables = s.tables ∧ (s.clearCount c).waiting = s.waiting ∧ (s.clearCount c).heldReset = s.heldReset := by
  refine ⟨?_, ?_, ?_, ?_, ?_, ?_, ?_, ?_, ?_, ?_⟩ <;> (unfold State.clearCount; first | (simp; done) | ((repeat' split) <;> simp; done) | (dsimp only; (repeat' split) <;> simp; done) | (dsimp only; simp; (repeat' split) <;> simp; done))

@[simp] theorem State.install_frame (s : State) (p : Parameters) :
    (s.install p).pending = s.pending ∧ (s.install p).line = s.line ∧ (s.install p).calls = s.calls ∧ (s.install p).store = s.store ∧ (s.install p).pressure = s.pressure ∧ (s.install p).docs = s.docs ∧ (s.install p).journal = s.journal ∧ (s.install p).mail = s.mail ∧ (s.install p).delivery = s.delivery ∧ (s.install p).office = s.office ∧ (s.install p).tables = s.tables ∧ (s.install p).heldReset = s.heldReset := by
  refine ⟨?_, ?_, ?_, ?_, ?_, ?_, ?_, ?_, ?_, ?_, ?_, ?_⟩ <;> (unfold State.install; first | (simp; done) | ((repeat' split) <;> simp; done) | (dsimp only; (repeat' split) <;> simp; done) | (dsimp only; simp; (repeat' split) <;> simp; done))

@[simp] theorem State.setIntake_frame (s : State) (st : IntakeState) :
    (s.setIntake st).pending = s.pending ∧ (s.setIntake st).line = s.line ∧ (s.setIntake st).calls = s.calls ∧ (s.setIntake st).store = s.store ∧ (s.setIntake st).pressure = s.pressure ∧ (s.setIntake st).docs = s.docs ∧ (s.setIntake st).journal = s.journal ∧ (s.setIntake st).mail = s.mail ∧ (s.setIntake st).delivery = s.delivery ∧ (s.setIntake st).office = s.office ∧ (s.setIntake st).tables = s.tables ∧ (s.setIntake st).heldReset = s.heldReset := by
  refine ⟨?_, ?_, ?_, ?_, ?_, ?_, ?_, ?_, ?_, ?_, ?_, ?_⟩ <;> (unfold State.setIntake; first | (simp; done) | ((repeat' split) <;> simp; done) | (dsimp only; (repeat' split) <;> simp; done) | (dsimp only; simp; (repeat' split) <;> simp; done))

@[simp] theorem State.abortAll_frame (s : State) :
    (s.abortAll).pending = s.pending ∧ (s.abortAll).line = s.line ∧ (s.abortAll).store = s.store ∧ (s.abortAll).pressure = s.pressure ∧ (s.abortAll).docs = s.docs ∧ (s.abortAll).journal = s.journal ∧ (s.abortAll).mail = s.mail ∧ (s.abortAll).delivery = s.delivery ∧ (s.abortAll).office = s.office ∧ (s.abortAll).tables = s.tables ∧ (s.abortAll).mgmt = s.mgmt ∧ (s.abortAll).waiting = s.waiting ∧ (s.abortAll).heldReset = s.heldReset := by
  refine ⟨?_, ?_, ?_, ?_, ?_, ?_, ?_, ?_, ?_, ?_, ?_, ?_, ?_⟩ <;> (unfold State.abortAll; first | (simp; done) | ((repeat' split) <;> simp; done) | (dsimp only; (repeat' split) <;> simp; done) | (dsimp only; simp; (repeat' split) <;> simp; done))

@[simp] theorem State.replyRun_frame (s : State) (h : ReqHead) :
    (s.replyRun h).pending = s.pending ∧ (s.replyRun h).line = s.line ∧ (s.replyRun h).calls = s.calls ∧ (s.replyRun h).store = s.store ∧ (s.replyRun h).pressure = s.pressure ∧ (s.replyRun h).docs = s.docs ∧ (s.replyRun h).journal = s.journal ∧ (s.replyRun h).mail = s.mail ∧ (s.replyRun h).delivery = s.delivery ∧ (s.replyRun h).tables = s.tables ∧ (s.replyRun h).heldReset = s.heldReset := by
  refine ⟨?_, ?_, ?_, ?_, ?_, ?_, ?_, ?_, ?_, ?_, ?_⟩ <;> (unfold State.replyRun; first | (simp; done) | ((repeat' split) <;> simp; done) | (dsimp only; (repeat' split) <;> simp; done) | (dsimp only; simp; (repeat' split) <;> simp; done))

@[simp] theorem State.staged_frame (s : State) (h : ReqHead) (k : ReqKind) (t : TableId) (u : TableUnit) :
    (s.staged h k t u).pending = s.pending ∧ (s.staged h k t u).line = s.line ∧ (s.staged h k t u).calls = s.calls ∧ (s.staged h k t u).store = s.store ∧ (s.staged h k t u).pressure = s.pressure ∧ (s.staged h k t u).docs = s.docs ∧ (s.staged h k t u).journal = s.journal ∧ (s.staged h k t u).mail = s.mail ∧ (s.staged h k t u).delivery = s.delivery ∧ (s.staged h k t u).heldReset = s.heldReset := by
  refine ⟨?_, ?_, ?_, ?_, ?_, ?_, ?_, ?_, ?_, ?_⟩ <;> (unfold State.staged; first | (simp; done) | ((repeat' split) <;> simp; done) | (dsimp only; (repeat' split) <;> simp; done) | (dsimp only; simp; (repeat' split) <;> simp; done))

@[simp] theorem State.clearPoint_frame (s : State) (p clear : Nat) :
    (s.clearPoint p clear).pending = s.pending ∧ (s.clearPoint p clear).line = s.line ∧ (s.clearPoint p clear).calls = s.calls ∧ (s.clearPoint p clear).store = s.store ∧ (s.clearPoint p clear).pressure = s.pressure ∧ (s.clearPoint p clear).docs = s.docs ∧ (s.clearPoint p clear).journal = s.journal ∧ (s.clearPoint p clear).mail = s.mail ∧ (s.clearPoint p clear).office = s.office ∧ (s.clearPoint p clear).tables = s.tables ∧ (s.clearPoint p clear).mgmt = s.mgmt ∧ (s.clearPoint p clear).waiting = s.waiting ∧ (s.clearPoint p clear).heldReset = s.heldReset := by
  refine ⟨?_, ?_, ?_, ?_, ?_, ?_, ?_, ?_, ?_, ?_, ?_, ?_, ?_⟩ <;> (unfold State.clearPoint; first | (simp; done) | ((repeat' split) <;> simp; done) | (dsimp only; (repeat' split) <;> simp; done) | (dsimp only; simp; (repeat' split) <;> simp; done))

@[simp] theorem State.defer_frame (s : State) (h : ReqHead) (kind : DocReq) (receipt : Nat) :
    (s.defer h kind receipt).pending = s.pending ∧ (s.defer h kind receipt).line = s.line ∧ (s.defer h kind receipt).calls = s.calls ∧ (s.defer h kind receipt).store = s.store ∧ (s.defer h kind receipt).pressure = s.pressure ∧ (s.defer h kind receipt).docs = s.docs ∧ (s.defer h kind receipt).journal = s.journal ∧ (s.defer h kind receipt).mail = s.mail ∧ (s.defer h kind receipt).delivery = s.delivery ∧ (s.defer h kind receipt).office = s.office ∧ (s.defer h kind receipt).tables = s.tables ∧ (s.defer h kind receipt).waiting = s.waiting ∧ (s.defer h kind receipt).heldReset = s.heldReset := by
  refine ⟨?_, ?_, ?_, ?_, ?_, ?_, ?_, ?_, ?_, ?_, ?_, ?_, ?_⟩ <;> (unfold State.defer; first | (simp; done) | ((repeat' split) <;> simp; done) | (dsimp only; (repeat' split) <;> simp; done) | (dsimp only; simp; (repeat' split) <;> simp; done))

@[simp] theorem State.releaseTo_frame (s : State) (slot : Nat) (d : Doc) (m : Nat) :
    (s.releaseTo slot d m).pending = s.pending ∧ (s.releaseTo slot d m).line = s.line ∧ (s.releaseTo slot d m).calls = s.calls ∧ (s.releaseTo slot d m).store = s.store ∧ (s.releaseTo slot d m).pressure = s.pressure ∧ (s.releaseTo slot d m).journal = s.journal ∧ (s.releaseTo slot d m).delivery = s.delivery ∧ (s.releaseTo slot d m).office = s.office ∧ (s.releaseTo slot d m).tables = s.tables ∧ (s.releaseTo slot d m).mgmt = s.mgmt ∧ (s.releaseTo slot d m).heldReset = s.heldReset := by
  refine ⟨?_, ?_, ?_, ?_, ?_, ?_, ?_, ?_, ?_, ?_, ?_⟩ <;> (unfold State.releaseTo; first | (simp; done) | ((repeat' split) <;> simp; done) | (dsimp only; (repeat' split) <;> simp; done) | (dsimp only; simp; (repeat' split) <;> simp; done))

@[simp] theorem State.releaseRouted_frame (s : State) (slot : Nat) (d : Doc) :
    (s.releaseRouted slot d).pending = s.pending ∧ (s.releaseRouted slot d).line = s.line ∧ (s.releaseRouted slot d).calls = s.calls ∧ (s.releaseRouted slot d).store = s.store ∧ (s.releaseRouted slot d).pressure = s.pressure ∧ (s.releaseRouted slot d).journal = s.journal ∧ (s.releaseRouted slot d).delivery = s.delivery ∧ (s.releaseRouted slot d).office = s.office ∧ (s.releaseRouted slot d).tables = s.tables ∧ (s.releaseRouted slot d).mgmt = s.mgmt ∧ (s.releaseRouted slot d).heldReset = s.heldReset := by
  refine ⟨?_, ?_, ?_, ?_, ?_, ?_, ?_, ?_, ?_, ?_, ?_⟩ <;> (unfold State.releaseRouted; first | (simp; done) | ((repeat' split) <;> simp; done) | (dsimp only; (repeat' split) <;> simp; done) | (dsimp only; simp; (repeat' split) <;> simp; done))

@[simp] theorem State.rerouteNow_frame (s : State) (h : ReqHead) (slot : Nat) (d : Doc) (t : Nat) (quarantined : Bool) :
    (s.rerouteNow h slot d t quarantined).pending = s.pending ∧ (s.rerouteNow h slot d t quarantined).line = s.line ∧ (s.rerouteNow h slot d t quarantined).calls = s.calls ∧ (s.rerouteNow h slot d t quarantined).store = s.store ∧ (s.rerouteNow h slot d t quarantined).pressure = s.pressure ∧ (s.rerouteNow h slot d t quarantined).journal = s.journal ∧ (s.rerouteNow h slot d t quarantined).delivery = s.delivery ∧ (s.rerouteNow h slot d t quarantined).tables = s.tables ∧ (s.rerouteNow h slot d t quarantined).heldReset = s.heldReset := by
  refine ⟨?_, ?_, ?_, ?_, ?_, ?_, ?_, ?_, ?_⟩ <;> (unfold State.rerouteNow; first | (simp; done) | ((repeat' split) <;> simp; done) | (dsimp only; (repeat' split) <;> simp; done) | (dsimp only; simp; (repeat' split) <;> simp; done))

@[simp] theorem State.replyMailbox_frame (s : State) (h : ReqHead) (m : Nat) (result : Result) :
    (s.replyMailbox h m result).pending = s.pending ∧ (s.replyMailbox h m result).line = s.line ∧ (s.replyMailbox h m result).calls = s.calls ∧ (s.replyMailbox h m result).store = s.store ∧ (s.replyMailbox h m result).pressure = s.pressure ∧ (s.replyMailbox h m result).docs = s.docs ∧ (s.replyMailbox h m result).journal = s.journal ∧ (s.replyMailbox h m result).mail = s.mail ∧ (s.replyMailbox h m result).tables = s.tables ∧ (s.replyMailbox h m result).heldReset = s.heldReset := by
  refine ⟨?_, ?_, ?_, ?_, ?_, ?_, ?_, ?_, ?_, ?_⟩ <;> (unfold State.replyMailbox; first | (simp; done) | ((repeat' split) <;> simp; done) | (dsimp only; (repeat' split) <;> simp; done) | (dsimp only; simp; (repeat' split) <;> simp; done))

end Sys2Proof.Machine
end

