-- ==== Sys2Proof/Laws/Decision.lean ====
section
/-! SUPPORT. The answer decision: what one write of a channel's decision does, each act as a rewrite, so that a
decision is run without unfolding a channel, what the Line Port does with a frame handed to it, and everything that an
act or a whole decision can do to the channels and the Line Port. -/

namespace Sys2Proof.Machine

theorem State.setChannel_setChannel (s : State) (ch : Nat) (a b : Channel) :
    (s.setChannel ch a).setChannel ch b = s.setChannel ch b := by
  simp [State.setChannel]

theorem State.setChannel_self (s : State) (ch : Nat) (h : ch < s.calls.channels.length) :
    s.setChannel ch (s.channel ch) = s := by
  simp [State.setChannel, State.channel, List.getD, h]

@[simp] theorem State.calls_length_setChannel (s : State) (ch : Nat) (c : Channel) :
    (s.setChannel ch c).calls.channels.length = s.calls.channels.length := by
  simp

theorem State.channel_setDecision (s : State) (ch : Nat) (d : Option Decision) (h : ch < s.calls.channels.length) :
    (s.setDecision ch d).channel ch = { s.channel ch with decision := d } :=
  State.channel_setChannel s ch _ h

@[simp] theorem State.calls_length_setDecision (s : State) (ch : Nat) (d : Option Decision) :
    (s.setDecision ch d).calls.channels.length = s.calls.channels.length := by
  simp [State.setDecision]

theorem State.setDecision_setDecision (s : State) (ch : Nat) (a b : Option Decision)
    (h : ch < s.calls.channels.length) : (s.setDecision ch a).setDecision ch b = s.setDecision ch b := by
  simp [State.setDecision, State.channel_setChannel, h, State.setChannel_setChannel]

theorem State.setDecision_none (s : State) (ch : Nat) (h : ch < s.calls.channels.length)
    (hd : (s.channel ch).decision = none) : s.setDecision ch none = s := by
  have hc : ({ s.channel ch with decision := none } : Channel) = s.channel ch := by
    cases hx : s.channel ch; simp_all
  rw [State.setDecision, hc, State.setChannel_self s ch h]

/-- R66 as one rewrite. -/
theorem State.refuse_eq (s : State) (ch : Nat) (d : Decision) (cause : Cause) (routeGen : Option Nat)
    (screening : ScreenResult) :
    s.refuse ch d cause routeGen screening =
      ((((if d.reserved then (s.dropClaim d.claim).writeEntry
            (refusedEntry ch d s.mgmt.tod cause routeGen screening) else s.dropClaim d.claim).setDecision ch none).sendLine ch
          (.refuse cause)).raise .callController (.callRefused ch d.called cause)) := by
  simp [State.refuse, State.setDecision]

/-! ### What the Line Port does with a frame (R30, R50) -/

/-- R30: a frame handed while the link is UP joins the queue, but for an ANSWER behind a loss (R50). -/
theorem State.sendLine_sent (s : State) (ch : Nat) (body : LineBody) (h : s.lineDiscards ch body = false) :
    s.sendLine ch body = { s with line := { s.line with queue := s.line.queue ++ [⟨ch, body⟩] } } := by
  simp [State.sendLine, h]

theorem State.sendLine_discarded (s : State) (ch : Nat) (body : LineBody) (h : s.lineDiscards ch body = true) :
    s.sendLine ch body = s := by
  simp [State.sendLine, h]

@[simp] theorem State.lineDiscards_down (s : State) (ch : Nat) (body : LineBody) (h : s.line.link = .down) :
    s.lineDiscards ch body = true := by
  simp [State.lineDiscards, h]

@[simp] theorem State.lineDiscards_refuse (s : State) (ch : Nat) (cause : Cause) (h : s.line.link = .up) :
    s.lineDiscards ch (.refuse cause) = false := by
  simp [State.lineDiscards, h]

@[simp] theorem State.lineDiscards_answer (s : State) (ch receipt : Nat) (h : (s.channel ch).loss = true) :
    s.lineDiscards ch (.answer receipt) = true := by
  cases hl : s.line.link <;> simp [State.lineDiscards, hl, h]

/-- What the Line Port does with a frame reads the link and the loss of its channel alone. -/
theorem State.sendLine_line_congr (s t : State) (ch : Nat) (body : LineBody) (hl : t.line = s.line)
    (hc : (t.channel ch).loss = (s.channel ch).loss) : (t.sendLine ch body).line = (s.sendLine ch body).line := by
  have hd : t.lineDiscards ch body = s.lineDiscards ch body := by simp [State.lineDiscards, hl, hc]
  unfold State.sendLine
  rw [hd]
  split <;> simp [hl]

theorem State.channel_congr (s t : State) (ch : Nat) (h : t.calls = s.calls) : t.channel ch = s.channel ch := by
  simp [State.channel, h]

/-- R33, R66: what a refusal does to the channels and to the Line Port. -/
theorem State.refuse_ends (s x : State) (ch : Nat) (d : Decision) (cause : Cause) (gen : Option Nat)
    (res : ScreenResult) (h : ch < s.calls.channels.length) (hx : x.calls = s.calls) (hl : x.line = s.line) :
    (x.refuse ch d cause gen res).calls = (s.setDecision ch none).calls
    ∧ (x.refuse ch d cause gen res).line = (s.sendLine ch (.refuse cause)).line := by
  have key : ∀ y : State, y.calls = s.calls → y.line = s.line →
      (((y.setDecision ch none).sendLine ch (.refuse cause)).raise .callController
        (.callRefused ch d.called cause)).calls = (s.setDecision ch none).calls
      ∧ (((y.setDecision ch none).sendLine ch (.refuse cause)).raise .callController
        (.callRefused ch d.called cause)).line = (s.sendLine ch (.refuse cause)).line := by
    intro y hy hl
    constructor
    · simp [State.setDecision, State.channel, hy]
    · refine State.sendLine_line_congr s _ ch _ (by simp [hl]) ?_
      rw [State.channel_setDecision y ch none (by rw [hy]; exact h), State.channel_congr s y ch hy]
  rw [State.refuse_eq]
  split <;> exact key _ (by simp [hx]) (by simp [hl])

/-! ### What a decision held by a channel commutes with -/

theorem State.lowTest_setDecision (s : State) (ch : Nat) (d : Option Decision) :
    (s.setDecision ch d).lowTest = s.lowTest.setDecision ch d := by
  have hj : (s.setDecision ch d).journal = s.journal := by simp
  unfold State.lowTest
  dsimp only
  rw [hj]
  by_cases h : (decide (s.journal.free < s.journal.lowMark) && s.journal.lowArmed) = true
  · rw [if_pos h, if_pos h]; rfl
  · rw [if_neg h, if_neg h]

theorem State.reserve_setDecision (s : State) (ch : Nat) (d : Option Decision) :
    (s.setDecision ch d).reserve = s.reserve.setDecision ch d :=
  State.lowTest_setDecision { s with journal := { s.journal with reserved := s.journal.reserved + 1 } } ch d

theorem State.countUnrecorded_setDecision (s : State) (ch : Nat) (d : Option Decision) :
    (s.setDecision ch d).countUnrecorded = s.countUnrecorded.setDecision ch d := rfl

theorem State.writeEntry_setDecision (s : State) (ch : Nat) (d : Option Decision) (e : Entry) :
    (s.setDecision ch d).writeEntry e = (s.writeEntry e).setDecision ch d := rfl

theorem State.freeSlot_setDecision (s : State) (ch slot : Nat) (d : Option Decision) :
    (s.setDecision ch d).freeSlot slot = (s.freeSlot slot).setDecision ch d := rfl

theorem State.resolve_congr (s t : State) (called : Str) (caller : Option Str) (h1 : s.tables = t.tables)
    (h2 : s.pressure = t.pressure) (h3 : s.mail = t.mail) : s.resolve called caller = t.resolve called caller := by
  simp [State.resolve, State.place, State.takes, State.overflowBox, State.boxCause, State.mailRow, State.box, h1, h2, h3]

theorem State.decisionRun_succ (s : State) (ch : Nat) (stop : DecisionStop) (n : Nat) (d : Decision)
    (h : (s.channel ch).decision = some d) (hs : stop ≠ .before d.next) :
    s.decisionRun ch stop (n + 1) = (s.decisionAct ch d).decisionRun ch stop n := by
  simp [State.decisionRun, h, hs]

theorem State.decisionRun_none (s : State) (ch : Nat) (stop : DecisionStop) (n : Nat)
    (h : (s.channel ch).decision = none) : s.decisionRun ch stop n = s := by
  cases n <;> simp [State.decisionRun, h]

/-! ### The acts of a decision, on a state whose channel holds it -/

/-- A decision held by a channel is run act by act. -/
theorem State.run_held (g : State) (ch n : Nat) (d : Decision) (h : ch < g.calls.channels.length) :
    (g.setDecision ch (some d)).decisionRun ch .done (n + 1)
      = ((g.setDecision ch (some d)).decisionAct ch d).decisionRun ch .done n := by
  apply State.decisionRun_succ
  · rw [State.channel_setDecision g ch _ h]
  · simp

theorem State.channel_refuse (g : State) (ch : Nat) (d : Decision) (cause : Cause) (gen : Option Nat)
    (res : ScreenResult) (h : ch < g.calls.channels.length) :
    ((g.refuse ch d cause gen res).channel ch).decision = none := by
  rw [State.channel_congr (g.setDecision ch none) _ ch (State.refuse_ends g g ch d cause gen res h rfl rfl).1,
    State.channel_setDecision g ch none h]

/-- A refusal ends the run. -/
theorem State.run_refuse (g : State) (ch n : Nat) (d : Decision) (cause : Cause) (gen : Option Nat)
    (res : ScreenResult) (h : ch < g.calls.channels.length) :
    (g.refuse ch d cause gen res).decisionRun ch .done n = g.refuse ch d cause gen res :=
  State.decisionRun_none _ _ _ _ (State.channel_refuse g ch d cause gen res h)

theorem State.act_enabled (g : State) (ch : Nat) (d : Decision) (h : ch < g.calls.channels.length)
    (hn : d.next = .enabled) (hx : (g.channel ch).enabled = true) :
    (g.setDecision ch (some d)).decisionAct ch d = g.setDecision ch (some { d with next := .intake }) := by
  simp [State.decisionAct, hn, State.channel_setDecision g ch _ h, hx, State.setDecision_setDecision g ch _ _ h]

theorem State.act_intake (g : State) (ch : Nat) (d : Decision) (h : ch < g.calls.channels.length)
    (hn : d.next = .intake) (hx : g.mgmt.intake = .opened) :
    (g.setDecision ch (some d)).decisionAct ch d = g.setDecision ch (some { d with next := .numbers }) := by
  simp [State.decisionAct, hn, hx, State.setDecision_setDecision g ch _ _ h]

theorem State.act_numbers (g : State) (ch : Nat) (d : Decision) (h : ch < g.calls.channels.length)
    (hn : d.next = .numbers) (hx : g.docs.counter.isSome = true) :
    (g.setDecision ch (some d)).decisionAct ch d = g.setDecision ch (some { d with next := .reserve }) := by
  simp [State.decisionAct, hn, hx, State.setDecision_setDecision g ch _ _ h]

theorem State.act_reserve (g : State) (ch : Nat) (d : Decision) (h : ch < g.calls.channels.length)
    (hn : d.next = .reserve) (hx : g.journal.roomy = true) :
    (g.setDecision ch (some d)).decisionAct ch d
      = g.reserve.setDecision ch (some { d with next := .pressure, reserved := true }) := by
  have h2 : ch < g.reserve.calls.channels.length := by simpa using h
  simp [State.decisionAct, hn, hx, State.reserve_setDecision, State.setDecision_setDecision g.reserve ch _ _ h2]

theorem State.act_pressure (g : State) (ch : Nat) (d : Decision) (h : ch < g.calls.channels.length)
    (hn : d.next = .pressure) (hx : g.pressure.level ≠ .critical) :
    (g.setDecision ch (some d)).decisionAct ch d = g.setDecision ch (some { d with next := .claim }) := by
  simp [State.decisionAct, hn, hx, State.setDecision_setDecision g ch _ _ h]

theorem State.act_claim (g : State) (ch slot : Nat) (d : Decision) (h : ch < g.calls.channels.length)
    (hn : d.next = .claim) (hx : lowestFree 1024 0 g.docs.slots = some slot) :
    (g.setDecision ch (some d)).decisionAct ch d
      = { g with docs := { g.docs with slots := tablePut slot (.claimed ch) g.docs.slots }
        }.setDecision ch (some { d with next := .resolve, claim := some slot }) := by
  have hs : (g.setDecision ch (some d)).claimSlot ch
      = some (slot, { g with docs := { g.docs with slots := tablePut slot (.claimed ch) g.docs.slots }
        }.setDecision ch (some d)) := by
    simp [State.claimSlot, Config.slotCount, hx]; rfl
  simp only [State.decisionAct, hn, hs]
  exact State.setDecision_setDecision _ ch _ _ h

theorem State.act_resolve (g : State) (ch : Nat) (d : Decision) (p : Placement)
    (h : ch < g.calls.channels.length) (hn : d.next = .resolve) (hx : g.resolve d.called d.caller = .placed p) :
    (g.setDecision ch (some d)).decisionAct ch d
      = g.setDecision ch (some { d with next := .answer, placement := some p }) := by
  have hr := State.resolve_congr (g.setDecision ch (some d)) g d.called d.caller (by simp) (by simp) (by simp)
  simp [State.decisionAct, hn, hr, hx, State.setDecision_setDecision g ch _ _ h]

/-! ### A loss of the link that waits (R50) -/

@[simp] theorem State.takeLoss_none (s : State) (ch : Nat) (h : (s.channel ch).loss = false) : s.takeLoss ch = s := by
  simp [State.takeLoss, h]

theorem State.decideOn_none (s : State) (ch : Nat) (stop : DecisionStop) (h : (s.channel ch).decision = none) :
    s.decideOn ch stop = s := State.decisionRun_none s ch stop 8 h

@[simp] theorem State.carryOn_none (s : State) (ch : Nat) (stop : DecisionStop) (h : (s.channel ch).decision = none) :
    s.carryOn ch stop = s := by
  simp [State.carryOn, State.decideOn_none s ch stop h, h]

/-! ### What an act, and a whole decision, can do -/

/-- The channel of an answered call (R33, R67). -/
def Channel.answered (c : Channel) (slot due : Nat) : Channel :=
  { c with state := .answered, doc := some slot, resends := 0, decision := none, silence := some due }

/-- The number of acts a decision has still to make. -/
def actsLeft (a : DecisionAct) : Nat :=
  match a with
  | .enabled => 8
  | .intake => 7
  | .numbers => 6
  | .reserve => 5
  | .pressure => 4
  | .claim => 3
  | .resolve => 2
  | .answer => 1

/-- Everything an act of a decision can do to the channels and to the Line Port (R33, R53, R66, R67): the decision goes
on with one act fewer, it is refused, or the call is answered. -/
theorem State.decisionAct_cases (s : State) (ch : Nat) (d : Decision) (h : ch < s.calls.channels.length) :
    (∃ e, (s.decisionAct ch d).calls = (s.setDecision ch (some e)).calls
        ∧ (s.decisionAct ch d).line = s.line ∧ actsLeft e.next + 1 = actsLeft d.next)
    ∨ (∃ cause, (s.decisionAct ch d).calls = (s.setDecision ch none).calls
        ∧ (s.decisionAct ch d).line = (s.sendLine ch (.refuse cause)).line)
    ∨ (∃ slot receipt due, (s.decisionAct ch d).calls = (s.setChannel ch ((s.channel ch).answered slot due)).calls
        ∧ (s.decisionAct ch d).line = (s.sendLine ch (.answer receipt)).line) := by
  have on : ∀ (x : State) (e : Decision) (k : Nat), x.calls = s.calls → x.line = s.line → actsLeft e.next + 1 = k →
      ∃ e', (x.setDecision ch (some e)).calls = (s.setDecision ch (some e')).calls
        ∧ (x.setDecision ch (some e)).line = s.line ∧ actsLeft e'.next + 1 = k :=
    fun x e k hx hl hn => ⟨e, by simp [State.setDecision, State.channel, hx], by simp [hl], hn⟩
  have no : ∀ (x : State) (cause : Cause) (gen : Option Nat) (res : ScreenResult), x.calls = s.calls → x.line = s.line →
      ∃ c, (x.refuse ch d cause gen res).calls = (s.setDecision ch none).calls
        ∧ (x.refuse ch d cause gen res).line = (s.sendLine ch (.refuse c)).line :=
    fun x cause gen res hx hl => ⟨cause, State.refuse_ends s x ch d cause gen res h hx hl⟩
  unfold State.decisionAct
  cases hn : d.next <;> dsimp only
  case enabled =>
    split
    · exact .inl (on s { d with next := .intake } _ rfl rfl rfl)
    · exact .inr (.inl (no s _ _ _ rfl rfl))
  case intake =>
    split
    · exact .inl (on s { d with next := .numbers } _ rfl rfl rfl)
    · exact .inr (.inl (no s _ _ _ rfl rfl))
    · exact .inr (.inl (no s _ _ _ rfl rfl))
  case numbers =>
    split
    · exact .inl (on s { d with next := .reserve } _ rfl rfl rfl)
    · exact .inr (.inl (no s _ _ _ rfl rfl))
  case reserve =>
    split
    · exact .inl (on s.reserve { d with next := .pressure, reserved := true } _ (by simp) (by simp) rfl)
    · exact .inr (.inl (no s.countUnrecorded _ _ _ (by simp) (by simp)))
  case pressure =>
    split
    · exact .inr (.inl (no s _ _ _ rfl rfl))
    · exact .inl (on s { d with next := .claim } _ rfl rfl rfl)
  case claim =>
    split
    · exact .inr (.inl (no s _ _ _ rfl rfl))
    · rename_i slot x hc
      have hf := State.claimSlot_frame _ _ _ _ hc
      exact .inl (on x { d with next := .resolve, claim := some slot } _ (by simp [hf]) (by simp [hf]) rfl)
  case resolve =>
    split
    · exact .inr (.inl (no s _ _ _ rfl rfl))
    · rename_i p _
      exact .inl (on s { d with next := .answer, placement := some p } _ rfl rfl rfl)
  case answer =>
    split
    · rename_i slot p _ _
      unfold State.answeringStep
      dsimp only
      split
      · exact .inr (.inl (no s _ _ _ rfl rfl))
      · exact .inr (.inl (no s _ _ _ rfl rfl))
      · split
        · exact .inr (.inl (no s _ _ _ rfl rfl))
        · split
          · exact .inr (.inl (no s _ _ _ rfl rfl))
          · rename_i receipt _
            refine .inr (.inr ⟨slot, receipt, s.silenceDue, ?_, ?_⟩)
            · simp only [State.answerCall, State.sendLine_frame]; rfl
            · refine State.sendLine_line_congr s _ ch _ rfl ?_
              rw [State.channel_setChannel]
              · rfl
              · exact h
    · exact .inr (.inl (no s _ _ _ rfl rfl))

/-- A decision run to its end (R33, R53): the call has been refused or answered, the other channels stand as they were,
and the Line Port has been handed that one frame. -/
theorem State.decisionRun_ends (s : State) (ch n : Nat) (d : Decision) (h : ch < s.calls.channels.length)
    (hd : (s.channel ch).decision = some d) (hn : actsLeft d.next ≤ n) :
    (∃ cause, (s.decisionRun ch .done n).calls = (s.setDecision ch none).calls
        ∧ (s.decisionRun ch .done n).line = (s.sendLine ch (.refuse cause)).line)
    ∨ (∃ slot receipt due,
        (s.decisionRun ch .done n).calls = (s.setChannel ch ((s.channel ch).answered slot due)).calls
        ∧ (s.decisionRun ch .done n).line = (s.sendLine ch (.answer receipt)).line) := by
  induction n generalizing s d with
  | zero => cases hx : d.next <;> simp [actsLeft, hx] at hn
  | succ k ih =>
    rw [State.decisionRun_succ s ch .done k d hd (by simp)]
    obtain ⟨e, hc, hl, hk⟩ | ⟨cause, hc, hl⟩ | ⟨slot, receipt, due, hc, hl⟩ := State.decisionAct_cases s ch d h
    · have hch : (s.decisionAct ch d).channel ch = { s.channel ch with decision := some e } := by
        rw [State.channel_congr (s.setDecision ch (some e)) _ ch hc, State.channel_setDecision s ch _ h]
      have hs : ∀ b, ((s.decisionAct ch d).sendLine ch b).line = (s.sendLine ch b).line :=
        fun b => State.sendLine_line_congr s _ ch b hl (by rw [hch])
      have := ih (s.decisionAct ch d) e (by rw [hc]; simpa using h) (by rw [hch]) (by omega)
      simpa [hch, hs, hc, State.setDecision, Channel.answered] using this
    · rw [State.decisionRun_none _ _ _ _
        (by rw [State.channel_congr (s.setDecision ch none) _ ch hc, State.channel_setDecision s ch _ h])]
      exact .inl ⟨cause, hc, hl⟩
    · rw [State.decisionRun_none _ _ _ _
        (by rw [State.channel_congr (s.setChannel ch ((s.channel ch).answered slot due)) _ ch hc,
              State.channel_setChannel s ch _ h]; rfl)]
      exact .inr ⟨slot, receipt, due, hc, hl⟩

/-- A decision under way has at most eight acts left, so that decideOn runs it to its end. -/
theorem State.decideOn_ends (s : State) (ch : Nat) (d : Decision) (h : ch < s.calls.channels.length)
    (hd : (s.channel ch).decision = some d) :
    (∃ cause, (s.decideOn ch .done).calls = (s.setDecision ch none).calls
        ∧ (s.decideOn ch .done).line = (s.sendLine ch (.refuse cause)).line)
    ∨ (∃ slot receipt due,
        (s.decideOn ch .done).calls = (s.setChannel ch ((s.channel ch).answered slot due)).calls
        ∧ (s.decideOn ch .done).line = (s.sendLine ch (.answer receipt)).line) :=
  State.decisionRun_ends s ch 8 d h hd (by cases d.next <;> simp [actsLeft])

end Sys2Proof.Machine
end

