-- ==== Sys2Proof/Laws/Memory.lean ====
section
/-! SUPPORT. The bytes of the page store: every operation keeps the canonical form, a byte written reads back, and
every other address reads as before. -/

namespace Sys2Proof.Machine

open Sys2Proof.Config

theorem Memory.wfFrom_mono (mem : List Host.Cell) (lo hi : Nat) (h : lo ≤ hi) (hw : Memory.wfFrom hi mem = true) :
    Memory.wfFrom lo mem = true := by
  cases mem with
  | nil => rfl
  | cons c t =>
    simp only [Memory.wfFrom, Bool.and_eq_true, decide_eq_true_eq] at hw ⊢
    exact ⟨⟨⟨by omega, hw.1.1.2⟩, hw.1.2⟩, hw.2⟩

/-- An address below every entry reads as an unlisted byte. -/
theorem Memory.read_below (mem : List Host.Cell) (lo a : Nat) (h : a < lo) (hw : Memory.wfFrom lo mem = true) :
    Memory.read a mem = Memory.unlisted := by
  induction mem generalizing lo with
  | nil => rfl
  | cons c t ih =>
    simp only [Memory.wfFrom, Bool.and_eq_true, decide_eq_true_eq] at hw
    have hne : ¬ c.1 = a := by omega
    simp only [Memory.read, hne, if_false]
    exact ih (c.1 + 1) (by omega) hw.2

theorem Memory.write_wfFrom (mem : List Host.Cell) (lo a : Nat) (b : Byte) (h : lo ≤ a) (hs : a < Memory.size)
    (hw : Memory.wfFrom lo mem = true) : Memory.wfFrom lo (Memory.write a b mem) = true := by
  induction mem generalizing lo with
  | nil =>
    simp only [Memory.write]
    split
    · rfl
    · rename_i hb
      simp [Memory.wfFrom, h, hs, hb]
  | cons c t ih =>
    have hw' := hw
    simp only [Memory.wfFrom, Bool.and_eq_true, decide_eq_true_eq] at hw
    simp only [Memory.write]
    split
    · split
      · exact hw'
      · rename_i hlt hb
        simp only [Memory.wfFrom, Bool.and_eq_true, decide_eq_true_eq, bne_iff_ne, ne_eq]
        exact ⟨⟨⟨h, hs⟩, hb⟩, ⟨⟨by omega, hw.1.1.2⟩, by simpa using hw.1.2⟩, hw.2⟩
    · split
      · split
        · rename_i he _
          exact Memory.wfFrom_mono t lo (c.1 + 1) (by omega) hw.2
        · rename_i he hb
          subst he
          simp only [Memory.wfFrom, Bool.and_eq_true, decide_eq_true_eq, bne_iff_ne, ne_eq]
          exact ⟨⟨⟨h, hs⟩, hb⟩, hw.2⟩
      · simp only [Memory.wfFrom, Bool.and_eq_true, decide_eq_true_eq]
        exact ⟨hw.1, ih (c.1 + 1) (by omega) hw.2⟩

/-- One byte written inside the store keeps the canonical form. -/
theorem Memory.write_wf (mem : List Host.Cell) (a : Nat) (b : Byte) (hs : a < Memory.size)
    (hw : Memory.wf mem = true) : Memory.wf (Memory.write a b mem) = true :=
  Memory.write_wfFrom mem 0 a b (Nat.zero_le _) hs hw

theorem Memory.read_write_same_from (mem : List Host.Cell) (lo a : Nat) (b : Byte) (h : lo ≤ a)
    (hw : Memory.wfFrom lo mem = true) : Memory.read a (Memory.write a b mem) = b := by
  induction mem generalizing lo with
  | nil =>
    simp only [Memory.write]
    split
    · rename_i hb; simp [Memory.read, hb]
    · simp [Memory.read]
  | cons c t ih =>
    have hw' := hw
    simp only [Memory.wfFrom, Bool.and_eq_true, decide_eq_true_eq] at hw
    simp only [Memory.write]
    split
    · rename_i hlt
      split
      · rename_i hb
        rw [hb]
        have hne : ¬ c.1 = a := by omega
        simp only [Memory.read, hne, if_false]
        exact Memory.read_below t (c.1 + 1) a (by omega) hw.2
      · simp [Memory.read]
    · split
      · rename_i he
        split
        · rename_i hb
          rw [hb]
          exact Memory.read_below t (c.1 + 1) a (by omega) hw.2
        · simp [Memory.read]
      · rename_i h1 h2
        have hne : ¬ c.1 = a := by omega
        simp only [Memory.read, hne, if_false]
        exact ih (c.1 + 1) (by omega) hw.2

/-- A byte written reads back. -/
theorem Memory.read_write_same (mem : List Host.Cell) (a : Nat) (b : Byte) (hw : Memory.wf mem = true) :
    Memory.read a (Memory.write a b mem) = b :=
  Memory.read_write_same_from mem 0 a b (Nat.zero_le _) hw

/-- Every other address reads as before. -/
theorem Memory.read_write_ne (mem : List Host.Cell) (a k : Nat) (b : Byte) (h : k ≠ a) :
    Memory.read k (Memory.write a b mem) = Memory.read k mem := by
  induction mem with
  | nil =>
    simp only [Memory.write]
    split
    · rfl
    · simp [Memory.read, Ne.symm h]
  | cons c t ih =>
    simp only [Memory.write]
    split
    · split
      · rfl
      · simp [Memory.read, Ne.symm h]
    · split
      · rename_i he
        split
        · simp [Memory.read, ← he, Ne.symm h]
        · simp [Memory.read, ← he, Ne.symm h]
      · simp only [Memory.read, ih]

theorem Memory.writeRun_wf (bytes : List Byte) (a : Nat) (mem : List Host.Cell)
    (hs : a + bytes.length ≤ Memory.size) (hw : Memory.wf mem = true) :
    Memory.wf (Memory.writeRun a bytes mem) = true := by
  induction bytes generalizing a mem with
  | nil => exact hw
  | cons b t ih =>
    simp only [List.length_cons] at hs
    exact ih (a + 1) _ (by omega) (Memory.write_wf mem a b (by omega) hw)

/-- A block write keeps the canonical form (R1, R5). -/
theorem Memory.writeBlock_wf (block : Nat) (bytes : List Byte) (mem : List Host.Cell) (hb : block < blockCount)
    (hw : Memory.wf mem = true) : Memory.wf (Memory.writeBlock block bytes mem) = true := by
  refine Memory.writeRun_wf _ _ _ ?_ hw
  have hl : (bytes.take blockBytes).length ≤ blockBytes := by simp
  have hm : (block + 1) * blockBytes ≤ blockCount * blockBytes := Nat.mul_le_mul_right _ hb
  simp only [Memory.size]
  rw [Nat.add_mul, Nat.one_mul] at hm
  omega

/-- Cells that decay keep the canonical form (R7). -/
theorem Memory.decay_wf (block : Nat) (cells : List (Nat × Byte)) (mem : List Host.Cell) (hb : block < blockCount)
    (hw : Memory.wf mem = true) : Memory.wf (Memory.decay block cells mem) = true := by
  induction cells generalizing mem with
  | nil => exact hw
  | cons c t ih =>
    refine ih _ ?_
    split
    · rename_i hc
      refine Memory.write_wf mem _ _ ?_ hw
      have hm : (block + 1) * blockBytes ≤ blockCount * blockBytes := Nat.mul_le_mul_right _ hb
      simp only [Memory.size]
      rw [Nat.add_mul, Nat.one_mul] at hm
      omega
    · exact hw

/-- A run written leaves every address outside it as it was. -/
theorem Memory.read_writeRun_outside (bytes : List Byte) (a k : Nat) (mem : List Host.Cell)
    (h : k < a ∨ a + bytes.length ≤ k) : Memory.read k (Memory.writeRun a bytes mem) = Memory.read k mem := by
  induction bytes generalizing a mem with
  | nil => rfl
  | cons b t ih =>
    simp only [List.length_cons] at h
    simp only [Memory.writeRun]
    rw [ih (a + 1) _ (by omega), Memory.read_write_ne _ _ _ _ (by omega)]

/-- Nothing is listed right after power-on, which is canonical. -/
theorem Memory.reset_wf : Memory.wf State.reset.store.mem = true := rfl

end Sys2Proof.Machine
end

