-- ==== Sys2Proof/Laws/Requests.lean ====
section
/-! SUPPORT. Arrivals on the office link and the judging of a request, each as a rewrite: what an arrival leaves as
it was, which sources are permitted, and what a request does at each step of its judging. -/

namespace Sys2Proof.Machine

open Sys2Proof.Config

/-- A command that the reset input does not hold back. -/
theorem act_awake (f : State → State) (s : State) (h : s.awake) : act f s = .next (f s) := by
  simp only [State.awake] at h
  simp [act, h]

theorem State.pointRow_officeArrival (s : State) (src p : Nat) : (s.officeArrival src).pointRow p = s.pointRow p := by
  simp [State.pointRow]

theorem State.mailRow_officeArrival (s : State) (src m : Nat) : (s.officeArrival src).mailRow m = s.mailRow m := by
  simp [State.mailRow]

theorem State.doc_officeArrival (s : State) (src slot : Nat) : (s.officeArrival src).doc slot = s.doc slot := by
  simp [State.doc]

theorem State.docOf_officeArrival (s : State) (src r : Nat) : (s.officeArrival src).docOf r = s.docOf r := by
  simp [State.docOf, State.docList]

theorem State.lanes_officeArrival (s : State) (src : Nat) :
    (s.officeArrival src).delivery.lanes = s.delivery.lanes := by
  unfold State.officeArrival State.frameSeen
  split <;> simp [State.pointState]

theorem State.lane_officeArrival (s : State) (src i : Nat) : (s.officeArrival src).lane i = s.lane i := by
  simp [State.lane, State.lanes_officeArrival]

theorem State.laneDoc_officeArrival (s : State) (src i : Nat) : (s.officeArrival src).laneDoc i = s.laneDoc i := by
  simp [State.laneDoc, State.lane_officeArrival, State.doc_officeArrival]

/-- R176 step 1 as a Bool and as a Prop. -/
theorem State.permitted_iff (s : State) (src : Nat) : s.permitted src = true ↔ s.mayManage src := by
  simp only [State.permitted, State.mayManage, pointOk, within, Bool.or_eq_true, beq_iff_eq, Bool.and_eq_true,
    decide_eq_true_eq, and_assoc]
  cases s.pointRow src <;> simp

theorem State.permitted_officeArrival (s : State) (src p : Nat) :
    (s.officeArrival src).permitted p = s.permitted p := by
  simp [State.permitted, State.pointRow_officeArrival]

theorem State.slot_officeArrival (s : State) (src : Nat) : (s.officeArrival src).mgmt.slot = s.mgmt.slot := by
  simp

/-- The state in which a taken request acts differs from the one before in the link, its point and the record of
the request alone. -/
theorem State.docOf_taking (s : State) (src r : Nat) : (s.taking src).docOf r = s.docOf r :=
  State.docOf_officeArrival s src r

/-- R176: a request with no other that holds the slot or came with it and took the slot. -/
theorem State.second_of_slotFor (s : State) (h : ReqHead) (hs : s.slotFor h) : s.second h = false := by
  simpa [State.second] using hs.2

/-- A reply leaves the record of the latest request as it was, handed at once or not. -/
@[simp] theorem State.addReply_tookSlot (s : State) (r : Reply) : (s.addReply r).mgmt.tookSlot = s.mgmt.tookSlot := by
  unfold State.addReply State.handReply
  repeat' split
  all_goals simp

@[simp] theorem State.reply_tookSlot (s : State) (h : ReqHead) (k : ReqKind) (result : Result) (body : ReplyBody) :
    (s.reply h k result body).mgmt.tookSlot = s.mgmt.tookSlot := by
  simp [State.reply]

@[simp] theorem State.immediate_tookSlot (s : State) (h : ReqHead) (code : Nat) (result : Result) :
    (s.immediate h code result).mgmt.tookSlot = s.mgmt.tookSlot := by
  unfold State.immediate
  split <;> simp

@[simp] theorem State.taking_tookSlot (s : State) (src : Nat) : (s.taking src).mgmt.tookSlot = true := rfl

/-- R176 step 1. -/
theorem State.request_notPermitted (s : State) (h : ReqHead) (k : ReqKind) (f : State → State)
    (hm : ¬ s.mayManage h.src) :
    s.request h k f = (s.answering h).immediate h (replyCode k) .notPermitted := by
  rw [← State.permitted_iff] at hm
  simp [State.request, hm]

/-- R176 step 3 and its last sentence. -/
theorem State.request_busy (s : State) (h : ReqHead) (k : ReqKind) (f : State → State) (hm : s.mayManage h.src)
    (hs : ¬ s.slotFor h) :
    s.request h k f = (s.answering h).immediate h (replyCode k) .busy := by
  rw [← State.permitted_iff] at hm
  have hb : s.mgmt.slot ≠ .free ∨ s.second h = true := by
    by_cases hf : s.mgmt.slot = .free
    · exact .inr (by simpa [State.slotFor, State.second, hf] using hs)
    · exact .inl hf
  simp only [State.request, hm, hb, Bool.not_true, Bool.false_eq_true, if_false, if_true]

/-- R176, last part, with R197: a request that takes the slot without the form of its kind. -/
theorem State.request_illFormed (s : State) (h : ReqHead) (k : ReqKind) (f : State → State) (hm : s.mayManage h.src)
    (hs : s.slotFor h) (hf : h.formed = false) :
    s.request h k f = (s.taking h.src).reply h k .badArgument .none := by
  rw [← State.permitted_iff] at hm
  simp [State.request, hm, hs.1, State.second_of_slotFor s h hs, hf]

/-- R176 step 4. -/
theorem State.request_taken (s : State) (h : ReqHead) (k : ReqKind) (f : State → State) (ht : s.requestTaken h) :
    s.request h k f = f (s.taking h.src) := by
  obtain ⟨_, hm, hs, hf⟩ := ht
  rw [← State.permitted_iff] at hm
  simp [State.request, hm, hs.1, State.second_of_slotFor s h hs, hf]

/-- A request on a document that is taken and names a record in use. -/
theorem State.docRequest_taken (s : State) (h : ReqHead) (k : ReqKind) (r slot : Nat) (d : Doc)
    (f : State → Nat → Doc → State) (ht : s.requestTaken h) (hr : r ≠ 0)
    (hd : s.docOf r = some (slot, d)) :
    s.docRequest h k r f = f (s.taking h.src) slot d := by
  simp [State.docRequest, State.request_taken s h k _ ht, State.docOf_taking, hr, hd]

end Sys2Proof.Machine
end

