-- ==== Sys2Proof/Tests/Slice0.lean ====
section
/-! SUPPORT. The model's own checks: ill-formed commands refused, check values and image sizes, and for each statement
a state and operands that meet its hypotheses, with what the step leaves there. -/

namespace Sys2Proof.Tests

open Sys2Proof Sys2Proof.Machine Sys2Proof.Config

set_option Elab.async false

/-! ### Small states -/

/-- The state a command answers. -/
def nxt (o : Host.Outcome State Fault Refusal) : State :=
  match o with
  | .next t => t
  | _ => State.reset

/-- Whether a command answers a next state. -/
def runs (o : Host.Outcome State Fault Refusal) : Bool :=
  match o with
  | .next _ => true
  | _ => false

def head31 : ReqHead := { src := 31, tag := 7, formed := true, together := false }

def route0 : RouteEntry := { stem := [], mailbox := 3, cls := .routine, hours := 1, shed := true }
def route12 : RouteEntry := { stem := [49, 50], mailbox := 5, cls := .urgent, hours := 0, shed := false }
def mailA : MailRow := { primary := 2, alternate := some 4, quota := 10, overflow := some 5 }
def mailB : MailRow := { primary := 4, alternate := none, quota := 1, overflow := none }
def pointA : PointRow := { manage := true, accept := 5, ack := 15, wait := 30, maxSlots := 2 }
def pointB : PointRow := { manage := false, accept := 5, ack := 15, wait := 30, maxSlots := 8 }

def tables0 : TableUnit :=
  { routing := ⟨[route0, route12], [], 1, 0⟩, screening := ⟨[], [], 0, 0⟩,
    mailbox := ⟨[(3, mailA), (5, mailB)], [(3, mailA), (5, mailB)], 1, 0⟩,
    point := ⟨[(2, pointA), (4, pointB)], [(2, pointA), (4, pointB)], 1, 0⟩ }

/-- A 6024 in use: links UP, tables loaded, intake OPEN, delivery RUNNING, three blocks free. -/
def base : State :=
  { State.reset with
    store := { mem := [], blocks := [], free := [5, 6, 7], records := [], port := [] }
    line := { State.reset.line with link := .up, silence := some 3000 }
    office := { State.reset.office with link := .up, silence := some 3000 }
    tables := tables0
    mgmt := { State.reset.mgmt with
      intake := .opened, run := .running, clockSet := true, unacknowledged := false, notices := [], flags := 0 } }

def doc0 : Doc :=
  { receipt := 9, state := .receiving, channel := some 0, called := [49], caller := none, station := none, routed := 3,
    current := 3, cls := .routine, hours := 1, routeGen := 1, screening := .none, openTime := ⟨0, 0⟩, closeTime := none,
    pages := [], incomplete := false, damaged := 0, hold := none, attempts := 0, notBefore := none, ackThrough := 0,
    resume := none, expiry := none }

def page0 : PageRecord :=
  { slot := 0, number := 1, blocks := [8], length := 3, res := .standard, width := .a4,
    finish := some ⟨1, 0, .good⟩, resends := 0, sends := 0 }

/-- One document in slot 0, with page record 0 in use. -/
def withDoc (d : Doc) : State :=
  { base with
    docs := { slots := [(0, .inUse d)], counter := some 10 }
    store := { base.store with
      mem := [(8 * 4096, 1), (8 * 4096 + 1, 2), (8 * 4096 + 2, 3)], blocks := [(8, ⟨3, crc16 [1, 2, 3]⟩)]
      records := [(0, page0)] } }

/-- Channel 0 in a state, its document in slot 0. -/
def onCall (st : ChannelState) (d : Doc) (c : Channel) : State :=
  ({ withDoc d with journal := { base.journal with reserved := 1 } } : State).setChannel 0
    { c with state := st, doc := some 0 }

def fresh : Channel := Channel.initial

/-- Channel 0 idle, nothing in use. -/
def idle0 : State := base

def docD : Doc := { doc0 with state := .delivering, channel := none, pages := [0], resume := some 2 }
def docQ : Doc := { docD with state := .queued }

/-- Lane 0 serves slot 0 to point 2, which is READY and has posted slots. -/
def onLane (l : Lane) (intake : List IntakeSlot) : State :=
  ((withDoc docD).setLane 0 { l with job := some ⟨0, 2⟩ }).setPoint 2
    { Point.initial with state := .ready, lane := some 0, intake := intake }

def sendingLane : Lane := { Lane.initial with state := .sending, nextRead := some 2 }

/-- A document QUEUED in mailbox 3, with its points READY. -/
def queued0 : State :=
  (((withDoc docQ).setBox 3 { Mailbox.initial with queue := [0], held := 1 }).setPoint 2
    { Point.initial with state := .ready }).setPoint 4 { Point.initial with state := .ready }

/-! ### Ill-formed commands are refused -/

theorem test_illFormed_line :
    (Instr.callOpen 24 (.frame [] none .done)).wellFormed = false
    ∧ (Instr.callOpen 0 (.frame [65] none .done)).wellFormed = false
    ∧ (Instr.callOpen 0 (.frame [] (some [65]) .done)).wellFormed = false
    ∧ (Instr.callOpen 24 (.onward .done)).wellFormed = false
    ∧ (Instr.senderInfo 24 []).wellFormed = false ∧ (Instr.senderInfo 0 [31]).wellFormed = false
    ∧ (Instr.senderInfo 0 (List.replicate 21 65)).wellFormed = false
    ∧ (Instr.pageStart 24 1 .fine .a4).wellFormed = false ∧ (Instr.pageStart 0 0 .fine .a4).wellFormed = false
    ∧ (Instr.pageStart 0 1001 .fine .a4).wellFormed = false ∧ (Instr.pageData 0 256 [1]).wellFormed = false
    ∧ (Instr.pageData 0 0 []).wellFormed = false ∧ (Instr.pageData 24 0 [1]).wellFormed = false
    ∧ (Instr.pageEnd 0 65536 0 .good).wellFormed = false ∧ (Instr.pageEnd 0 0 65536 .good).wellFormed = false
    ∧ (Instr.callClose 24 .normal).wellFormed = false ∧ (Instr.channelLinkLoss 24).wellFormed = false
    ∧ (Instr.channelSilenceExpiry 24).wellFormed = false ∧ (Instr.releaseTimerExpiry 24).wellFormed = false
    ∧ (Instr.channelIntakeAbort 24).wellFormed = false ∧ (Instr.readCompletion [(4096, 0)]).wellFormed = false := by
  decide +kernel

theorem test_illFormed_longPayload : (Instr.pageData 0 0 (List.replicate 1025 0)).wellFormed = false := by
  decide +kernel

theorem test_illFormed_office :
    (Instr.pointUp 0).wellFormed = false ∧ (Instr.pointDown 31).wellFormed = false
    ∧ (Instr.accept 1 0).wellFormed = false ∧ (Instr.accept 1 4294967296).wellFormed = false
    ∧ (Instr.decline 1 1 256).wellFormed = false ∧ (Instr.intakePost 1 256 1).wellFormed = false
    ∧ (Instr.intakePost 1 0 0).wellFormed = false ∧ (Instr.intakePost 1 0 16777216).wellFormed = false
    ∧ (Instr.pageAck 1 256).wellFormed = false ∧ (Instr.pageNak 0 1).wellFormed = false
    ∧ (Instr.frameDiscardedReport (.lane 4)).wellFormed = false ∧ (Instr.acceptTimerExpiry 4).wellFormed = false
    ∧ (Instr.ackTimerExpiry 4 .first).wellFormed = false ∧ (Instr.intakeWaitExpiry 4).wellFormed = false
    ∧ (Instr.retentionExpiry 0).wellFormed = false ∧ (Instr.notBeforeReached 64).wellFormed = false := by decide +kernel

theorem test_illFormed_requests :
    (Instr.readStatus { head31 with src := 32 }).wellFormed = false
    ∧ (Instr.readFlags { head31 with tag := 256 }).wellFormed = false
    ∧ (Instr.unknownRequest head31 64).wellFormed = false ∧ (Instr.unknownRequest head31 16).wellFormed = false
    ∧ (Instr.unknownRequest head31 127).wellFormed = false ∧ (Instr.unknownRequest head31 256).wellFormed = false
    ∧ (Instr.clearFlags head31 [256]).wellFormed = false ∧ (Instr.setClock head31 4294967296 0).wellFormed = false
    ∧ (Instr.setClock head31 0 65536).wellFormed = false ∧ (Instr.setReceiptBase head31 4294967296).wellFormed = false
    ∧ (Instr.channelRead head31 256).wellFormed = false ∧ (Instr.stageRead head31 .point 65536 1).wellFormed = false
    ∧ (Instr.tableRead head31 .point 1 256).wellFormed = false ∧ (Instr.mailboxOpen head31 256).wellFormed = false
    ∧ (Instr.mailboxRead head31 0 65536 1).wellFormed = false ∧ (Instr.pointRead head31 256 0).wellFormed = false
    ∧ (Instr.docList head31 4294967296 1).wellFormed = false ∧ (Instr.docPages head31 1 65536 1).wellFormed = false
    ∧ (Instr.docReroute head31 1 256).wellFormed = false ∧ (Instr.journalRead head31 65536 1).wellFormed = false
    ∧ (Instr.journalRelease head31 ⟨65536, 0⟩).wellFormed = false := by decide +kernel

/-! ### Check values and layouts (chapter 11) -/

theorem test_crc16 : crc16 [49, 50, 51, 52, 53, 54, 55, 56, 57] = 0x29B1 := by decide +kernel
theorem test_crc32 : crc32 [49, 50, 51, 52, 53, 54, 55, 56, 57] = 0xFC891918 := by decide +kernel
theorem test_crc_of_nothing : crc16 [] = 0xFFFF ∧ crc32 [] = 0 := by decide +kernel

theorem test_image_sizes :
    (docImage 0 doc0 0).length = 114 ∧ (routeImage route0).length = 22 ∧ (mailImage 3 mailA).length = 6
    ∧ (pointRowImage 2 pointA).length = 6
    ∧ (screenImage { kind := .caller, str := [49], action := .accept, target := none }).length = 24 := by decide +kernel

theorem test_line_run : shelfRun (.pageStart 1 2 .fine .a3)
    = [3, 1, 0, 4, 0, 2, 2, 3] ++ be 2 (crc16 [3, 1, 0, 4, 0, 2, 2, 3]).toNat := by decide +kernel

theorem test_line_run_back : lineRun (shelfRun (.pageStart 1 2 .fine .a3)) = .pageStart 1 2 .fine .a3
    ∧ lineRun (shelfRun (.callOpen 3 (.frame [49, 42, 35] none .done))) = .callOpen 3 (.frame [49, 42, 35] none .done)
    ∧ lineRun (shelfRun (.senderInfo 23 [65, 32])) = .senderInfo 23 [65, 32]
    ∧ lineRun (shelfRun (.pageData 0 255 [0, 255])) = .pageData 0 255 [0, 255]
    ∧ lineRun (shelfRun (.callClose 5 .protocol)) = .callClose 5 .protocol
    ∧ lineRun [1, 2, 3] = .badLineFrame := by decide +kernel

theorem test_office_run_back : officeRun (pointRun (.intakePost 2 255 16777215)) = .intakePost 2 255 16777215
    ∧ officeRun (pointRun (.decline 30 4294967295 255)) = .decline 30 4294967295 255
    ∧ officeRun (officeRunOf 0 31 74 7 [1]) = .deliveryRun head31
    ∧ officeRun (officeRunOf 5 31 74 7 [1]) = .foreignOfficeFrame
    ∧ officeRun (officeRunOf 0 2 16 0 [1]) = .badOfficeFrame true := by decide +kernel

/-! ### A state that meets each statement's hypotheses: steps and resets -/

theorem test_FrontCommandRuns :
    ({ base with pending := [.linkAlive, .lineFrameSent] } : State).pending = .linkAlive :: [.lineFrameSent]
    ∧ (nxt (step { base with pending := [.linkAlive, .lineFrameSent] })).pending = [.lineFrameSent] := by decide +kernel

theorem test_EmptyQueueTicks : base.pending = [] ∧ base.awake ∧ (nxt (step base)).mgmt.uptime = 1
    ∧ ¬ ({ base with heldReset := some .pin } : State).awake
    ∧ (nxt (step { base with heldReset := some .pin })).mgmt.uptime = 0
    ∧ (nxt (step { base with mgmt := { base.mgmt with uptime := uptimeMax, tod := ⟨5, 999⟩ } })).mgmt.uptime = uptimeMax
    ∧ (nxt (step { base with mgmt := { base.mgmt with tod := ⟨5, 999⟩ } })).mgmt.tod = ⟨6, 0⟩
    ∧ (nxt (exec .timeOfDayLimit { base with mgmt := { base.mgmt with tod := ⟨4294967295, 998⟩ } })).mgmt.tod
        = ⟨4294967295, 999⟩
    ∧ (nxt (exec .timeOfDayLimit { base with mgmt := { base.mgmt with tod := ⟨4294967295, 998⟩ } })).mgmt.uptime
        = 1 := by decide +kernel

theorem test_ResetsLeaveTheResetState : base.heldReset = none
    ∧ ({ base with heldReset := some .pin } : State).heldReset = some .pin
    ∧ (nxt (exec .pinResetAssert base)).heldReset = some .pin
    ∧ (nxt (exec .pinResetRelease { base with heldReset := some .pin })).mgmt.cause = .pin
    ∧ (nxt (exec .powerOnReset { base with heldReset := some .pin })).heldReset = some .powerOn
    ∧ (nxt (exec .powerOnReset base)).mgmt.cause = .powerOn ∧ (nxt (exec .powerOnReset base)).line.link = .down := by
  decide +kernel

theorem test_CommandsLeaveTheQueueAlone : (nxt (exec .linkAlive { base with pending := [.badLineFrame] })).pending
    = [.badLineFrame] ∧ runs (exec .linkAlive { base with pending := [.badLineFrame] }) = true := by decide +kernel

theorem test_StepsKeepCollectionsCanonical : (withDoc doc0).bytesOk ∧ (withDoc doc0).tablesOk
    ∧ runs (step (withDoc doc0)) = true := by decide +kernel

theorem test_StepsNeverStop : (withDoc doc0).blocksOk
    ∧ ({ base with store := { base.store with port := [.write 0 .first 0 16384] } } : State).store.port
        = .write 0 .first 0 16384 :: []
    ∧ exec .writeCompletion { base with store := { base.store with port := [.write 0 .first 0 16384] } }
        = .fault .noSuchBlock
    ∧ exec (.readCompletion []) { base with store := { base.store with port := [.read 0 0 1 16384 9] } }
        = .fault .noSuchBlock := ⟨by decide +kernel, rfl, rfl, rfl⟩

theorem test_StepsKeepCountsInLimits : base.limitsOk ∧ base.quarantineOk ∧ runs (step base) = true := by decide +kernel

theorem test_OneLaneServesOnePoint : State.reset.lanesOk := by
  refine ⟨by decide +kernel, (fun e he => nomatch he), (fun e he => nomatch he), ?_, ?_, ?_⟩
  · intro i hi
    have : i = 0 ∨ i = 1 ∨ i = 2 ∨ i = 3 := by simp only [laneCount] at hi; omega
    rcases this with rfl | rfl | rfl | rfl <;> decide +kernel
  · intro i hi j hj
    have : i = 0 ∨ i = 1 ∨ i = 2 ∨ i = 3 := by simp only [laneCount] at hi; omega
    rcases this with rfl | rfl | rfl | rfl <;> cases hj
  · intro p h1 h2 i hi
    have hp : (State.reset.point p) = Point.initial := by
      have : ∀ q, q < 30 → State.reset.point (q + 1) = Point.initial := by decide +kernel
      have := this (p - 1) (by simp only [pointCount] at h2; omega)
      rwa [Nat.sub_add_cancel h1] at this
    rw [hp] at hi
    cases hi

theorem test_RunsReadBack : shelfFrame (.senderInfo 23 [126]) = true ∧ (Instr.senderInfo 23 [126]).wellFormed = true
    ∧ pointFrame (.accept 30 4294967295) = true ∧ (Instr.accept 30 4294967295).wellFormed = true := by decide +kernel

/-! ### The line port and the answer decision -/

theorem test_LinePortTakesAndSends : base.awake ∧ base.line.link = .up ∧ State.reset.line.link = .down
    ∧ (nxt (exec .linkAlive State.reset)).waiting.occurrences = [(.linePort, .lineLinkChanged .up)]
    ∧ shelfFrame (.pageStart 24 1 .fine .a4) = true ∧ (Instr.pageStart 24 1 .fine .a4).wellFormed = false
    ∧ (nxt (exec (.pageStart 24 1 .fine .a4) base)).line.errors = 1
    ∧ (nxt (exec .badLineFrame { base with line := { base.line with errors := 65535 } })).line.errors = 65535
    ∧ base.line.silence = some 3000 ∧ 3000 ≤ 281474976710655
    ∧ (nxt (exec .lineSilenceExpiry base)).line.link = .down ∧ (nxt (exec .lineSilenceExpiry base)).mgmt.uptime = 3000
    ∧ (nxt (exec .lineFrameSent { base with line := { base.line with queue := [⟨0, .answer 1⟩] } })).line.output
        = some ⟨0, .answer 1⟩ ∧ (State.reset.sendLine 0 (.answer 1)).line.queue = [] := by decide +kernel

theorem test_MatchingFindsTheWinner : routeMatch [route0, route12] [49, 50, 51] = some route12
    ∧ routeMatch [route0, route12] [49] = some route0 ∧ routeMatch [route12] [49] = none
    ∧ callerMatch [⟨.caller, [49], .accept, none⟩, ⟨.station, [49], .refuse, none⟩] (some [49, 50])
        = some ⟨.caller, [49], .accept, none⟩
    ∧ callerMatch [⟨.station, [49], .refuse, none⟩] (some [49]) = none ∧ callerMatch [] none = none
    ∧ stationMatch [⟨.station, [65], .refuse, none⟩] [65, 32] = some ⟨.station, [65], .refuse, none⟩
    ∧ stationMatch [⟨.caller, [49], .refuse, none⟩] [49] = none ∧ trim [65, 32, 32] = [65] ∧ trim [32] = [] := by
  decide +kernel

def screened (a : ScreenAction) (target : Option Nat) : State :=
  { base with tables := { base.tables with screening := ⟨[⟨.caller, [49], a, target⟩], [], 1, 0⟩ } }

def full3 : State := base.setBox 3 { Mailbox.initial with held := 10 }
def full35 : State := full3.setBox 5 { Mailbox.initial with held := 1 }
def shut35 : State := full3.setBox 5 { Mailbox.initial with accepting := false }
def tight : State := { base with pressure := { base.pressure with level := .tight } }

theorem test_ResolutionOutcomes :
    (screened .refuse none).resolve [49] (some [49]) = .refused .screened none .none
    ∧ ({ base with tables := { base.tables with routing := ⟨[], [], 4, 0⟩ } } : State).resolve [49] none
        = .refused .noRoute (some 4) .none
    ∧ tight.resolve [55] none = .refused .storeTight (some 1) .none
    ∧ (screened .quarantine none).resolve [55] (some [49])
        = .placed { routed := 3, final := 64, cls := .routine, hours := 1, routeGen := 1, screening := .quarantine }
    ∧ (screened .redirect (some 5)).resolve [55] (some [49])
        = .placed { routed := 3, final := 5, cls := .routine, hours := 1, routeGen := 1, screening := .redirect }
    ∧ (screened .accept none).resolve [55] (some [49])
        = .placed { routed := 3, final := 3, cls := .routine, hours := 1, routeGen := 1, screening := .accept }
    ∧ full3.resolve [55] none
        = .placed { routed := 3, final := 5, cls := .routine, hours := 1, routeGen := 1, screening := .none }
    ∧ full35.place 3 = .error .mailboxFull := by
  refine ⟨?_, ?_, ?_, ?_, ?_, ?_, ?_, rfl⟩ <;> decide +kernel

theorem test_placement : base.takes 3 = true ∧ full3.takes 3 = false ∧ full3.takes 5 = true ∧ full3.place 3 = .ok 5
    ∧ shut35.place 3 = .error .mailboxClosed ∧ full35.place 5 = .error .mailboxFull
    ∧ base.mailRow 4 = none ∧ base.place 4 = .error .mailboxClosed ∧ base.takes 64 = true
    ∧ (full3.mailRow 3) = some mailA ∧ mailA.overflow = some 5 ∧ mailB.overflow = none :=
  ⟨by decide +kernel, by decide +kernel, by decide +kernel, rfl, rfl, rfl, by decide +kernel, rfl, by decide +kernel,
   by decide +kernel, rfl, rfl⟩

def opening : Instr := .callOpen 23 (.frame [55] none .done)

theorem test_RefusalsOfACall : base.quiet 23 ∧ (base.channel 23).state = .idle
    ∧ callOpenOk 23 (.frame [55] none .done) = true ∧ base.admitted 23 ∧ base.tablesOk
    ∧ (nxt (exec opening (base.setChannel 23 { fresh with enabled := false }))).line.queue
        = [⟨23, .refuse .channelDisabled⟩]
    ∧ (nxt (exec opening { base with mgmt := { base.mgmt with intake := .closed } })).line.queue
        = [⟨23, .refuse .intakeClosed⟩]
    ∧ (nxt (exec opening { base with mgmt := { base.mgmt with intake := .draining } })).line.queue
        = [⟨23, .refuse .draining⟩]
    ∧ (nxt (exec opening { base with docs := { base.docs with counter := none } })).line.queue
        = [⟨23, .refuse .numbersExhausted⟩]
    ∧ (nxt (exec opening { base with journal := { base.journal with reserved := 2048 } })).journal.unrecorded = 1
    ∧ (nxt (exec opening { base with pressure := { base.pressure with level := .critical } })).line.queue
        = [⟨23, .refuse .storeCritical⟩]
    ∧ ({ base with pressure := { base.pressure with level := .critical } } : State).admitted 23
    ∧ (nxt (exec opening { base with docs := { base.docs with
        slots := (List.range 1024).map (fun k => (k, .claimed 0)) } })).line.queue = [⟨23, .refuse .noDocumentSlot⟩]
    ∧ (nxt (exec opening shut35)).line.queue = [⟨23, .refuse .mailboxClosed⟩]
    ∧ ((nxt (exec opening shut35)).journal.log.map Entry.outcome) = [.refused] ∧ shut35.admitted 23 := by
  decide +kernel

theorem test_CallAnswered : base.admitted 23 ∧ base.pressure.level ≠ .critical
    ∧ lowestFree 1024 0 base.docs.slots = some 0 ∧ base.docs.counter = some 1
    ∧ base.resolve [55] none
        = .placed { routed := 3, final := 3, cls := .routine, hours := 1, routeGen := 1, screening := .none }
    ∧ (nxt (exec opening base)).line.queue = [⟨23, .answer 1⟩] ∧ (nxt (exec opening base)).docs.counter = some 2
    ∧ ((nxt (exec opening base)).channel 23).silence = some 20000
    ∧ (nxt (exec opening { base with docs := { base.docs with counter := some 4294967295 } })).docs.counter = none := by
  decide +kernel

/-! ### Channels -/

theorem test_FramesOutOfPlace : (onCall .answered doc0 fresh).quiet 0
    ∧ callOpenOk 0 (.frame [55] none .done) = true ∧ senderInfoOk 0 [65] = true ∧ pageStartOk 0 1000 = true
    ∧ pageDataOk 0 255 [1] = true ∧ pageEndOk 0 65535 65535 = true
    ∧ ((nxt (exec (.callOpen 0 (.frame [55] none .done)) (onCall .answered doc0 fresh))).channel 0).errors = 1
    ∧ (onCall .answered { doc0 with station := some [65] } fresh).doc 0 = some { doc0 with station := some [65] }
    ∧ ((nxt (exec (.senderInfo 0 [65]) (onCall .answered { doc0 with station := some [65] } fresh))).channel 0).errors = 1
    ∧ ((nxt (exec (.senderInfo 0 [65]) base)).channel 0).errors = 1
    ∧ ((nxt (exec (.senderInfo 0 [65]) (onCall .releasing doc0 fresh))).channel 0).errors = 0
    ∧ ((nxt (exec (.pageStart 0 1 .fine .a4) (onCall .receivingPage doc0 fresh))).channel 0).errors = 1
    ∧ ((nxt (exec (.pageData 0 0 [1]) (onCall .betweenPages doc0 fresh))).channel 0).errors = 1
    ∧ ((nxt (exec (.pageData 0 0 [1]) (onCall .releasing doc0 fresh))).channel 0).errors = 0
    ∧ ((nxt (exec (.pageEnd 0 0 0 .good) (onCall .receivingPage doc0
        { fresh with ended := some ⟨0, 0, .good⟩ }))).channel 0).errors = 1
    ∧ ((nxt (exec (.callClose 0 .normal) base)).channel 0).errors = 1
    ∧ ((onCall .answered doc0 fresh).frameTaken 0).channel 0
        = { fresh with state := .answered, doc := some 0, silence := some 20000 }
    ∧ (((onCall .releasing doc0 fresh).frameTaken 0).channel 0).silence = none := by decide +kernel

def stationScreen (a : ScreenAction) (target : Option Nat) : State :=
  { onCall .answered doc0 fresh with tables := { base.tables with screening := ⟨[⟨.station, [65], a, target⟩], [], 1, 0⟩ } }

theorem test_SenderInfoScreensTheStation : (stationScreen .refuse none).quiet 0 ∧ senderInfoOk 0 [65] = true
    ∧ ((stationScreen .refuse none).channel 0).state = .answered ∧ (stationScreen .refuse none).doc 0 = some doc0
    ∧ stationMatch (stationScreen .refuse none).tables.screening.live [65] = some ⟨.station, [65], .refuse, none⟩
    ∧ stationMatch (stationScreen .refuse none).tables.screening.live [66] = none
    ∧ ((nxt (exec (.senderInfo 0 [65]) (stationScreen .refuse none))).channel 0).drop = some .screened
    ∧ ((nxt (exec (.senderInfo 0 [66]) (stationScreen .refuse none))).doc 0) = some { doc0 with station := some [66] }
    ∧ ((nxt (exec (.senderInfo 0 [65]) (stationScreen .quarantine none))).doc 0).map Doc.current = some 64
    ∧ ((nxt (exec (.senderInfo 0 [65]) (stationScreen .accept none))).doc 0).map Doc.screening = some .accept
    ∧ (stationScreen .redirect (some 5)).takes 5 = true ∧ (stationScreen .redirect (some 6)).takes 6 = false
    ∧ ((nxt (exec (.senderInfo 0 [65]) (stationScreen .redirect (some 5)))).doc 0).map Doc.current = some 5
    ∧ ((nxt (exec (.senderInfo 0 [65]) (stationScreen .redirect (some 6)))).doc 0).map Doc.current = some 3 := by
  decide +kernel

theorem test_PageStartCases : (onCall .answered doc0 fresh).quiet 0 ∧ pageStartOk 0 1 = true
    ∧ ((nxt (exec (.pageStart 0 1 .fine .a4) (onCall .answered doc0 fresh))).channel 0).page = some 1
    ∧ ((nxt (exec (.pageStart 0 2 .fine .a4) (onCall .answered doc0 fresh))).channel 0).errors = 1
    ∧ lowestFree 8192 0 (onCall .answered doc0 fresh).store.records = some 1
    ∧ ((nxt (exec (.pageStart 0 1 .fine .a4)
        (onCall .betweenPages { doc0 with pages := List.replicate 1000 0 } fresh))).channel 0).drop = some .pageLimit := by
  decide +kernel

theorem test_PageStart_without_record :
    let s := onCall .answered doc0 fresh
    let none_left : State := { s with store := { s.store with records := (List.range 8192).map (fun k => (k, page0)) } }
    lowestFree 8192 0 none_left.store.records = none
    ∧ ((nxt (exec (.pageStart 0 1 .fine .a4) none_left)).channel 0).drop = some .pagePoolEmpty := by decide +kernel

def pageUp : Channel := { fresh with page := some 0 }
def under : PageRecord := { page0 with blocks := [], length := 0, finish := none }

/-- Channel 0 with a page under construction in record 0. -/
def receiving (c : Channel) : State :=
  let s := onCall .receivingPage doc0 { c with page := some 0 }
  { s with store := { s.store with records := [(0, under)], blocks := [], mem := [] } }

theorem test_PageDataPlacedOrLost : (receiving fresh).quiet 0 ∧ pageDataOk 0 0 [1] = true
    ∧ ((receiving fresh).channel 0).state = .receivingPage ∧ ((receiving fresh).channel 0).ended = none
    ∧ ((receiving fresh).channel 0).filling = some (.first, [])
    ∧ ((nxt (exec (.pageData 0 0 [1, 2]) (receiving fresh))).channel 0).bufA = .filling [1, 2]
    ∧ ((nxt (exec (.pageData 0 3 [1, 2]) (receiving fresh))).channel 0).mark = true
    ∧ ((nxt (exec (.pageData 0 255 [1, 2]) (receiving { fresh with expected := 255 }))).channel 0).expected = 0
    ∧ ((nxt (exec (.pageData 0 0 [1, 2]) (receiving { fresh with received := 1048576 }))).channel 0).bufA = .empty
    ∧ ((nxt (exec (.pageData 0 0 [1, 2]) (receiving { fresh with received := 1048575 }))).channel 0).bufA = .filling [1]
    ∧ ((nxt (exec (.pageData 0 0 [1])
        (receiving { fresh with bufA := .writing [1], bufB := .writing [2] }))).channel 0).received = 0
    ∧ ({ fresh with bufA := .writing [1], bufB := .writing [2] } : Channel).filling = none := by decide +kernel

def nearFull : Channel := { fresh with bufA := .filling (List.replicate 4095 7), received := 4095 }

theorem test_FullBufferIsHandedOver : (receiving nearFull).quiet 0 ∧ (receiving nearFull).record 0 = some under
    ∧ ((receiving nearFull).channel 0).filling = some (.first, List.replicate 4095 7)
    ∧ (receiving nearFull).store.free = 5 :: [6, 7] ∧ 4096 ≤ (List.replicate 4095 (7 : Byte) ++ [1]).length
    ∧ (4096 - (List.replicate 4095 (7 : Byte)).length + 4096 = 4097) :=
  ⟨by decide, rfl, rfl, rfl, by rw [List.length_append, List.length_replicate]; decide, by rw [List.length_replicate]⟩

theorem test_storeFull : ((receiving nearFull).channel 0).page = some 0 ∧ (receiving nearFull).doc 0 = some doc0
    ∧ ((receiving nearFull).storeFull 0 .first).store.records = []
    ∧ (((receiving nearFull).storeFull 0 .first).channel 0).release = some 3000 := by decide +kernel

theorem test_PageEndTaken : (receiving { fresh with bufA := .filling [1] }).quiet 0 ∧ pageEndOk 0 0 0 = true
    ∧ (nxt (exec (.pageEnd 0 1 0 .good) (receiving { fresh with bufA := .filling [1] }))).store.port = [.write 0 .first 0 5]
    ∧ ((receiving fresh).channel 0).filling = some (.first, []) ∧ (receiving fresh).writing 0 0 = false
    ∧ ((nxt (exec (.pageEnd 0 1 0 .good) (receiving fresh))).channel 0).resends = 1
    ∧ ((nxt (exec (.pageEnd 0 1 0 .good) { receiving fresh with
        store := { (receiving fresh).store with port := [.write 0 .first 0 5] } })).channel 0).ended
          = some ⟨1, 0, .good⟩ := by decide +kernel

/-- Channel 0 with its page's end and the record's length given. -/
def ending (c : Channel) (v : ModemVerdict) (n : Nat) : State :=
  let s := receiving { c with ended := some ⟨1, 0, v⟩ }
  { s with store := { s.store with records := [(0, { under with length := n })] } }

theorem test_FinalizationOutcomes : ((ending fresh .good 3).channel 0).page = some 0
    ∧ ((ending fresh .good 3).channel 0).ended = some ⟨1, 0, .good⟩
    ∧ ((ending fresh .good 3).finalize 0).line.queue = [⟨0, .confirm .accepted⟩]
    ∧ (((ending fresh .good 3).finalize 0).doc 0).map Doc.pages = some [0]
    ∧ (((ending { fresh with bufB := .writing [9] } .good 3).finalize 0).channel 0).bufB = .writing [9]
    ∧ ((ending fresh .bad 3).finalize 0).line.queue = [⟨0, .confirm .resend⟩]
    ∧ ((ending { fresh with resends := 1 } .good 0).finalize 0).line.queue = [⟨0, .confirm .resend⟩]
    ∧ (((ending { fresh with resends := 2 } .bad 3).finalize 0).doc 0).map Doc.damaged = some 1
    ∧ ((ending { fresh with resends := 2 } .good 0).finalize 0).line.queue = [⟨0, .drop .pageEmpty⟩] := by decide +kernel

theorem test_DropsAndCloses : ((receiving fresh).drop 0 .timeout).store.records = []
    ∧ (((onCall .answered doc0 fresh).drop 0 .timeout).channel 0).state = .releasing
    ∧ (onCall .answered doc0 fresh).doc 0 = some doc0 ∧ doc0.state = .receiving
    ∧ ((onCall .answered doc0 fresh).closeCall 0 .normal).docs.slots = []
    ∧ ((onCall .answered doc0 fresh).closeCall 0 .normal).waiting.idleReports = 1
    ∧ (((onCall .betweenPages { doc0 with pages := [0] } fresh).closeCall 0 .normal).box 3).queue = [0]
    ∧ ((onCall .betweenPages { doc0 with pages := [0] } fresh).closeCall 0 .normal).journal.log.map Entry.outcome
        = [.received]
    ∧ ((onCall .betweenPages { doc0 with pages := [0] } fresh).closeCall 0 .lineLost).journal.log.map Entry.outcome
        = [.receivedIncomplete] ∧ (receiving fresh).record 0 = some under
    ∧ ((onCall .betweenPages { doc0 with pages := [0], current := 64 } fresh).closeCall 0 .normal).waiting.occurrences
        = [(.documentTable, .docQuarantined 9 64 1)] := by decide +kernel

theorem test_pageGivenUp : ((receiving fresh).writing 0 0) = false ∧ ((receiving fresh).giveUp 0).store.records = []
    ∧ ({ receiving fresh with store := { (receiving fresh).store with port := [.write 0 .first 0 5] } } : State).writing 0 0
        = true
    ∧ ((({ receiving fresh with store := { (receiving fresh).store with
        port := [.write 0 .first 0 5] } } : State).giveUp 0).channel 0).discards = [0] := by decide +kernel

theorem test_EventsThatEndACall : (onCall .answered doc0 fresh).quiet 0
    ∧ ((nxt (exec (.callClose 0 .normal) (onCall .answered doc0 fresh))).channel 0).state = .idle
    ∧ ((nxt (exec (.callClose 0 .normal) (onCall .releasing doc0 { fresh with drop := some .timeout }))).journal.log.map
        Entry.cause) = [.timeout]
    ∧ ((nxt (exec (.channelSilenceExpiry 0) (onCall .answered doc0 { fresh with silence := some 7 }))).channel 0).drop
        = some .timeout
    ∧ (nxt (exec (.releaseTimerExpiry 0) (onCall .releasing doc0 { fresh with release := some 7 }))).waiting.occurrences
        = [(.callController, .channelUnresponsive 0 9)]
    ∧ ((nxt (exec (.channelLinkLoss 0) (onCall .answered doc0 { fresh with loss := true }))).journal.log.map Entry.cause)
        = [.linkLost]
    ∧ ((nxt (exec (.channelLinkLoss 0) (base.setChannel 0 { fresh with loss := true }))).channel 0).loss = false
    ∧ ((nxt (exec (.channelIntakeAbort 0) (onCall .answered doc0 { fresh with aborts := 1 }))).channel 0).drop
        = some .engineClosed
    ∧ ((nxt (exec (.channelIntakeAbort 0) (base.setChannel 0 { fresh with aborts := 2 }))).channel 0).aborts = 1 := by
  decide +kernel

/-! ### The memory port -/

/-- A block write of channel 0 at the head of the port queue. -/
def writing0 (c : Channel) : State :=
  let s := receiving { c with bufA := .writing [1, 2] }
  { s with store := { s.store with
    port := [.write 0 .first 0 16383], free := [5], records := [(0, { under with blocks := [16383] })] } }

theorem test_WriteCompletes : (writing0 fresh).store.port = .write 0 .first 0 16383 :: []
    ∧ ((writing0 fresh).channel 0).decision = none
    ∧ (nxt (exec .writeCompletion (writing0 fresh))).store.mem = [(16383 * 4096, 1), (16383 * 4096 + 1, 2)]
    ∧ ((nxt (exec .writeCompletion (writing0 fresh))).record 0).map PageRecord.length = some 2
    ∧ ((nxt (exec .writeCompletion (writing0 fresh))).channel 0).bufA = .empty
    ∧ (nxt (exec .writeCompletion (writing0 { fresh with ended := some ⟨1, 0, .good⟩ }))).line.queue
        = [⟨0, .confirm .accepted⟩]
    ∧ (nxt (exec .writeCompletion ((writing0 fresh).setChannel 0 { fresh with
        bufA := .writing [1, 2], discards := [0] }))).store.records = []
    ∧ Memory.wf (writing0 fresh).store.mem = true := by decide +kernel

/-- Lane 0 reading block 8 of page 1. -/
def readingLane : Lane := { sendingLane with buf0 := .reading 1 [], reading := .live }

def readingAt (l : Lane) : State :=
  { onLane l [] with store := { (onLane l []).store with port := [.read 0 0 1 8 9] } }

theorem test_ReadCompletes : (readingAt readingLane).store.port = .read 0 0 1 8 9 :: []
    ∧ readingLane.reading = .live ∧ readingLane.readingBuf = some (.first, 1, [])
    ∧ ((nxt (exec (.readCompletion []) (readingAt readingLane))).lane 0).buf0 = .read 1 [1, 2, 3]
    ∧ ((nxt (exec (.readCompletion []) (readingAt { readingLane with state := .withdrawing }))).lane 0).buf0 = .empty
    ∧ ((nxt (exec (.readCompletion []) (readingAt { readingLane with reading := .abandoned }))).lane 0).reading = .none
    ∧ (nxt (exec (.readCompletion [(0, 9)]) (readingAt readingLane))).waiting.occurrences
        = [(.pageStore, .pageDamaged 9 1 1)]
    ∧ (readingAt readingLane).docOf 9 = some (0, docD) ∧ (readingAt readingLane).record 0 = some page0 := by
  decide +kernel

/-- A page of two blocks: the second is asked for. -/
theorem test_readTwoBlocks :
    let s := readingAt readingLane
    let two : State := { s with store := { s.store with records := [(0, { page0 with blocks := [8, 9] })] } }
    (nxt (exec (.readCompletion []) two)).store.port = [.read 0 0 2 9 9] := by decide +kernel

/-! ### Pressure, retention, and what owners take -/

/-- The pressure monitor at a level with counters, and a number of free blocks. -/
def pressed (level : Level) (up down free : Nat) : State :=
  { base with
    pressure := { level := level, enter := up, exit := down,
                  params := { tight := 3, critical := 1, hysteresis := 2, enterDebounce := 1, exitDebounce := 1 } }
    store := { base.store with free := List.replicate free 0 } }

theorem test_EvaluationMovesTheLevel :
    (pressed .normal 0 0 2).evaluate.pressure.enter = 1 ∧ (pressed .normal 0 0 3).evaluate.pressure.enter = 0
    ∧ (pressed .normal 1 0 2).evaluate.pressure.level = .tight
    ∧ (pressed .tight 1 0 0).evaluate.pressure.level = .critical ∧ (pressed .tight 1 0 0).evaluate.waiting.releases = 1
    ∧ (pressed .tight 0 1 5).evaluate.pressure.level = .normal ∧ (pressed .tight 0 1 4).evaluate.pressure.exit = 0
    ∧ (pressed .critical 0 1 3).evaluate.pressure.level = .tight
    ∧ (pressed .critical 0 0 0).evaluate.waiting.releases = 1
    ∧ (pressed .normal 0 0 2).pressure.params.critical < (pressed .normal 0 0 2).pressure.params.tight := by
  decide +kernel

def docR : Doc := { docD with state := .retained, expiry := some 50, resume := none }

theorem test_DocumentsAreFreed :
    ({ base with waiting := { base.waiting with pressureParts := [PressureParams.initial] } } : State).waiting.pressureParts
        = PressureParams.initial :: []
    ∧ (nxt (exec .pressureParameterChange { pressed .normal 1 1 3 with
        waiting := { base.waiting with pressureParts := [PressureParams.initial] } })).pressure
        = { level := .normal, enter := 1, exit := 0, params := PressureParams.initial }
    ∧ ({ withDoc docR with waiting := { base.waiting with releases := 0 + 1 } } : State).firstRetained = some (0, docR)
    ∧ (nxt (exec .pressureReleaseRequest { withDoc docR with
        waiting := { base.waiting with releases := 1 } })).store.free = [5, 6, 7, 8]
    ∧ (nxt (exec .pressureReleaseRequest { withDoc docQ with
        waiting := { base.waiting with releases := 1 } })).waiting.releases = 0
    ∧ (withDoc docR).docOf 9 = some (0, docR) ∧ docR.state = .retained ∧ docR.expiry = some 50
    ∧ (nxt (exec (.retentionExpiry 9) (withDoc docR))).docs.slots = []
    ∧ (nxt (exec (.retentionExpiry 9) (withDoc docR))).mgmt.uptime = 50
    ∧ (queued0.freeDoc 0 docQ true).mail.boxes[3]? = some { Mailbox.initial with queue := [], held := 0 }
    ∧ (queued0.freeDoc 0 docD false).mail.boxes[3]? = some { Mailbox.initial with queue := [0], held := 1 }
    ∧ (queued0.freeDoc 0 docD true).mail.boxes[3]? = some { Mailbox.initial with queue := [0], held := 0 } := by
  decide +kernel

/-- The journal with one mark handed to it. -/
def marked (armed : Bool) (mark : Nat) : State :=
  { base with
    journal := { base.journal with lowArmed := armed, reserved := 24, lowMark := 100 }
    waiting := { base.waiting with lowMarks := [mark] } }

theorem test_OwnersTakeTheirParts :
    (nxt (exec .silenceTimeoutInstall { base with waiting := { base.waiting with silences := [5] } })).calls.silenceTimeout
      = 5
    ∧ CountName.lineFrameErrors ∈ ({ base with waiting := { base.waiting with clears := [.lineFrameErrors] } }
        : State).waiting.clears
    ∧ (nxt (exec (.countClear .lineFrameErrors) { base with
        line := { base.line with errors := 4 }
        waiting := { base.waiting with clears := [.lineFrameErrors] } })).line.errors = 0
    ∧ (nxt (exec .allIdleReport { base with
        mgmt := { base.mgmt with intake := .draining }
        waiting := { base.waiting with idleReports := 1 } })).mgmt.intake = .closed
    ∧ (nxt (exec .allIdleReport { base with waiting := { base.waiting with idleReports := 2 } })).waiting.idleReports = 1
    ∧ (marked false 2024).waiting.lowMarks = 2024 :: []
    ∧ (nxt (exec .lowMarkInstall (marked false 2024))).journal.lowArmed = true
    ∧ (nxt (exec .lowMarkInstall (marked true 2025))).waiting.occurrences = [(.journal, .journalLow 2024 2025 0 24)]
    ∧ (nxt (exec .lowMarkInstall (marked false 2025))).waiting.occurrences = []
    ∧ (marked true 0).reserve.journal.reserved = 25
    ∧ ({ marked true 0 with journal := { (marked true 0).journal with lowMark := 2024 } } : State).reserve.waiting.occurrences
        = [(.journal, .journalLow 2023 2024 0 25)] := by decide +kernel

def occurs (m : Management) : State :=
  { base with
    mgmt := m
    waiting := { base.waiting with
      occurrences := [(.journal, .journalLow 1 2 3 4), (.linePort, .lineLinkChanged .up)] } }

def quiet32 : List Notice := List.replicate 32 { stamp := ⟨0, 0⟩, body := .summary 0 }

theorem test_NoticesAreReported :
    takeOccurrence .linePort (occurs base.mgmt).waiting.occurrences
      = some (.lineLinkChanged .up, [(.journal, .journalLow 1 2 3 4)])
    ∧ takeOccurrence .management (occurs base.mgmt).waiting.occurrences = none
    ∧ flagOn 11 (nxt (exec (.noticeOccurrence .linePort) (occurs base.mgmt))).mgmt.flags = true
    ∧ (nxt (exec (.noticeOccurrence .linePort) (occurs base.mgmt))).mgmt.notices.length = 1
    ∧ (nxt (exec (.noticeOccurrence .linePort) (occurs base.mgmt))).mgmt.noticeOut = true
    ∧ (nxt (exec (.noticeOccurrence .linePort) (occurs { base.mgmt with notices := quiet32 }))).mgmt.lost = true
    ∧ (nxt (exec (.noticeOccurrence .linePort) (occurs { base.mgmt with
        params := { base.mgmt.params with masks := 1024 } }))).mgmt.notices = []
    ∧ (nxt (exec (.noticeOccurrence .linePort) (occurs { base.mgmt with
        params := { base.mgmt.params with mode := .summary } }))).mgmt.outstanding = true
    ∧ (nxt (exec (.noticeOccurrence .linePort) (occurs { base.mgmt with
        params := { base.mgmt.params with mode := .summary }, outstanding := true }))).mgmt.notices = []
    ∧ (nxt (exec (.noticeOccurrence .linePort) (occurs { base.mgmt with
        params := { base.mgmt.params with mode := .summary }, notices := quiet32 }))).mgmt.outstanding = false
    ∧ (State.reset.handNotice = State.reset) := by
  refine ⟨?_, ?_, ?_, ?_, ?_, ?_, ?_, ?_, ?_, ?_, rfl⟩ <;> decide +kernel

/-! ### The office port -/

theorem test_OfficeFramesAndReports : base.awake
    ∧ (nxt (exec .officeLinkAlive State.reset)).waiting.portReports = [.link .up]
    ∧ (nxt (exec (.badOfficeFrame true) State.reset)).office.link = .up
    ∧ (nxt (exec (.badOfficeFrame false) State.reset)).office.link = .down
    ∧ (nxt (exec (.badOfficeFrame false) State.reset)).office.errors = 1
    ∧ (nxt (exec .foreignOfficeFrame State.reset)).office.errors = 0
    ∧ ((base.setPoint 30 { Point.initial with state := .stalled }).point 30).state = .stalled
    ∧ (((base.setPoint 30 { Point.initial with state := .stalled }).officeArrival 30).point 30).state = .ready
    ∧ (nxt (exec .officeKeepaliveSend base)).office.keepalive = 2000
    ∧ (nxt (exec .officeLinkStateReport { State.reset with
        office := { base.office with link := .up }
        waiting := { base.waiting with portReports := [.link .up] } })).mgmt.noticeOut = true
    ∧ (nxt (exec (.frameDiscardedReport .management) { base with
        mgmt := { base.mgmt with noticeOut := true }
        waiting := { base.waiting with portReports := [.discardedNotice] } })).mgmt.noticeOut = false
    ∧ (nxt (exec (.frameDiscardedReport .management) { base with
        mgmt := { base.mgmt with replyOut := true }
        waiting := { base.waiting with portReports := [.discardedReply false] } })).mgmt.replyOut = false
    ∧ (nxt (exec (.frameDiscardedReport .management) { base with
        waiting := { base.waiting with portReports := [.discardedReply true] } })).mgmt.cause = .restart
    ∧ ((nxt (exec (.frameDiscardedReport (.lane 0)) { onLane { sendingLane with pending := .current } [] with
        waiting := { base.waiting with laneDiscards := [0] } })).lane 0).pending = .none := by decide +kernel

/-- A frame at the head of the office queue. -/
def sending (s : State) (h : Hander) (b : OfficeBody) : State :=
  { s with office := { s.office with queue := [(h, ⟨2, b⟩)] } }

def theReply (restart : Bool) : Reply :=
  { dest := 31, tag := 7, code := 128, result := .ok, body := .none, holds := true, restart := restart }

def offered : OfficeBody := .offer 9 3 .routine 1 1 3 none

theorem test_FrameSentIsReported :
    (sending base (.point 2) (.slotReturn 1 .tooSmall)).office.queue = (.point 2, ⟨2, .slotReturn 1 .tooSmall⟩) :: []
    ∧ (nxt (exec .frameSentReport (sending base (.point 2) (.slotReturn 1 .tooSmall)))).office.keepalive = 1000
    ∧ (nxt (exec .frameSentReport (sending { State.reset with mgmt := { State.reset.mgmt with noticeOut := true } }
        .notice (.notice { stamp := ⟨0, 0⟩, body := .event (.restarted .powerOn) })))).mgmt.notices = []
    ∧ (nxt (exec .frameSentReport (sending { base with mgmt := { base.mgmt with replyOut := true } } .reply
        (.reply (theReply false))))).mgmt.replyOut = false
    ∧ (nxt (exec .frameSentReport (sending base .reply (.reply (theReply true))))).mgmt.cause = .restart
    ∧ ((nxt (exec .frameSentReport (sending (onLane { Lane.initial with state := .offering, pending := .current } [])
        (.lane 0) offered))).lane 0).acceptTimer = some 5000
    ∧ ((nxt (exec .frameSentReport (sending (onLane { sendingLane with
        pending := .current, buf0 := .goingOut 1 [1] 6 } []) (.lane 0) (.pageTail 6 0)))).lane 0).buf0
          = .outstanding 1 [1] 6 (some 15000)
    ∧ ((nxt (exec .frameSentReport (sending (onLane { sendingLane with
        pending := .current, state := .withdrawing } []) (.lane 0) (.withdraw 9)))).lane 0).state = .idle
    ∧ ((nxt (exec .frameSentReport (sending (onLane { sendingLane with pending := .stale } []) (.lane 0)
        (.pageData 6 0 [1])))).lane 0).pending = .none := by decide +kernel

def lostLink : State := { onLane sendingLane [⟨1, 10⟩] with office := { base.office with silence := some 3000 } }

theorem test_OfficeSilenceEndsDeliveries : lostLink.awake ∧ lostLink.office.silence = some 3000
    ∧ lostLink.mgmt.slot = .free
    ∧ (∀ i, i < 4 → (lostLink.lane i).state ≠ .idle → (lostLink.laneDoc i).isSome = true)
    ∧ (∀ i, i < 4 → ∀ k, k < 4 → i ≠ k → (lostLink.lane i).job.isSome = true →
        (lostLink.lane i).job.map Job.slot ≠ (lostLink.lane k).job.map Job.slot)
    ∧ ((nxt (exec .officeSilenceExpiry lostLink)).doc 0) = some { docD with state := .queued }
    ∧ ((nxt (exec .officeSilenceExpiry lostLink)).point 2) = Point.initial
    ∧ ((nxt (exec .officeSilenceExpiry lostLink)).lane 0) = Lane.initial
    ∧ ((nxt (exec .officeSilenceExpiry lostLink)).box 3).queue = [0] := by decide +kernel

theorem test_lanesOk_serving : lostLink.lanesOk := by
  have h4 : ∀ i, i < 4 → i = 0 ∨ i = 1 ∨ i = 2 ∨ i = 3 := by intro i hi; omega
  have hrows : ∀ e ∈ [(3, mailA), (5, mailB)], MailRow.inRange e.2 := by
    intro e he
    rcases List.mem_cons.1 he with rfl | he
    · exact ⟨by decide, by decide, fun a ha => by cases ha; decide⟩
    · rcases List.mem_cons.1 he with rfl | he
      · exact ⟨by decide, by decide, fun a ha => by cases ha⟩
      · cases he
  refine ⟨by decide +kernel, hrows, hrows, ?_, ?_, ?_⟩
  · intro i hi
    rcases h4 i hi with rfl | rfl | rfl | rfl <;> decide +kernel
  · intro i hi j hj
    rcases h4 i hi with rfl | rfl | rfl | rfl <;> cases hj
    decide +kernel
  · intro p h1 h2 i hi
    have hp : ∀ q, q < 30 → q ≠ 1 → (lostLink.point (q + 1)).lane = none := by decide +kernel
    by_cases h : p = 2
    · subst h
      cases hi
      exact ⟨by decide, ⟨0, 2⟩, rfl, rfl⟩
    · have := hp (p - 1) (by simp only [pointCount] at h2; omega) (by omega)
      rw [Nat.sub_add_cancel h1] at this
      rw [this] at hi
      cases hi

/-! ### Delivery points and lanes -/

theorem test_LateFramesAreCounted : base.awake ∧ base.pointRow 30 = none ∧ (base.point 2).state = .offline
    ∧ (onLane sendingLane []).offering 2 9 = none ∧ (onLane sendingLane []).outstandingAt 2 6 = none
    ∧ ((nxt (exec (.pointUp 30) base)).point 30).errors = 1 ∧ ((nxt (exec (.pointDown 30) base)).point 30).errors = 1
    ∧ ((nxt (exec (.accept 2 9) base)).point 2).errors = 1
    ∧ ((nxt (exec (.accept 2 9) (onLane sendingLane []))).point 2).errors = 1
    ∧ ((nxt (exec (.decline 2 9 0) (onLane sendingLane []))).point 2).errors = 1
    ∧ ((nxt (exec (.intakePost 2 255 1) base)).point 2).errors = 1
    ∧ ((nxt (exec (.pageAck 2 6) (onLane sendingLane []))).point 2).errors = 1
    ∧ ((nxt (exec (.pageNak 2 6) (onLane sendingLane []))).point 2).errors = 1
    ∧ (onLane { sendingLane with buf1 := .outstanding 1 [1] 6 (some 9) } []).outstandingAt 2 6
        = some (0, .second, 1, [1])
    ∧ (onLane { sendingLane with state := .offering } []).offering 2 9 = some (0, 0, docD) := by decide +kernel

theorem test_PointUpAndDown : (base.pointRow 2).isSome = true ∧ ((base.officeArrival 2).point 2).state ≠ .ready
    ∧ ((nxt (exec (.pointUp 2) base)).point 2).state = .ready
    ∧ (nxt (exec (.pointUp 2) base)).waiting.triggers = [.pointReady 2]
    ∧ (((onLane sendingLane []).officeArrival 2).point 2).state = .ready
    ∧ ((nxt (exec (.pointUp 2) (onLane sendingLane [⟨1, 9⟩]))).lane 0).state = .idle
    ∧ ((nxt (exec (.pointUp 2) (onLane sendingLane [⟨1, 9⟩]))).point 2).intake = []
    ∧ (nxt (exec (.pointDown 2) base)).waiting.occurrences = []
    ∧ ((nxt (exec (.pointDown 2) (onLane sendingLane []))).point 2).state = .offline
    ∧ ((nxt (exec (.pointDown 2) (onLane sendingLane []))).doc 0).map Doc.state = some .queued := by decide +kernel

def offeringLane : Lane := { Lane.initial with state := .offering, acceptTimer := some 5000 }

theorem test_AcceptAndDecline : (onLane offeringLane []).pointTaken 2 ∧ receiptOk 9 = true
    ∧ ((onLane offeringLane []).point 2).lane = some 0 ∧ ((onLane offeringLane []).lane 0).state = .offering
    ∧ (onLane offeringLane []).laneDoc 0 = some (0, docD)
    ∧ ((nxt (exec (.accept 2 9) (onLane offeringLane []))).lane 0).state = .sending
    ∧ ((nxt (exec (.accept 2 9) (onLane offeringLane []))).lane 0).acceptTimer = none
    ∧ (nxt (exec (.accept 2 9) (onLane offeringLane []))).store.port = [.read 0 0 1 8 9]
    ∧ ((nxt (exec (.decline 2 9 255) (onLane offeringLane []))).doc 0).map Doc.notBefore = some (some 255000)
    ∧ ((nxt (exec (.decline 2 9 255) (onLane offeringLane []))).lane 0).state = .idle := by decide +kernel

def readLane : Lane := { sendingLane with buf0 := .read 1 [1, 2, 3], order := [.first] }

theorem test_IntakePostCases : (onLane readLane []).pointTaken 2 ∧ slotOk 0 = true ∧ capacityOk 3 = true
    ∧ (onLane readLane []).pointRow 2 = some pointA ∧ (onLane readLane []).returnsWaiting < 32
    ∧ (nxt (exec (.intakePost 2 0 3) (onLane readLane [⟨0, 9⟩]))).office.queue
        = [(.point 2, ⟨2, .slotReturn 0 .duplicate⟩)]
    ∧ (nxt (exec (.intakePost 2 6 3) (onLane { sendingLane with buf1 := .goingOut 1 [1] 6 } []))).office.queue
        = [(.point 2, ⟨2, .slotReturn 6 .duplicate⟩)]
    ∧ (nxt (exec (.intakePost 2 0 3) (onLane sendingLane [⟨1, 9⟩, ⟨2, 9⟩]))).office.queue
        = [(.point 2, ⟨2, .slotReturn 0 .overLimit⟩)]
    ∧ ((nxt (exec (.intakePost 2 0 3) (onLane sendingLane [⟨1, 9⟩]))).point 2).intake = [⟨1, 9⟩, ⟨0, 3⟩]
    ∧ ((nxt (exec (.intakePost 2 0 3) (onLane { readLane with
        state := .waitingIntake, waitTimer := some 30000 } []))).lane 0).buf0 = .goingOut 1 [1, 2, 3] 0
    ∧ ((nxt (exec (.intakePost 2 0 2) (onLane { readLane with
        state := .waitingIntake, waitTimer := some 30000 } []))).lane 0).waitTimer = some 30000 := by decide +kernel

def outLane : Lane := { sendingLane with buf0 := .outstanding 1 [1, 2, 3] 6 (some 15000) }

/-- Lane 0 with page 1 OUTSTANDING in slot 6, of a document of two pages. -/
def twoPages (l : Lane) : State :=
  let s := onLane l []
  s.setDoc 0 { docD with pages := [0, 0], resume := none }

theorem test_PageAckAndNak : (onLane outLane []).pointTaken 2 ∧ slotOk 6 = true
    ∧ (onLane outLane []).outstandingAt 2 6 = some (0, .first, 1, [1, 2, 3])
    ∧ (onLane outLane []).laneDoc 0 = some (0, docD) ∧ (runAcked 0 (addNumber 1 [])).1 = docD.pages.length
    ∧ ((nxt (exec (.pageAck 2 6) (onLane outLane []))).doc 0).map Doc.state = some .retained
    ∧ ((nxt (exec (.pageAck 2 6) (twoPages outLane))).doc 0).map Doc.ackThrough = some 1
    ∧ ((nxt (exec (.pageAck 2 6) (twoPages outLane))).doc 0).map Doc.resume = some (some 2)
    ∧ ((nxt (exec (.pageAck 2 6) (twoPages { outLane with state := .withdrawing }))).lane 0).buf0 = .empty
    ∧ runAcked 0 (addNumber 2 [3]) = (0, [2, 3]) ∧ runAcked 0 (addNumber 1 [2, 4]) = (2, [4])
    ∧ ((nxt (exec (.pageNak 2 6) (onLane outLane []))).lane 0).order = [.first]
    ∧ ((nxt (exec (.pageNak 2 6) (onLane { outLane with state := .withdrawing } []))).lane 0).order = []
    ∧ (nxt (exec (.pageNak 2 6) ((onLane outLane []).setRecord 0 { page0 with sends := 3 }))).waiting.occurrences
        = [(.deliveryUnit, .deliverySuspended .pageRejected 9 3 2 1 15)]
    ∧ (onLane outLane []).record 0 = some page0 := by decide +kernel

theorem test_DeliveryCompletes : (onLane outLane []).doc 0 = some docD ∧ ((onLane outLane []).lane 0).job = some ⟨0, 2⟩
    ∧ (((onLane outLane []).completeDelivery 0 0 docD 2).doc 0).map Doc.expiry = some (some 3600000)
    ∧ ((onLane outLane []).completeDelivery 0 0 { docD with hours := 0 } 2).docs.slots = []
    ∧ ((onLane outLane []).completeDelivery 0 0 docD 2).waiting.occurrences
        = [(.deliveryUnit, .docDelivered 9 3 2 1 0 0)]
    ∧ ((onLane { outLane with produced := [⟨2, .slotReturn 1 .tooSmall⟩, ⟨2, .pageTail 6 0⟩], pending := .current }
        []).endLane 0).lane 0
      = { Lane.initial with produced := [⟨2, .slotReturn 1 .tooSmall⟩], pending := .stale } := by decide +kernel

def eighth : State := (onLane offeringLane []).setDoc 0 { docD with attempts := 7 }

theorem test_SuspensionOutcomes : (onLane offeringLane []).laneDoc 0 = some (0, docD)
    ∧ ((onLane offeringLane []).lane 0).acceptTimer = some 5000
    ∧ ((nxt (exec (.acceptTimerExpiry 0) (onLane offeringLane []))).point 2).state = .stalled
    ∧ ((nxt (exec (.acceptTimerExpiry 0) (onLane offeringLane []))).doc 0).map Doc.notBefore = some (some 20000)
    ∧ ((nxt (exec (.acceptTimerExpiry 0) eighth)).doc 0).map Doc.hold = some (some .deliveryFailed)
    ∧ ((nxt (exec (.ackTimerExpiry 0 .first) (onLane outLane []))).doc 0).map Doc.attempts = some 1
    ∧ ((nxt (exec (.intakeWaitExpiry 0) (onLane { readLane with
        state := .waitingIntake, waitTimer := some 30000 } []))).point 2).failures = 1
    ∧ ((onLane outLane []).suspendCounted 0 .pageRejected).point 2 = { Point.initial with state := .ready, failures := 1 }
    ∧ ((onLane outLane []).suspendUncounted 0 .pointDown).doc 0 = some { docD with state := .queued } := by
  decide +kernel

theorem test_LaneGoesOn : ((onLane readLane []).laneOn 0).lane 0
      = { readLane with state := .waitingIntake, waitTimer := some 30000, job := some ⟨0, 2⟩ }
    ∧ (((onLane sendingLane []).laneOn 0).lane 0).state = .sending
    ∧ (((onLane { sendingLane with nextRead := some 1 } []).laneOn 0).lane 0).buf0 = .reading 1 []
    ∧ ((onLane { sendingLane with nextRead := some 1, buf0 := .read 9 [] } []).laneReads 0).store.port
        = [.read 0 0 1 8 9]
    ∧ ((onLane sendingLane []).laneReads 0).store.port = []
    ∧ ((onLane { sendingLane with produced := [⟨2, .withdraw 9⟩] } []).handLane 0).office.queue
        = [(.lane 0, ⟨2, .withdraw 9⟩)]
    ∧ (({ onLane { sendingLane with produced := [⟨2, .withdraw 9⟩] } [] with
        office := State.reset.office } : State).handLane 0).waiting.laneDiscards = [0] := by decide +kernel

theorem test_LaneBeginsThePage : ((onLane readLane []).lane 0).order = .first :: []
    ∧ ((onLane readLane []).lane 0).buf .first = .read 1 [1, 2, 3] ∧ ((onLane readLane []).lane 0).goingOut = false
    ∧ (((onLane readLane [⟨6, 3⟩]).laneBegins 0).lane 0).buf0 = .goingOut 1 [1, 2, 3] 6
    ∧ ((((onLane readLane [⟨6, 3⟩]).laneBegins 0).lane 0).produced.length) = 3
    ∧ (((onLane readLane [⟨6, 2⟩]).laneBegins 0).lane 0).produced = [⟨2, .slotReturn 6 .tooSmall⟩]
    ∧ (((onLane { readLane with produced := List.replicate 16 ⟨2, .slotReturn 0 .tooSmall⟩ }
        [⟨6, 2⟩]).laneBegins 0).point 2).unsent = 1
    ∧ pageFrames 2 6 docD page0 [1, 2, 3] .good
        = [⟨2, .pageHead 9 1 6 3 .standard .a4 .good true⟩, ⟨2, .pageData 6 0 [1, 2, 3]⟩,
           ⟨2, .pageTail 6 (crc32 [1, 2, 3])⟩]
    ∧ (dataFrames 2 6 0 (List.replicate 1025 0) 1025).length = 2 := by decide +kernel

/-! ### Queues and the arbiter -/

/-- The head of mailbox 3 waits for uptime 70, its report still to be made or not. -/
def backedOff (ahead : Bool) : State :=
  (queued0.setDoc 0 { docQ with notBefore := some 70 }).setBox 3 { queued0.box 3 with ahead := ahead }

theorem test_QueueOrder : (withDoc docQ).doc 0 = some docQ
    ∧ (((withDoc docQ).queueTail 3 0).box 3).queue = [0]
    ∧ ((withDoc docQ).queueTail 3 0).waiting.triggers = [.candidate 3]
    ∧ ((withDoc docQ).queueTail 64 0).waiting.triggers = []
    ∧ (((queued0.setDoc 1 { docQ with cls := .urgent, receipt := 10 }).queueTail 3 1).box 3).queue = [1, 0]
    ∧ (((queued0.setDoc 1 { docQ with receipt := 10 }).queueHead 3 1).box 3).queue = [1, 0]
    ∧ (((queued0.setDoc 1 { docQ with receipt := 10 }).queueTail 3 1).box 3).queue = [0, 1]
    ∧ ((queued0.unqueue 3 0).box 3).queue = []
    ∧ (queued0.box 3).queue.head? = some 0
    ∧ (nxt (exec (.notBeforeReached 3) (backedOff true))).waiting.triggers = [.candidate 3]
    ∧ ((nxt (exec (.notBeforeReached 3) (backedOff true))).box 3).ahead = false
    ∧ (nxt (exec (.notBeforeReached 3) (backedOff true))).mgmt.uptime = 70
    ∧ nxt (exec (.notBeforeReached 3) (backedOff false)) = backedOff false
    ∧ (((withDoc { docQ with notBefore := some 70 }).queueTail 3 0).box 3).ahead = true
    ∧ (((withDoc { docQ with notBefore := some 0 }).queueTail 3 0).box 3).ahead = false
    ∧ (((backedOff true).unqueue 3 0).box 3).ahead = false := by decide +kernel

theorem test_ArbiterChooses : (queued0.candidate 3).map Grant.point = some 2
    ∧ (queued0.setPoint 2 Point.initial).target mailA { docQ with resume := none } = some 4
    ∧ queued0.target mailA { docQ with resume := some 4 } = some 4
    ∧ ((queued0.setPoint 2 Point.initial).setPoint 4 Point.initial).target mailA docQ = none
    ∧ (queued0.setDoc 0 { docQ with notBefore := some 1 }).candidate 3 = none
    ∧ ({ queued0 with mgmt := { queued0.mgmt with run := .stopped } } : State).choose = none
    ∧ queued0.choose.map Grant.box = some 3 ∧ queued0.idleLane = some 0
    ∧ (onLane sendingLane []).idleLane = some 1
    ∧ ((nxt (exec .arbiterRound { queued0 with
        waiting := { queued0.waiting with triggers := [.deliveryRun] } })).lane 0).state = .offering
    ∧ (nxt (exec .arbiterRound { queued0 with
        waiting := { queued0.waiting with triggers := [.deliveryRun, .deliveryRun] } })).waiting.triggers
          = [.deliveryRun] := by decide +kernel

def grant0 : Grant := { box := 3, slot := 0, doc := docQ, point := 4 }

theorem test_GrantTakesTheHead : queued0.shapeOk ∧ (queued0.lane 3).state = .idle ∧ (queued0.point 4).lane = none
    ∧ (queued0.grant 3 grant0).mail.lastServed = 3 ∧ ((queued0.grant 3 grant0).box 3).queue = []
    ∧ (queued0.grant 3 grant0).doc 0 = some { docD with resume := none }
    ∧ (queued0.grant 3 grant0).office.queue = [(.lane 3, ⟨4, offered⟩)]
    ∧ ((queued0.grant 3 grant0).point 4).lane = some 3 := by decide +kernel

/-! ### Management requests -/

/-- The last reply at the office port. -/
def lastReply (s : State) : Option (Result × ReplyBody) :=
  match s.office.queue.getLast? with
  | some (_, ⟨_, .reply r⟩) => some (r.result, r.body)
  | _ => none

def point3 : ReqHead := { src := 3, tag := 0, formed := true, together := false }

theorem test_RequestsAreJudgedInOrder : base.awake ∧ requestOf (.readStatus head31) = some (head31, .readStatus)
    ∧ base.mayManage 31 ∧ base.mayManage 2 ∧ ¬ base.mayManage 0 ∧ ¬ base.mayManage 3 ∧ ¬ base.mayManage 4
    ∧ lastReply (nxt (exec (.readStatus point3) base)) = some (.notPermitted, .none)
    ∧ lastReply (nxt (exec (.restart head31) { base with mgmt := { base.mgmt with slot := .restarting } }))
        = some (.busy, .none)
    ∧ lastReply (nxt (exec (.commit { head31 with formed := false } .point) base)) = some (.badArgument, .none)
    ∧ lastReply (nxt (exec (.unknownRequest head31 200) base)) = some (.unknownRequest, .none)
    ∧ lastReply (nxt (exec (.unknownRequest point3 200) base)) = some (.notPermitted, .none)
    ∧ (nxt (exec (.readStatus head31) base)).mgmt.slot = .free := by decide +kernel

def second31 : ReqHead := { head31 with together := true }

/-- Of two requests that arrive together the second is BUSY, the reply of the first handed or not. -/
theorem test_SecondOfTwoIsBusy : base.requestTaken head31 ∧ base.requestTaken second31
    ∧ requestOf (.setClock head31 1 0) = some (head31, .setClock) ∧ second31.together = true
    ∧ (nxt (exec (.setClock head31 1 0) base)).mgmt.slot = .free
    ∧ (nxt (exec (.setClock head31 1 0) base)).mgmt.tookSlot = true
    ∧ (nxt (exec (.setClock head31 1 0) base)).mayManage 31
    ∧ ((nxt (exec (.readParameters second31) (nxt (exec (.setClock head31 1 0) base)))).mgmt.replies.map Reply.result)
        = [.busy]
    ∧ ((nxt (exec (.readParameters head31) (nxt (exec (.setClock head31 1 0) base)))).mgmt.replies.map Reply.result)
        = [.ok]
    ∧ lastReply (nxt (exec (.readParameters second31) (nxt (exec (.readStatus point3) base)))) ≠ none
    ∧ ((nxt (exec (.readParameters second31) (nxt (exec (.readStatus point3) base)))).mgmt.replies.map Reply.result)
        = [.ok]
    ∧ ((nxt (exec (.unknownRequest second31 200) (nxt (exec (.setClock head31 1 0) base)))).mgmt.replies.map
        Reply.result) = [.unknownRequest]
    ∧ (State.reset).mgmt.tookSlot = false := by decide +kernel

def waitingReplies (n : Nat) : State :=
  { base with mgmt := { base.mgmt with
      replies := List.replicate n { theReply false with holds := false }, replyOut := true } }

theorem test_replies : (nxt (exec (.readStatus point3) (waitingReplies 7))).mgmt.dropped = 1
    ∧ (nxt (exec (.readStatus point3) (waitingReplies 6))).mgmt.replies.length = 7
    ∧ (nxt (exec (.readStatus head31) (waitingReplies 7))).mgmt.replies.length = 8
    ∧ (nxt (exec (.readStatus head31) (waitingReplies 7))).mgmt.slot = .replying
    ∧ (State.reset.addReply (theReply false)).waiting.portReports = [.discardedReply false] := by decide +kernel

theorem test_ReadingAndClearingRequests : base.requestTaken head31
    ∧ (lastReply (nxt (exec (.readStatus head31) base))).map Prod.fst = some .ok
    ∧ lastReply (nxt (exec (.readParameters head31) base)) = some (.ok, .params Parameters.initial)
    ∧ (nxt (exec (.readFlags head31) { base with mgmt := { base.mgmt with outstanding := true } })).mgmt.outstanding = false
    ∧ (nxt (exec (.ackRestart head31) State.reset)).mgmt.unacknowledged = false
    ∧ flagOn 15 (nxt (exec (.ackRestart head31) State.reset)).mgmt.flags = false
    ∧ lastReply (nxt (exec (.clearFlags head31 []) base)) = some (.badArgument, .none)
    ∧ lastReply (nxt (exec (.clearFlags head31 [15]) base)) = some (.badArgument, .none)
    ∧ lastReply (nxt (exec (.clearFlags head31 [16]) base)) = some (.badArgument, .none)
    ∧ lastReply (nxt (exec (.clearFlags head31 [22]) base)) = some (.badArgument, .none)
    ∧ lastReply (nxt (exec (.clearFlags head31 (List.replicate 25 1)) base)) = some (.badArgument, .none)
    ∧ lastReply (nxt (exec (.clearFlags head31 (List.replicate 24 1)) base)) = some (.ok, .none)
    ∧ (nxt (exec (.clearFlags head31 [1, 14, 17, 21, 21]) { base with
        mgmt := { base.mgmt with flags := 0xFFFF, lost := true } })).mgmt.flags = 0xDFFE
    ∧ (nxt (exec (.clearFlags head31 [1, 14, 17, 21, 21]) base)).waiting.clears = [.droppedRequests]
    ∧ (nxt (exec (.clearFlags head31 [18, 21, 18]) { base with
        waiting := { base.waiting with clears := [.droppedRequests] } })).waiting.clears
          = [.droppedRequests, .unrecordedRefusals] := by decide +kernel

def fields0 : ParamFields :=
  { silence := 5, tight := 16384, critical := 16383, hysteresis := 0, enterDebounce := 15, exitDebounce := 15,
    lowMark := 2048, mode := 2, masks := 0x3FFF }

theorem test_SettingRequests : base.requestTaken head31
    ∧ (nxt (exec (.setParameters head31 fields0) base)).mgmt.params.mode = .summary
    ∧ (nxt (exec (.setParameters head31 fields0) base)).waiting.lowMarks = [2048]
    ∧ lastReply (nxt (exec (.setParameters head31 { fields0 with hysteresis := 1 }) base)) = some (.badArgument, .none)
    ∧ lastReply (nxt (exec (.setParameters head31 { fields0 with masks := 0x4000 }) base)) = some (.badArgument, .none)
    ∧ (nxt (exec (.setClock head31 4294967295 999) base)).mgmt.tod = ⟨4294967295, 999⟩
    ∧ lastReply (nxt (exec (.setClock head31 0 1000) base)) = some (.badArgument, .none)
    ∧ lastReply (nxt (exec (.setReceiptBase head31 0) base)) = some (.badArgument, .none)
    ∧ lastReply (nxt (exec (.setReceiptBase head31 1) base)) = some (.wrongState, .none)
    ∧ lastReply (nxt (exec (.setReceiptBase head31 1) { State.reset with office := base.office })) = some (.ok, .counter 1)
    ∧ lastReply (nxt (exec (.setReceiptBase head31 1) { State.reset with
        office := base.office, docs := { slots := [(0, .claimed 0)], counter := some 1 } })) = some (.inUse, .none)
    ∧ (nxt (exec (.restart head31) base)).mgmt.slot = .restarting := by decide +kernel

theorem test_IntakeAndDeliveryRequests : base.requestTaken head31 ∧ State.reset.requestTaken head31
    ∧ (nxt (exec (.intakeOpen head31) base)).waiting.occurrences = []
    ∧ (nxt (exec (.intakeOpen head31) { base with mgmt := { base.mgmt with intake := .draining } })).mgmt.intake = .opened
    ∧ (nxt (exec (.intakeOpen head31) State.reset)).mgmt.intake = .closed
    ∧ (nxt (exec (.intakeDrain head31) base)).mgmt.intake = .closed
    ∧ (nxt (exec (.intakeDrain head31) { base with waiting := { base.waiting with idleReports := 1 } })).mgmt.intake = .closed
    ∧ (nxt (exec (.intakeDrain head31) (onCall .answered doc0 fresh))).mgmt.intake = .draining
    ∧ (nxt (exec (.intakeDrain head31) State.reset)).mgmt.intake = .closed
    ∧ ((nxt (exec (.intakeAbort head31) State.reset)).channel 23).aborts = 1
    ∧ (nxt (exec (.intakeAbort head31) base)).waiting.occurrences = [(.management, .intakeChanged .opened .closed)]
    ∧ (nxt (exec (.deliveryRun head31) State.reset)).waiting.triggers = [.deliveryRun]
    ∧ (nxt (exec (.deliveryRun head31) base)).waiting.triggers = []
    ∧ (nxt (exec (.deliveryStop head31) base)).mgmt.run = .stopped := by decide +kernel

theorem test_ChannelAndPointRequests : base.requestTaken head31
    ∧ lastReply (nxt (exec (.channelRead head31 24) base)) = some (.badArgument, .none)
    ∧ ((nxt (exec (.channelDisable head31 23) base)).channel 23).enabled = false
    ∧ ((nxt (exec (.channelEnable head31 0) (base.setChannel 0 { fresh with enabled := false }))).channel 0).enabled = true
    ∧ ((nxt (exec (.channelClearErrors head31 0) (base.setChannel 0 { fresh with errors := 9 }))).channel 0).errors = 0
    ∧ lastReply (nxt (exec (.channelRead head31 0) (onCall .answered doc0 fresh)))
        = some (.ok, .channel
          { state := .answered, enabled := true, receipt := some 9, expected := some 1, resends := 0,
            received := 0, mark := false, discards := 0, drop := none, errors := 0 })
    ∧ lastReply (nxt (exec (.pointRead head31 31 0) base)) = some (.badArgument, .none)
    ∧ lastReply (nxt (exec (.pointRead head31 2 2) base)) = some (.badArgument, .none)
    ∧ ((nxt (exec (.pointRead head31 30 1) (base.setPoint 30 { Point.initial with errors := 4 }))).point 30).errors = 0
    ∧ lastReply (nxt (exec (.pointRead head31 2 0) (onLane outLane [⟨1, 9⟩])))
        = some (.ok, .point
          { point := 2, row := some pointA, state := .ready, intake := [⟨1, 9⟩], lane := some 0,
            laneImage := some { state := .sending, receipt := 9, buffers := [(1, 6)], ackThrough := 0 },
            failures := 0, errors := 0, unsent := 0 }) := by decide +kernel

/-! ### Tables -/

theorem test_StagingRequests : base.requestTaken head31
    ∧ stageEntriesOk (.routing [route0]) = true ∧ stageEntriesOk (.routing []) = false
    ∧ stageEntriesOk (.routing (List.replicate 9 route0)) = false ∧ stageEntriesOk (.mailbox [(64, mailA)]) = false
    ∧ lastReply (nxt (exec (.stagePut head31 (.routing [])) base)) = some (.badArgument, .none)
    ∧ (nxt (exec (.stagePut head31 (.routing [route0])) base)).tables.routing.staging = [route0]
    ∧ lastReply (nxt (exec (.stagePut head31 (.routing [route0])) { base with
        tables := { tables0 with routing := ⟨[], List.replicate 512 route0, 0, 0⟩ } })) = some (.range, .none)
    ∧ (nxt (exec (.stagePut head31 (.screening [⟨.station, [65, 32], .accept, none⟩])) base)).tables.screening.staging
        = [⟨.station, [65], .accept, none⟩]
    ∧ (nxt (exec (.stagePut head31 (.mailbox [(3, mailB), (0, mailB), (3, mailA)])) base)).tables.mailbox.staging
        = [(0, mailB), (3, mailA), (5, mailB)]
    ∧ (nxt (exec (.stagePut head31 (.point [(30, ⟨none, none, none, none, none⟩)])) base)).tables.point.staging
        = [(2, pointA), (4, pointB), (30, ⟨false, 5, 15, 30, 8⟩)]
    ∧ stageKeysOk (.mailbox [3]) = true ∧ stageKeysOk (.mailbox []) = false
    ∧ lastReply (nxt (exec (.stageRemove head31 (.mailbox [3, 4])) base)) = some (.ok, .removed 1 1)
    ∧ lastReply (nxt (exec (.stageRemove head31 (.mailbox [])) base)) = some (.badArgument, .none)
    ∧ (nxt (exec (.stageClear head31 .mailbox) base)).tables.mailbox.staging = []
    ∧ (nxt (exec (.stageRevert head31 .routing) base)).tables.routing.staging = [route0, route12] := by decide +kernel

theorem test_TableReadings : base.requestTaken head31
    ∧ lastReply (nxt (exec (.stageRead head31 .routing 512 1) base)) = some (.badArgument, .none)
    ∧ lastReply (nxt (exec (.stageRead head31 .routing 511 8) base)) = some (.range, .none)
    ∧ lastReply (nxt (exec (.tableRead head31 .routing 2 8) base)) = some (.range, .none)
    ∧ lastReply (nxt (exec (.tableRead head31 .screening 127 8) base)) = some (.range, .none)
    ∧ lastReply (nxt (exec (.tableRead head31 .screening 128 8) base)) = some (.badArgument, .none)
    ∧ lastReply (nxt (exec (.tableRead head31 .routing 1 8) base))
        = some (.ok, .tableItems (.routing [(1, route12)]) 2 1 0)
    ∧ lastReply (nxt (exec (.tableRead head31 .mailbox 63 8) base)) = some (.ok, .tableItems (.mailbox [(63, none)]) 2 1 0)
    ∧ lastReply (nxt (exec (.stageRead head31 .point 29 8) base))
        = some (.ok, .stageItems (.point [(29, none), (30, none)]) 2)
    ∧ lastReply (nxt (exec (.stageRead head31 .point 0 8) base)) = some (.badArgument, .none)
    ∧ lastReply (nxt (exec (.stageRead head31 .mailbox 64 8) base)) = some (.badArgument, .none)
    ∧ lastReply (nxt (exec (.stageRead head31 .mailbox 0 9) base)) = some (.badArgument, .none) := by decide +kernel

/-- A COMMIT of a table in flight, with the staging copies given. -/
def committing (t : TableId) (u : TableUnit) : State :=
  { base with tables := u, mgmt := { base.mgmt with slot := .commit head31 t } }

theorem test_CommitCompletes : base.requestTaken head31
    ∧ (nxt (exec (.commit head31 .point) base)).mgmt.slot = .commit head31 .point
    ∧ (nxt (exec .commitCompletion (committing .routing { tables0 with
        routing := { tables0.routing with staging := [route12, route0] } }))).tables.routing.live = [route0, route12]
    ∧ lastReply (nxt (exec .commitCompletion (committing .routing { tables0 with
        routing := { tables0.routing with staging := [route12, route12] } })))
          = some (.tableInvalid, .invalid 1 .duplicateKey)
    ∧ (nxt (exec .commitCompletion (committing .screening { tables0 with
        screening := { tables0.screening with staging := [⟨.station, [49], .accept, none⟩, ⟨.caller, [50], .refuse, none⟩] }
        }))).tables.screening.live = [⟨.caller, [50], .refuse, none⟩, ⟨.station, [49], .accept, none⟩]
    ∧ (nxt (exec .commitCompletion (committing .mailbox tables0))).tables.mailbox.generation = 2
    ∧ (nxt (exec .commitCompletion (committing .mailbox tables0))).waiting.mailSwaps = [[]]
    ∧ (nxt (exec .commitCompletion (committing .point tables0))).tables.point.check
        = crc32 ([2, 1, 5, 15, 30, 2] ++ [4, 0, 5, 15, 30, 8])
    ∧ lastReply (nxt (exec .commitCompletion { committing .mailbox { tables0 with
        routing := ⟨[], [], 2, 0⟩, mailbox := { tables0.mailbox with staging := [(5, mailB)] } } with
        docs := (withDoc docQ).docs })) = some (.tableInvalid, .invalid 3 .mailboxInUse)
    ∧ sortBy routeLt [{ route0 with stem := [35] }, { route0 with stem := [42] }, { route0 with stem := [57] },
        { route0 with stem := [48, 49] }, { route0 with stem := [48] }, route0]
      = [route0, { route0 with stem := [48] }, { route0 with stem := [48, 49] }, { route0 with stem := [57] },
         { route0 with stem := [42] }, { route0 with stem := [35] }] := by decide +kernel

theorem test_ExaminationPasses : tables0.examine .mailbox 31 = none ∧ tables0.examine .point 2 = none
    ∧ tables0.examine .point 4 = some (4, .pointManagerLost)
    ∧ ({ tables0 with point := { tables0.point with staging := [] } } : TableUnit).examine .point 31
        = some (2, .pointUndefined)
    ∧ ({ tables0 with mailbox := { tables0.mailbox with staging := [(5, mailB)] } } : TableUnit).examine .mailbox 31
        = some (3, .mailboxUndefined)
    ∧ ({ tables0 with mailbox := { tables0.mailbox with
        staging := [(3, { mailA with alternate := some 2 })] } } : TableUnit).examine .mailbox 31 = some (3, .badField)
    ∧ ({ tables0 with mailbox := { tables0.mailbox with
        staging := [(3, { mailA with overflow := some 6 })] } } : TableUnit).examine .mailbox 31
          = some (3, .mailboxUndefined)
    ∧ ({ tables0 with mailbox := { tables0.mailbox with
        staging := [(3, { mailA with primary := 30, overflow := none })] } } : TableUnit).examine .mailbox 31
          = some (3, .pointUndefined)
    ∧ ({ tables0 with screening := ⟨[], [⟨.caller, [49], .redirect, none⟩], 0, 0⟩ } : TableUnit).examine .screening 31
        = some (0, .badField)
    ∧ ({ tables0 with screening := ⟨[], [⟨.caller, [49], .redirect, some 4⟩], 0, 0⟩ } : TableUnit).examine .screening 31
        = some (0, .mailboxUndefined)
    ∧ (onLane sendingLane []).trafficTests .point = none
    ∧ ({ onLane sendingLane [] with tables := { tables0 with point := { tables0.point with staging := [] } } }
        : State).trafficTests .point = some (2, .pointInUse) := by decide +kernel

def swapped : State :=
  { queued0 with
    waiting := { queued0.waiting with mailSwaps := [[3, 63]], pointSwaps := [[30]] }
    tables := { tables0 with mailbox := { tables0.mailbox with live := [(3, { mailA with primary := 4, alternate := none })] } } }

theorem test_SwapEffects : swapped.awake ∧ (∀ m ∈ [3, 63], m < swapped.mail.boxes.length)
    ∧ ((nxt (exec .mailboxSwapEffects (swapped.setBox 63 { Mailbox.initial with accepting := false }))).box 63).accepting
        = true
    ∧ (nxt (exec .mailboxSwapEffects ((swapped.setBox 63 { Mailbox.initial with delivering := false }).setBox 4
        { Mailbox.initial with delivering := false }))).waiting.triggers = [.candidate 63, .swap .mailbox]
    ∧ [3, 63].Nodup
    ∧ (nxt (exec .mailboxSwapEffects swapped)).waiting.triggers = [.swap .mailbox]
    ∧ ((nxt (exec .mailboxSwapEffects swapped)).doc 0).map Doc.resume = some none
    ∧ swapped.tablesOk ∧ swapped.delivery.points.length = 30 ∧ (∀ p ∈ [30], 1 ≤ p ∧ p ≤ 30 ∧ swapped.pointRow p = none)
    ∧ [30].Nodup ∧ (∀ e ∈ swapped.tables.point.live, 1 ≤ e.1 ∧ e.1 ≤ 30)
    ∧ (nxt (exec .pointSwapEffects (swapped.setPoint 30 { Point.initial with state := .ready }))).waiting.occurrences
        = [(.deliveryUnit, .pointChanged 30 .ready .offline)]
    ∧ ((nxt (exec .pointSwapEffects (swapped.setPoint 2 { Point.initial with
        state := .ready, intake := [⟨1, 9⟩, ⟨2, 9⟩, ⟨3, 9⟩] }))).point 2).intake = [⟨1, 9⟩, ⟨2, 9⟩]
    ∧ (nxt (exec .pointSwapEffects swapped)).waiting.triggers = [.swap .point] := by decide +kernel

/-! ### Mailboxes, documents and the journal -/

theorem test_MailboxRequests : base.requestTaken head31 ∧ (base.mailRow 3).isSome = true ∧ base.mailRow 63 = none
    ∧ lastReply (nxt (exec (.mailboxControlRead head31 65) base)) = some (.badArgument, .none)
    ∧ (lastReply (nxt (exec (.mailboxControlRead head31 64) base))).map Prod.fst = some .ok
    ∧ (lastReply (nxt (exec (.mailboxOpen head31 64) base))).map Prod.fst = some .wrongState
    ∧ (lastReply (nxt (exec (.mailboxClose head31 63) base))).map Prod.fst = some .wrongState
    ∧ ((nxt (exec (.mailboxClose head31 3) base)).box 3).accepting = false
    ∧ ((nxt (exec (.mailboxOpen head31 3) (base.setBox 3 { Mailbox.initial with accepting := false }))).box 3).accepting
        = true
    ∧ ((nxt (exec (.mailboxPause head31 3) base)).box 3).delivering = false
    ∧ (nxt (exec (.mailboxResume head31 3) base)).waiting.triggers = []
    ∧ (nxt (exec (.mailboxResume head31 3) (base.setBox 3 { Mailbox.initial with delivering := false }))).waiting.triggers
        = [.candidate 3]
    ∧ lastReply (nxt (exec (.mailboxRead head31 3 1024 8) base)) = some (.badArgument, .none)
    ∧ lastReply (nxt (exec (.mailboxRead head31 3 0 9) base)) = some (.badArgument, .none)
    ∧ lastReply (nxt (exec (.mailboxRead head31 3 0 8) queued0)) = some (.ok, .mailboxQueue
        { number := 3, inUse := true, accepting := true, delivering := true, held := 1, quota := some 10, length := 1,
          urgent := 0, heldDocs := 0, deliveringDocs := 0, lastServed := 63 }
        [{ receipt := 9, cls := .routine, pages := 1, notBefore := none, uptime := 0 }]) := by decide +kernel

theorem test_DocumentReadings : queued0.requestTaken head31
    ∧ lastReply (nxt (exec (.docList head31 0 1) queued0)) = some (.badArgument, .none)
    ∧ lastReply (nxt (exec (.docList head31 10 8) queued0)) = some (.ok, .summaries [] 0)
    ∧ lastReply (nxt (exec (.docList head31 1 1) (queued0.setDoc 4 { docQ with receipt := 5 })))
        = some (.ok, .summaries [docSummary (4, { docQ with receipt := 5 })] 6)
    ∧ queued0.docOf 9 = some (0, docQ) ∧ queued0.docOf 8 = none
    ∧ lastReply (nxt (exec (.docRead head31 0) queued0)) = some (.badArgument, .none)
    ∧ lastReply (nxt (exec (.docRead head31 8) queued0)) = some (.range, .none)
    ∧ lastReply (nxt (exec (.docRead head31 9) queued0)) = some (.ok, .document 0 docQ 0)
    ∧ lastReply (nxt (exec (.docPages head31 9 1001 1) queued0)) = some (.badArgument, .none)
    ∧ lastReply (nxt (exec (.docPages head31 9 2 1) queued0)) = some (.range, .none)
    ∧ lastReply (nxt (exec (.docPages head31 9 1 8) queued0)) = some (.ok, .pages 1
        [{ number := 1, length := 3, blocks := 1, res := .standard, width := .a4, lines := 1, errs := 0,
           verdict := .good, resends := 0, sends := 0 }]) := by decide +kernel

/-- The document of slot 0 in a state, in no queue. -/
def inState (d : Doc) : State := withDoc d

theorem test_DocumentRequests : queued0.requestTaken head31 ∧ queued0.docOf 9 = some (0, docQ)
    ∧ ((nxt (exec (.docHold head31 9) queued0)).doc 0).map Doc.hold = some (some .management)
    ∧ ((nxt (exec (.docHold head31 9) queued0)).box 3).queue = []
    ∧ (nxt (exec (.docHold head31 9) (inState docD))).mgmt.slot = .deferred head31 .hold 9 false
    ∧ lastReply (nxt (exec (.docHold head31 9) (inState docR))) = some (.wrongState, .none)
    ∧ ((nxt (exec (.docRelease head31 9) (inState { docQ with state := .held, hold := some .management }))).box 3).queue
        = [0]
    ∧ ((nxt (exec (.docRelease head31 9) (inState { docQ with
        state := .held, hold := some .quarantine, current := 64 }))).box 3).held = 1
    ∧ ((nxt (exec (.docRelease head31 9) ((inState { docQ with current := 64 }).setBox 64 { Mailbox.initial with
        delivering := false, queue := [0] }))).box 64).queue = []
    ∧ lastReply (nxt (exec (.docRelease head31 9) queued0)) = some (.wrongState, .none)
    ∧ lastReply (nxt (exec (.docReroute head31 9 64) queued0)) = some (.badArgument, .none)
    ∧ lastReply (nxt (exec (.docReroute head31 9 63) queued0)) = some (.range, .none)
    ∧ ((nxt (exec (.docReroute head31 9 5) queued0)).box 5) = { Mailbox.initial with queue := [0], held := 1 }
    ∧ ((nxt (exec (.docReroute head31 9 3) queued0)).box 3).queue = [0]
    ∧ ((nxt (exec (.docReroute head31 9 5) (inState { docQ with state := .held, hold := some .management }))).doc 0).map
        Doc.current = some 5
    ∧ lastReply (nxt (exec (.docReroute head31 9 5) (inState { docQ with state := .held, hold := some .quarantine })))
        = some (.wrongState, .none)
    ∧ (nxt (exec (.docReroute head31 9 5) (inState docD))).mgmt.slot = .deferred head31 (.reroute 5) 9 false
    ∧ lastReply (nxt (exec (.docReroute head31 9 5) (inState docR))) = some (.wrongState, .none)
    ∧ lastReply (nxt (exec (.docPurge head31 9) (onCall .answered doc0 fresh))) = some (.wrongState, .none)
    ∧ (nxt (exec (.docPurge head31 9) (inState docD))).mgmt.slot = .deferred head31 .purge 9 false
    ∧ (nxt (exec (.docPurge head31 9) queued0)).docs.slots = []
    ∧ lastReply (nxt (exec (.docHold head31 0) queued0)) = some (.badArgument, .none)
    ∧ lastReply (nxt (exec (.docPurge head31 8) queued0)) = some (.range, .none) := by decide +kernel

/-- A request held in the slot for the document of slot 0. -/
def held0 (kind : DocReq) (s : State) : State :=
  { s with mgmt := { s.mgmt with slot := .deferred head31 kind 9 false } }

theorem test_WithdrawalsAndHeldRequests : (held0 .hold (onLane outLane [])).awake
    ∧ (held0 .hold (onLane outLane [])).laneDoc 0 = some (0, docD)
    ∧ ((nxt (exec .withdrawalRequest (held0 .hold (onLane outLane [])))).lane 0).state = .withdrawing
    ∧ ((nxt (exec .withdrawalRequest (held0 .hold (onLane outLane [])))).lane 0).buf0 = .outstanding 1 [1, 2, 3] 6 none
    ∧ (nxt (exec .withdrawalRequest (held0 .hold (onLane outLane [])))).office.queue = [(.lane 0, ⟨2, .withdraw 9⟩)]
    ∧ ((nxt (exec .withdrawalRequest (held0 .hold queued0))).doc 0).map Doc.state = some .held
    ∧ lastReply ((held0 .purge base).completeDeferred 9) = some (.ok, .none)
    ∧ lastReply ((held0 .hold base).completeDeferred 9) = some (.range, .none)
    ∧ lastReply ((held0 (.reroute 5) base).completeDeferred 9) = some (.range, .none)
    ∧ lastReply ((held0 .hold (inState docR)).completeDeferred 9) = some (.wrongState, .none)
    ∧ lastReply ((held0 (.reroute 5) (inState docR)).completeDeferred 9) = some (.wrongState, .none)
    ∧ (((held0 (.reroute 5) (inState docD)).completeDeferred 9).box 5).queue = [0]
    ∧ ((held0 .purge (inState docD)).completeDeferred 9).docs.slots = []
    ∧ (((held0 .hold (onLane { outLane with state := .withdrawing, withdrawn := true } [])).withdrawalMayEnd 0).doc 0).map
        Doc.hold = some (some .management)
    ∧ (((held0 .hold (onLane { outLane with state := .withdrawing, withdrawn := true, reading := .live }
        [])).withdrawalMayEnd 0).lane 0).state = .withdrawing := by decide +kernel

def entry0 : Entry :=
  { receipt := some 9, channel := 0, openTime := ⟨0, 0⟩, closeTime := ⟨1, 0⟩, called := [49], caller := none,
    station := none, outcome := .received, cause := .normal, pages := 1, damaged := 0, mailbox := some 3,
    routeGen := some 1, screening := .none }

def logged : State :=
  { base with
    journal := { log := [entry0, { entry0 with channel := 1 }], reserved := 3, unrecorded := 4, lowMark := 2044,
                 lowArmed := false } }

theorem test_JournalRequests : logged.requestTaken head31
    ∧ lastReply (nxt (exec (.journalRead head31 2048 1) logged)) = some (.badArgument, .none)
    ∧ lastReply (nxt (exec (.journalRead head31 2 1) logged)) = some (.range, .none)
    ∧ lastReply (nxt (exec (.journalRead head31 1 8) logged))
        = some (.ok, .entries [(1, { entry0 with channel := 1 })] { written := 2, reserved := 3, free := 2043 } 4)
    ∧ lastReply (nxt (exec (.journalRelease head31 ⟨2049, 0⟩) logged)) = some (.badArgument, .none)
    ∧ lastReply (nxt (exec (.journalRelease head31 ⟨0, 0⟩) logged)) = some (.badArgument, .none)
    ∧ lastReply (nxt (exec (.journalRelease head31 ⟨3, 0⟩) logged)) = some (.range, .none)
    ∧ (nxt (exec (.journalRelease head31 ⟨1, 0⟩) logged)).journal.log = [{ entry0 with channel := 1 }]
    ∧ (nxt (exec (.journalRelease head31 ⟨1, 1⟩) logged)).journal.log = [{ entry0 with channel := 1 }]
    ∧ lastReply (nxt (exec (.journalRelease head31 ⟨2, 1⟩) logged)) = some (.range, .none)
    ∧ lastReply (nxt (exec (.journalRelease head31 ⟨1, 3⟩) logged)) = some (.range, .none)
    ∧ (nxt (exec (.journalRelease head31 ⟨2, 0⟩) logged)).journal.log = []
    ∧ (nxt (exec (.journalRelease head31 ⟨1, 0⟩) logged)).journal.lowArmed = true
    ∧ (nxt (exec (.journalRelease head31 ⟨1, 0⟩) { logged with journal := { logged.journal with lowMark := 2045 } })).journal.lowArmed
        = false := by decide +kernel

/-! ### Corners of the statements: where two clauses meet -/

def placed3 : Placement :=
  { routed := 3, final := 3, cls := .routine, hours := 1, routeGen := 1, screening := .none }

/-- A channel whose decision stands before an act, with a journal entry reserved and slot 1 claimed. -/
def deciding (next : DecisionAct) (loss : Bool) : State :=
  { base.setChannel 0 { fresh with
      loss := loss
      decision := some { called := [55], caller := none, openTime := ⟨0, 0⟩, next := next, reserved := true,
                         claim := some 1, placement := some placed3 } } with
    docs := { slots := [(1, .claimed 0)], counter := some 1 }
    journal := { base.journal with reserved := 1 } }

theorem test_DecisionActByAct : base.quiet 0 ∧ (base.channel 0).state = .idle
    ∧ callOpenOk 0 (.frame [55] none (.before .resolve)) = true
    ∧ ((nxt (exec (.callOpen 0 (.frame [55] none (.before .resolve))) base)).channel 0).decision.map Decision.next
        = some .resolve
    ∧ (nxt (exec (.callOpen 0 (.frame [55] none (.before .resolve))) base)).docs.slots = [(0, .claimed 0)]
    ∧ ((nxt (exec (.callOpen 0 (.frame [55] none (.before .enabled))) base)).channel 0).decision.isSome = true
    ∧ (deciding .answer false).awake
    ∧ (nxt (exec (.callOpen 0 (.onward .done)) (deciding .answer false))).line.queue = [⟨0, .answer 1⟩]
    ∧ nxt (exec (.callOpen 0 (.onward (.before .answer))) (deciding .answer false)) = deciding .answer false
    ∧ (nxt (exec (.callOpen 0 (.onward .done)) { deciding .answer false with
        mgmt := { base.mgmt with intake := .closed } })).line.queue = [⟨0, .refuse .intakeClosed⟩]
    ∧ (nxt (exec (.callOpen 0 (.onward .done)) { deciding .answer false with
        mgmt := { base.mgmt with intake := .draining } })).line.queue = [⟨0, .refuse .draining⟩]
    ∧ (nxt (exec (.callOpen 0 (.onward .done)) { deciding .answer false with
        pressure := { base.pressure with level := .critical } })).line.queue = [⟨0, .refuse .storeCritical⟩]
    ∧ (nxt (exec (.callOpen 0 (.onward .done)) { deciding .answer false with
        docs := { slots := [(1, .claimed 0)], counter := none } })).docs.slots = [] := by
  decide +kernel

/-- A loss of the link waits at channel 0 while its decision is under way, and another channel has made the link UP:
the ANSWER is discarded and the call closed at once (R50); a REFUSE, a DROP and a PAGE_CONFIRM are sent (R30). -/
theorem test_a_loss_discards_the_answer : (deciding .answer true).line.link = .up
    ∧ ((deciding .answer true).sendLine 0 (.answer 1)).line.queue = []
    ∧ ((deciding .answer true).sendLine 0 (.confirm .accepted)).line.queue = [⟨0, .confirm .accepted⟩]
    ∧ (nxt (exec (.callOpen 0 (.onward .done)) (deciding .answer true))).line.queue = []
    ∧ ((nxt (exec (.callOpen 0 (.onward .done)) (deciding .answer true))).channel 0).state = .idle
    ∧ (nxt (exec (.callOpen 0 (.onward .done)) { deciding .answer true with
        mgmt := { base.mgmt with intake := .closed } })).line.queue = [⟨0, .refuse .intakeClosed⟩]
    ∧ (nxt (exec (.channelLinkLoss 0) { deciding .answer true with
        mgmt := { base.mgmt with intake := .closed } })).line.queue = [⟨0, .refuse .intakeClosed⟩]
    ∧ (nxt (exec (.callOpen 0 (.onward .done)) { deciding .answer true with
        mgmt := { base.mgmt with intake := .closed }, line := { base.line with link := .down } })).line.queue = []
    ∧ ((nxt (exec (.callOpen 0 (.onward (.before .answer))) (deciding .resolve true))).channel 0).loss = true
    ∧ (nxt (exec (.channelIntakeAbort 0) ((deciding .answer true).setChannel 0
        { (deciding .answer true).channel 0 with aborts := 1 }))).line.queue = []
    ∧ (nxt (exec (.channelLinkLoss 0) (deciding .answer true))).line.queue = []
    ∧ ((nxt (exec (.channelLinkLoss 0) (deciding .answer true))).channel 0).state = .idle
    ∧ ((nxt (exec (.channelLinkLoss 0) (deciding .answer true))).journal.log.map Entry.cause) = [.linkLost]
    ∧ frameChannel (.senderInfo 0 [65]) = some 0
    ∧ ((nxt (exec (.senderInfo 0 [65]) (deciding .answer true))).channel 0).errors = 1
    ∧ ((nxt (exec (.senderInfo 0 [65]) (deciding .answer false))).doc 1).map Doc.station = some (some [65])
    ∧ ((((receiving fresh).setChannel 0 { (receiving fresh).channel 0 with loss := true }).storeFull 0
        .first)).line.queue = [⟨0, .drop .storeFull⟩] := by decide +kernel

theorem test_frames_read_and_laid_out : lineRun (List.replicate 6 0) = .badLineFrame
    ∧ lineFrameBytes ⟨23, .answer 4294967295⟩
        = [33, 23, 0, 4, 255, 255, 255, 255] ++ be 2 (crc16 [33, 23, 0, 4, 255, 255, 255, 255]).toNat
    ∧ officeRun [] = .badOfficeFrame false
    ∧ officeRun (pointRun (.pageAck 2 6) ++ [0]) = .badOfficeFrame false := by decide +kernel

/-- An abandoned read of lane 0 comes back while a later delivery of the lane is being withdrawn. -/
theorem test_abandoned_read_ends_a_withdrawal :
    let l : Lane := { sendingLane with state := .withdrawing, withdrawn := true, reading := .abandoned }
    ((readingAt l).withdrawalMayEnd 0).lane 0 = (readingAt l).lane 0
    ∧ ((nxt (exec (.readCompletion []) (held0 .hold (readingAt l)))).lane 0).state = .idle
    ∧ ((nxt (exec (.readCompletion []) (held0 .hold (readingAt l)))).doc 0).map Doc.state = some .held
    ∧ ((nxt (exec (.readCompletion []) (held0 .hold (readingAt { l with withdrawn := false })))).lane 0).state
        = .withdrawing := by decide +kernel

/-- A lane that offers behind a frame of an ended delivery keeps the OFFER, and sends the WITHDRAW after it. -/
theorem test_withdrawal_keeps_the_offer :
    let l : Lane := { offeringLane with
      pending := .stale, produced := [⟨2, .slotReturn 1 .tooSmall⟩, ⟨2, offered⟩, ⟨2, .pageTail 6 0⟩] }
    ((nxt (exec .withdrawalRequest (held0 .hold (onLane l [])))).lane 0).produced
      = [⟨2, .slotReturn 1 .tooSmall⟩, ⟨2, offered⟩, ⟨2, .withdraw 9⟩] := by decide +kernel

theorem test_silence_completes_a_withdrawal :
    let s := held0 .hold { onLane { outLane with state := .withdrawing } [⟨1, 9⟩] with
      office := { base.office with silence := some 3000, queue := [(.lane 0, ⟨2, .withdraw 9⟩)] } }
    let t := nxt (exec .officeSilenceExpiry s)
    (t.lane 0).state = .idle ∧ (t.doc 0).map Doc.hold = some (some .management) ∧ t.mgmt.slot = .free
    ∧ t.waiting.laneDiscards = [0] ∧ t.waiting.occurrences.head? = some (.deliveryUnit, .pointChanged 2 .ready .offline)
    ∧ t.waiting.portReports = [.link .down, .discardedReply false] := by decide +kernel

theorem test_ill_formed_delivery_frames : pointFrame (.accept 2 0) = true ∧ (Instr.accept 2 0).wellFormed = false
    ∧ (nxt (exec (.accept 2 0) base)).office.errors = 1
    ∧ (nxt (exec (.intakePost 31 0 1) base)).office.errors = 1
    ∧ (nxt (exec (.decline 2 9 256) (onLane offeringLane []))).office.errors = 1 := by decide +kernel

theorem test_stalled_point_comes_up :
    (nxt (exec (.pointUp 2) (base.setPoint 2 { Point.initial with state := .stalled }))).waiting.occurrences
        = [(.deliveryUnit, .pointChanged 2 .stalled .ready), (.deliveryUnit, .pointChanged 2 .ready .ready)]
    ∧ (nxt (exec (.pointDown 2) (base.setPoint 2 { Point.initial with state := .stalled }))).waiting.occurrences
        = [(.deliveryUnit, .pointChanged 2 .stalled .ready), (.deliveryUnit, .pointChanged 2 .ready .offline)] := by
  decide +kernel

theorem test_PagesHeldCount : ((base.heldUp 63 1000).box 63).held = 1000 ∧ base.heldUp 64 1 = base
    ∧ ((full3.heldDown 3 10).box 3).held = 0 ∧ full3.heldDown 64 10 = full3 := by decide +kernel

theorem test_ReplyItemsAreLaidOut : replyItems (.removed 2 513) = [0, 2, 2, 1] ∧ replyItems .none = []
    ∧ replyItems (.invalid 511 .duplicateKey) = [1, 255, 1]
    ∧ replyItems (.conditions true false true false) = [1, 0, 1, 0] := by decide +kernel

/-- A point that no lane serves, and the same with the fields of an empty lane. -/
def served (lane : Option Nat) (l : Option LaneImage) : PointImage :=
  { point := 2, row := none, state := .offline, intake := [], lane := lane, laneImage := l, failures := 0,
    errors := 0, unsent := 0 }

theorem test_absent_lane_is_zeros :
    (pointBytes (served none none)).length
      = (pointBytes (served (some 0) (some ⟨.idle, 1, [], 0⟩))).length := by decide +kernel

def stem16 : RouteEntry := { route0 with stem := List.replicate 16 35, mailbox := 63, hours := 720 }

theorem test_StagingForms : stageEntriesOk (.routing (List.replicate 8 stem16)) = true
    ∧ stageEntriesOk (.routing [{ stem16 with stem := List.replicate 17 35 }]) = false
    ∧ stageEntriesOk (.routing [{ stem16 with mailbox := 64 }]) = false
    ∧ stageEntriesOk (.routing [{ stem16 with hours := 721 }]) = false
    ∧ stageEntriesOk (.screening [⟨.station, List.replicate 20 126, .redirect, some 63⟩]) = true
    ∧ stageEntriesOk (.screening [⟨.station, List.replicate 21 32, .accept, none⟩]) = false
    ∧ stageEntriesOk (.screening [⟨.caller, [65], .accept, none⟩]) = false
    ∧ stageEntriesOk (.screening [⟨.caller, [], .accept, some 64⟩]) = false
    ∧ stageEntriesOk (.mailbox [(63, { primary := 30, alternate := some 1, quota := 16384, overflow := some 63 })]) = true
    ∧ stageEntriesOk (.mailbox [(0, { mailA with quota := 0 })]) = false
    ∧ stageEntriesOk (.mailbox [(0, { mailA with primary := 31 })]) = false
    ∧ stageEntriesOk (.point [(30, ⟨true, some 30, some 60, some 120, some 16⟩)]) = true
    ∧ stageEntriesOk (.point [(0, ⟨true, none, none, none, none⟩)]) = false
    ∧ stageEntriesOk (.point [(1, ⟨true, some 31, none, none, none⟩)]) = false
    ∧ stageEntriesOk (.point [(1, ⟨true, none, none, some 4, none⟩)]) = false
    ∧ stageKeysOk (.routing [List.replicate 16 65]) = true ∧ stageKeysOk (.routing [List.replicate 17 48]) = false
    ∧ stageKeysOk (.screening [(.station, List.replicate 20 65)]) = true
    ∧ stageKeysOk (.screening [(.caller, List.replicate 17 48)]) = false
    ∧ stageKeysOk (.mailbox [64]) = false ∧ stageKeysOk (.point [30]) = true ∧ stageKeysOk (.point [0]) = false := by
  decide +kernel

theorem test_canonical_order_of_strings :
    routeLt { route0 with stem := [48] } { route0 with stem := [48, 48] } = true
    ∧ routeLt { route0 with stem := [57, 35] } { route0 with stem := [42] } = true
    ∧ routeLt { route0 with stem := [35] } { route0 with stem := [42] } = false ∧ routeLt route0 route0 = false
    ∧ screenLt ⟨.caller, [35], .accept, none⟩ ⟨.station, [], .accept, none⟩ = true
    ∧ screenLt ⟨.station, [65], .accept, none⟩ ⟨.station, [65, 32], .accept, none⟩ = false
    ∧ screenLt ⟨.station, [32, 65], .accept, none⟩ ⟨.station, [65], .accept, none⟩ = true := by decide +kernel

theorem test_ExaminationFails : base.tablesOk
    ∧ ({ tables0 with routing := ⟨[], [route0, { route12 with mailbox := 9 }, route0], 0, 0⟩ } : TableUnit).examine
        .routing 31 = some (1, .mailboxUndefined)
    ∧ ({ tables0 with screening := ⟨[], [⟨.station, [65], .accept, none⟩, ⟨.station, [65, 32], .redirect, none⟩],
        0, 0⟩ } : TableUnit).examine .screening 31 = some (1, .duplicateKey)
    ∧ ({ tables0 with screening := ⟨[], [⟨.caller, [49], .accept, some 3⟩], 0, 0⟩ } : TableUnit).examine .screening 31
        = some (0, .badField)
    ∧ ({ tables0 with mailbox := { tables0.mailbox with staging := [(3, { mailB with primary := 9 }),
        (4, { mailB with overflow := some 4 })] } } : TableUnit).examine .mailbox 31 = some (3, .pointUndefined)
    ∧ ({ tables0 with
        routing := ⟨[], [], 0, 0⟩
        mailbox := { tables0.mailbox with staging := [] } } : TableUnit).examine .mailbox 31 = none
    ∧ ({ tables0 with point := { tables0.point with staging := [(4, pointB)] } } : TableUnit).examine .point 2
        = some (2, .pointUndefined)
    ∧ (({ deciding .answer false with tables := { tables0 with
        mailbox := { tables0.mailbox with staging := [(5, mailB)] } } } : State).trafficTests .mailbox)
        = some (3, .mailboxInUse) := by decide +kernel

/-- Two points over their maxima, with n SLOT_RETURN frames of point 4 waiting at the port. -/
def overLimit (n : Nat) : State :=
  let s := (swapped.setPoint 2 { Point.initial with state := .ready, intake := [⟨1, 9⟩, ⟨2, 9⟩, ⟨3, 9⟩, ⟨5, 9⟩] }).setPoint 4
    { Point.initial with state := .ready, intake := (List.range 9).map (fun k => ⟨k, 9⟩), unsent := 255 }
  { s with office := { s.office with queue := List.replicate n (.point 4, ⟨4, .slotReturn 7 .duplicate⟩) } }

theorem test_slots_over_the_limit :
    (nxt (exec .pointSwapEffects (overLimit 0))).office.queue
        = [(.point 2, ⟨2, .slotReturn 5 .overLimit⟩), (.point 2, ⟨2, .slotReturn 3 .overLimit⟩),
           (.point 4, ⟨4, .slotReturn 8 .overLimit⟩)]
    ∧ (nxt (exec .pointSwapEffects (overLimit 31))).office.queue.length = 32
    ∧ ((nxt (exec .pointSwapEffects (overLimit 31))).point 2).unsent = 1
    ∧ ((nxt (exec .pointSwapEffects (overLimit 31))).point 4).unsent = 255
    ∧ (nxt (exec .pointSwapEffects { overLimit 0 with
        office := { (overLimit 0).office with link := .down, queue := [] } })).office.queue = [] := by decide +kernel

end Sys2Proof.Tests
end

section
/-! SUPPORT. Sparse tables: keys stay strictly rising under every change of a table, what a put can add, and the
positions a key's value stands at. -/

namespace Sys2Proof.Machine

theorem rising_mono {α : Type} {lo hi : Nat} {l : List (Nat × α)} (h : lo ≤ hi) (hl : rising hi l = true) :
    rising lo l = true := by
  cases l with
  | nil => rfl
  | cons e t =>
    simp only [rising, Bool.and_eq_true, decide_eq_true_eq] at hl ⊢
    exact ⟨h.trans hl.1, hl.2⟩

theorem rising_tablePut {α : Type} {lo k : Nat} (v : α) {l : List (Nat × α)} (h : lo ≤ k)
    (hl : rising lo l = true) : rising lo (tablePut k v l) = true := by
  induction l generalizing lo with
  | nil => simp [tablePut, rising, h]
  | cons e t ih =>
    simp only [rising, Bool.and_eq_true, decide_eq_true_eq] at hl
    obtain ⟨hlo, ht⟩ := hl
    simp only [tablePut]
    split
    · next hlt => simp [rising, h, ht, Nat.succ_le_of_lt hlt]
    · split
      · next heq => simp [rising, heq, hlo, ht]
      · simp only [rising, Bool.and_eq_true, decide_eq_true_eq]
        exact ⟨hlo, ih (by omega) ht⟩

theorem rising_filter {α : Type} {lo : Nat} (p : Nat × α → Bool) {l : List (Nat × α)}
    (hl : rising lo l = true) : rising lo (l.filter p) = true := by
  induction l generalizing lo with
  | nil => rfl
  | cons e t ih =>
    simp only [rising, Bool.and_eq_true, decide_eq_true_eq] at hl
    obtain ⟨hlo, ht⟩ := hl
    rw [List.filter_cons]
    split
    · simp [rising, hlo, ih ht]
    · exact rising_mono (by omega) (ih ht)

/-- A change of the values that keeps every key keeps the keys rising. -/
theorem rising_map {α : Type} {lo : Nat} {f : Nat × α → Nat × α} (hf : ∀ e, (f e).1 = e.1)
    {l : List (Nat × α)} (hl : rising lo l = true) : rising lo (l.map f) = true := by
  induction l generalizing lo with
  | nil => rfl
  | cons e t ih =>
    simp only [rising, Bool.and_eq_true, decide_eq_true_eq] at hl
    simp [rising, hf, hl.1, ih hl.2]

theorem rising_putRows {α : Type} {lo : Nat} {rows l : List (Nat × α)} (h : ∀ e ∈ rows, lo ≤ e.1)
    (hl : rising lo l = true) : rising lo (putRows rows l) = true := by
  induction rows generalizing l with
  | nil => exact hl
  | cons e t ih =>
    exact ih (fun x hx => h x (List.mem_cons_of_mem _ hx)) (rising_tablePut _ (h e List.mem_cons_self) hl)

theorem mem_tablePut {α : Type} {k : Nat} {v : α} {l : List (Nat × α)} {e : Nat × α}
    (h : e ∈ tablePut k v l) : e = (k, v) ∨ e ∈ l := by
  induction l with
  | nil => simpa [tablePut] using h
  | cons a t ih =>
    simp only [tablePut] at h
    split at h
    · simpa using h
    · split at h
      · simp only [List.mem_cons] at h ⊢
        tauto
      · simp only [List.mem_cons] at h ⊢
        rcases h with h | h
        · exact .inr (.inl h)
        · exact (ih h).imp_right .inr

theorem mem_of_tableGet {α : Type} {k : Nat} {v : α} {l : List (Nat × α)} (h : tableGet k l = some v) :
    (k, v) ∈ l := by
  induction l with
  | nil => simp [tableGet] at h
  | cons a t ih =>
    simp only [tableGet] at h
    split at h
    · next hk =>
      simp only [Option.some.injEq] at h
      simp [← hk, ← h]
    · exact List.mem_cons_of_mem _ (ih h)

end Sys2Proof.Machine
end

section
/-! SUPPORT. Everything a command can do to the page store, the document slots and the loaded tables, as one relation:
one constructor for each way in which they change. An invariant of the three is proved once for each of these ways
and not for each command. -/

namespace Sys2Proof.Machine

open Sys2Proof.Config

/-- What a request or a completion does to the Table Unit (R162 to R164, R171). -/
inductive TableUnit.Edit (u : TableUnit) : TableUnit → Prop
  | clear (t : TableId) : TableUnit.Edit u (u.clear t)
  | revert (t : TableId) : TableUnit.Edit u (u.revert t)
  | put (es : StageEntries) (v : TableUnit) (h : u.put es = some v) : TableUnit.Edit u v
  | remove (ks : StageKeys) : TableUnit.Edit u (u.remove ks)
  | swap (t : TableId) : TableUnit.Edit u (u.swap t)

/-- One change of the page store, the document slots or the loaded tables. -/
inductive State.Edit (s : State) : State → Prop
  /-- None of the three changes. -/
  | quiet (t : State) (hs : t.store = s.store) (hd : t.docs.slots = s.docs.slots) (ht : t.tables = s.tables) :
      State.Edit s t
  /-- R8 to R11: a page record allocated or written, with no block it did not hold. -/
  | record (r : Nat) (x : PageRecord) (h : ∀ b ∈ x.blocks, b ∈ s.blocksOf r) : State.Edit s (s.setRecord r x)
  /-- R5: the first free block taken for a page record, its write asked for. -/
  | allocate (ch r b : Nat) (buf : BufId) (x : PageRecord) (rest : List Nat) (hf : s.store.free = b :: rest)
      (hr : s.record r = some x) :
      State.Edit s { s with store := { s.store with
        free := rest
        records := tablePut r { x with blocks := x.blocks ++ [b] } s.store.records
        port := s.store.port ++ [PortOp.write ch buf r b] } }
  /-- R12, R21: page records returned to the pool, blocks that records held released to the tail of the free list. -/
  | release (p : Nat × PageRecord → Bool) (bs : List Nat)
      (h : ∀ b ∈ bs, ∃ e ∈ s.store.records, b ∈ e.2.blocks) :
      State.Edit s { s with store := { s.store with
        free := s.store.free ++ bs
        records := s.store.records.filter p } }
  /-- R134: fields of the page records written that are neither their numbers nor their blocks. -/
  | records (f : Nat × PageRecord → Nat × PageRecord) (hk : ∀ e, (f e).1 = e.1)
      (hb : ∀ e, (f e).2.blocks = e.2.blocks) :
      State.Edit s { s with store := { s.store with records := s.store.records.map f } }
  /-- R6: a block of a page record asked for. -/
  | askRead (lane record pos receipt : Nat) : State.Edit s (s.beginRead lane record pos receipt)
  /-- R4: the operation at the head of the port queue served. -/
  | served : State.Edit s s.portDone
  /-- R5: bytes stored in a block of the store. -/
  | stored (b : Nat) (bytes : List Byte) (hb : b < blockCount) : State.Edit s (s.storeBlock b bytes)
  /-- R7: cells of a block of the store decayed. -/
  | decayed (b : Nat) (cells : List (Nat × Byte)) (hb : b < blockCount) : State.Edit s (s.decayBlock b cells)
  /-- R13, R15: a slot claimed, or the record in a slot created or written. -/
  | slot (k : Nat) (v : DocSlot) :
      State.Edit s { s with docs := { s.docs with slots := tablePut k v s.docs.slots } }
  /-- R21: a slot made FREE. -/
  | slotFreed (k : Nat) : State.Edit s (s.freeSlot k)
  /-- R173: the records in the slots written, each in its slot. -/
  | slots (f : Nat × DocSlot → Nat × DocSlot) (hk : ∀ e, (f e).1 = e.1) :
      State.Edit s { s with docs := { s.docs with slots := s.docs.slots.map f } }
  /-- R162 to R164, R171: the loaded tables changed by the Table Unit. -/
  | tables (u : TableUnit) (h : s.tables.Edit u) : State.Edit s { s with tables := u }
  /-- R26, R193: a reset. -/
  | reset (pending : List Instr) (m : Management) : State.Edit s (State.afterReset pending s.store.mem m)

/-- Any number of such changes, one after the other. -/
def State.Edits : State → State → Prop := Relation.ReflTransGen State.Edit

theorem State.Edits.refl (s : State) : s.Edits s := Relation.ReflTransGen.refl

theorem State.Edits.trans {s t u : State} (h : s.Edits t) (k : t.Edits u) : s.Edits u :=
  Relation.ReflTransGen.trans h k

theorem State.Edit.edits {s t : State} (e : s.Edit t) : s.Edits t := Relation.ReflTransGen.single e

/-! ### The three invariants, each kept by every change -/

theorem State.mem_blocksOf {s : State} {r b : Nat} (h : b ∈ s.blocksOf r) :
    ∃ e ∈ s.store.records, b ∈ e.2.blocks := by
  unfold State.blocksOf at h
  cases hr : s.record r with
  | none => simp [hr] at h
  | some x => exact ⟨(r, x), mem_of_tableGet hr, by simpa [hr] using h⟩

theorem State.Edit.bytesOk {s t : State} (e : s.Edit t) (h : s.bytesOk) : t.bytesOk := by
  unfold State.bytesOk at h ⊢
  cases e with
  | quiet _ hs _ _ => rwa [hs]
  | stored b bytes hb => exact Memory.writeBlock_wf b bytes _ hb h
  | decayed b cells hb => exact Memory.decay_wf b cells _ hb h
  | _ => exact h

/-- The rows of the mailbox and point tables, in both copies, with their keys strictly rising. -/
def TableUnit.rowsRising (u : TableUnit) : Prop :=
  rising 0 u.mailbox.live = true ∧ rising 0 u.mailbox.staging = true
    ∧ rising 0 u.point.live = true ∧ rising 0 u.point.staging = true

theorem TableUnit.Edit.rowsRising {u v : TableUnit} (e : u.Edit v) (h : u.rowsRising) : v.rowsRising := by
  obtain ⟨hml, hms, hpl, hps⟩ := h
  cases e with
  | clear t =>
    cases t with
    | mailbox => exact ⟨hml, rfl, hpl, hps⟩
    | point => exact ⟨hml, hms, hpl, rfl⟩
    | _ => exact ⟨hml, hms, hpl, hps⟩
  | revert t =>
    cases t with
    | mailbox => exact ⟨hml, hml, hpl, hps⟩
    | point => exact ⟨hml, hms, hpl, hpl⟩
    | _ => exact ⟨hml, hms, hpl, hps⟩
  | put es v h =>
    cases es with
    | routing l =>
      obtain ⟨_, heq⟩ := Option.ite_none_right_eq_some.1 h
      obtain rfl := Option.some.inj heq
      exact ⟨hml, hms, hpl, hps⟩
    | screening l =>
      obtain ⟨_, heq⟩ := Option.ite_none_right_eq_some.1 h
      obtain rfl := Option.some.inj heq
      exact ⟨hml, hms, hpl, hps⟩
    | mailbox l =>
      obtain rfl := Option.some.inj h
      exact ⟨hml, rising_putRows (fun _ _ => Nat.zero_le _) hms, hpl, hps⟩
    | point l =>
      obtain rfl := Option.some.inj h
      exact ⟨hml, hms, hpl, rising_putRows (fun _ _ => Nat.zero_le _) hps⟩
  | remove ks =>
    cases ks with
    | routing l => exact ⟨hml, hms, hpl, hps⟩
    | screening l => exact ⟨hml, hms, hpl, hps⟩
    | mailbox l => exact ⟨hml, rising_filter _ hms, hpl, hps⟩
    | point l => exact ⟨hml, hms, hpl, rising_filter _ hps⟩
  | swap t =>
    cases t with
    | mailbox => exact ⟨hms, hms, hpl, hps⟩
    | point => exact ⟨hml, hms, hps, hps⟩
    | _ => exact ⟨hml, hms, hpl, hps⟩

theorem State.tablesOk_iff (s : State) :
    s.tablesOk ↔ rising 0 s.store.records = true ∧ rising 0 s.store.blocks = true
      ∧ rising 0 s.docs.slots = true ∧ s.tables.rowsRising := Iff.rfl

theorem State.Edit.tablesOk {s t : State} (e : s.Edit t) (h : s.tablesOk) : t.tablesOk := by
  rw [State.tablesOk_iff] at h ⊢
  obtain ⟨hr, hb, hd, ht⟩ := h
  cases e with
  | quiet _ es ed et => rw [es, ed, et]; exact ⟨hr, hb, hd, ht⟩
  | record r x _ => exact ⟨rising_tablePut x (Nat.zero_le r) hr, hb, hd, ht⟩
  | allocate _ r _ _ _ _ _ _ => exact ⟨rising_tablePut _ (Nat.zero_le r) hr, hb, hd, ht⟩
  | release p _ _ => exact ⟨rising_filter p hr, hb, hd, ht⟩
  | records f hk _ => exact ⟨rising_map hk hr, hb, hd, ht⟩
  | askRead _ _ _ _ => exact ⟨hr, hb, hd, ht⟩
  | served => exact ⟨hr, hb, hd, ht⟩
  | stored b _ _ => exact ⟨hr, rising_tablePut _ (Nat.zero_le b) hb, hd, ht⟩
  | decayed _ _ _ => exact ⟨hr, hb, hd, ht⟩
  | slot k v => exact ⟨hr, hb, rising_tablePut v (Nat.zero_le k) hd, ht⟩
  | slotFreed k => exact ⟨hr, hb, rising_filter _ hd, ht⟩
  | slots f hk => exact ⟨hr, hb, rising_map hk hd, ht⟩
  | tables u hu => exact ⟨hr, hb, hd, hu.rowsRising ht⟩
  | reset _ _ => exact ⟨rfl, rfl, rfl, rfl, rfl, rfl, rfl⟩

theorem State.Edit.blocksOk {s t : State} (e : s.Edit t) (h : s.blocksOk) : t.blocksOk := by
  obtain ⟨hf, hr, hp⟩ := h
  cases e with
  | quiet _ es _ _ => rw [State.blocksOk, es]; exact ⟨hf, hr, hp⟩
  | record r x hx =>
    refine ⟨hf, fun e he b hb => ?_, hp⟩
    obtain rfl | he := mem_tablePut he
    · obtain ⟨e, he, hb⟩ := State.mem_blocksOf (hx b hb)
      exact hr e he b hb
    · exact hr e he b hb
  | allocate ch r b buf x rest hfree hx =>
    have hb : b < blockCount := hf b (by simp [hfree])
    refine ⟨fun c hc => hf c (by simp [hfree, hc]), fun e he c hc => ?_, fun o ho => ?_⟩
    · obtain rfl | he := mem_tablePut he
      · obtain hc | rfl := by simpa using hc
        · exact hr _ (mem_of_tableGet hx) c hc
        · exact hb
      · exact hr e he c hc
    · obtain ho | rfl := by simpa using ho
      · exact hp o ho
      · exact hb
  | release p bs hbs =>
    refine ⟨fun b hb => ?_, fun e he => hr e (List.mem_of_mem_filter he), hp⟩
    obtain hb | hb := List.mem_append.1 hb
    · exact hf b hb
    · obtain ⟨e, he, hb⟩ := hbs b hb
      exact hr e he b hb
  | records f _ hb =>
    refine ⟨hf, fun e he b hbe => ?_, hp⟩
    obtain ⟨a, ha, rfl⟩ := List.mem_map.1 he
    exact hr a ha b (hb a ▸ hbe)
  | askRead lane r pos receipt =>
    refine ⟨hf, hr, fun o ho => ?_⟩
    obtain ho | rfl := by simpa [State.beginRead] using ho
    · exact hp o ho
    · obtain h | h := lt_or_ge (pos - 1) (s.blocksOf r).length
      · obtain ⟨e, he, hb⟩ := State.mem_blocksOf (List.getElem_mem h)
        simpa [PortOp.block, h] using hr e he _ hb
      · simp [PortOp.block, h, blockCount]
  | served => exact ⟨hf, hr, fun o ho => hp o (List.mem_of_mem_tail ho)⟩
  | reset _ _ =>
    simp [State.blocksOk, State.afterReset, PageStore.afterReset]
  | _ => exact ⟨hf, hr, hp⟩

/-- An invariant that every change keeps is kept by any number of them. -/
theorem State.Edits.keep {I : State → Prop} (hI : ∀ s t : State, s.Edit t → I s → I t) {s t : State}
    (h : s.Edits t) (hs : I s) : I t := by
  induction h with
  | refl => exact hs
  | tail _ e ih => exact hI _ _ e ih

end Sys2Proof.Machine
end

section
/-! SUPPORT. The operations of the machine that reach the page store, the document slots or the loaded tables, each as a
run of the changes of State.Edit, in the order of the definitions. -/

namespace Sys2Proof.Machine

open Sys2Proof.Config

/-- An operation that leaves the store, the slots and the tables alone. -/
theorem State.edits_quiet {s t : State}
    (h : t.store = s.store ∧ t.docs.slots = s.docs.slots ∧ t.tables = s.tables) : s.Edits t :=
  (State.Edit.quiet t h.1 h.2.1 h.2.2).edits

/-- A run of changes followed by an operation that leaves the three alone. -/
theorem State.Edits.quiet {s t u : State} (h : s.Edits t)
    (q : u.store = t.store ∧ u.docs.slots = t.docs.slots ∧ u.tables = t.tables) : s.Edits u :=
  h.trans (edits_quiet q)

/-- A run of changes behind an operation that leaves the three alone. -/
theorem State.Edits.behind {s t u : State} (h : t.Edits u)
    (q : t.store = s.store ∧ t.docs.slots = s.docs.slots ∧ t.tables = s.tables) : s.Edits u :=
  (edits_quiet q).trans h

theorem State.Edits.heldUp {s t : State} (h : s.Edits t) {m n : Nat} : s.Edits (t.heldUp m n) := h.quiet (by simp)

theorem State.Edits.raise {s t : State} (h : s.Edits t) {src : Source} {o : Occurrence} : s.Edits (t.raise src o) :=
  h.quiet (by simp)

theorem State.Edits.trigger {s t : State} (h : s.Edits t) {e : Trigger} : s.Edits (t.trigger e) := h.quiet (by simp)

theorem State.Edits.queueTail {s t : State} (h : s.Edits t) {m slot : Nat} : s.Edits (t.queueTail m slot) :=
  h.quiet (by simp)

theorem State.Edits.queueHead {s t : State} (h : s.Edits t) {m slot : Nat} : s.Edits (t.queueHead m slot) :=
  h.quiet (by simp)

theorem State.Edits.unqueue {s t : State} (h : s.Edits t) {m slot : Nat} : s.Edits (t.unqueue m slot) :=
  h.quiet (by simp)

theorem State.Edits.setPoint {s t : State} (h : s.Edits t) {p : Nat} {x : Point} : s.Edits (t.setPoint p x) :=
  h.quiet (by simp)

theorem State.Edits.endLane {s t : State} (h : s.Edits t) {i : Nat} : s.Edits (t.endLane i) := h.quiet (by simp)

theorem State.Edits.reply {s t : State} (h : s.Edits t) {r : ReqHead} {k : ReqKind} {result : Result}
    {body : ReplyBody} : s.Edits (t.reply r k result body) := h.quiet (by simp)

/-! ### Page records, blocks and slots -/

theorem State.edits_setRecord {s : State} {r : Nat} {x y : PageRecord} (hr : s.record r = some y)
    (hb : x.blocks = y.blocks) : s.Edits (s.setRecord r x) :=
  (State.Edit.record r x (by simp [State.blocksOf, hr, hb])).edits

theorem State.edits_setDoc (s : State) (slot : Nat) (d : Doc) : s.Edits (s.setDoc slot d) :=
  (State.Edit.slot slot (.inUse d)).edits

theorem State.edits_freeSlot (s : State) (slot : Nat) : s.Edits (s.freeSlot slot) :=
  (State.Edit.slotFreed slot).edits

/-- Page records returned to the pool and blocks of theirs released, with the evaluation that follows a release. -/
theorem State.edits_releaseBlocks (s : State) (p : Nat × PageRecord → Bool) (bs : List Nat)
    (h : ∀ b ∈ bs, ∃ e ∈ s.store.records, b ∈ e.2.blocks) :
    s.Edits (({ s with store := { s.store with records := s.store.records.filter p } } : State).releaseBlocks bs) := by
  refine (State.Edit.release p bs h).edits.trans ?_
  unfold State.releaseBlocks
  split
  · next he => exact edits_quiet (by simp [List.isEmpty_iff.1 he])
  · exact edits_quiet (by simp)

theorem State.edits_discardPage (s : State) (r : Nat) : s.Edits (s.discardPage r) :=
  edits_releaseBlocks s (fun e => e.1 != r) (s.blocksOf r) (fun _ => mem_blocksOf)

theorem State.edits_freeDoc (s : State) (slot : Nat) (d : Doc) (purged : Bool) :
    s.Edits (s.freeDoc slot d purged) := by
  refine State.Edits.behind (t := s.leaveMailbox slot d purged) (.trans ?_ (edits_freeSlot _ slot)) (by simp)
  refine edits_releaseBlocks _ (fun e => !d.pages.contains e.1) _ (fun b hb => ?_)
  obtain ⟨r, _, hb⟩ := List.mem_flatMap.1 hb
  simpa using mem_blocksOf hb

theorem State.edits_beginWrite {s t : State} {ch r : Nat} {buf : BufId} {x : PageRecord} (hr : s.record r = some x)
    (h : s.beginWrite ch buf r x = some t) : s.Edits t := by
  unfold State.beginWrite at h
  split at h
  · cases h
  · next b rest hf =>
    cases h
    exact (State.Edit.allocate ch r b buf x rest hf hr).edits.quiet (by simp)

theorem State.edits_beginRead (s : State) (i r pos receipt : Nat) : s.Edits (s.beginRead i r pos receipt) :=
  (State.Edit.askRead i r pos receipt).edits

theorem State.edits_growRecord (s : State) (r n : Nat) : s.Edits (s.growRecord r n) := by
  unfold State.growRecord
  split
  · exact .refl _
  · next hr => exact edits_setRecord hr rfl

theorem State.edits_claimSlot {s t : State} {ch slot : Nat} (h : s.claimSlot ch = some (slot, t)) : s.Edits t := by
  unfold State.claimSlot at h
  split at h
  · cases h
  · cases h
    exact (State.Edit.slot _ (.claimed ch)).edits

theorem State.edits_updDoc (s : State) (slot : Nat) (f : Doc → Doc) : s.Edits (s.updDoc slot f) := by
  unfold State.updDoc
  split
  · exact .refl _
  · exact edits_setDoc _ _ _

theorem State.edits_releaseRetained (s : State) : s.Edits s.releaseRetained := by
  unfold State.releaseRetained
  split
  · exact .refl _
  · exact edits_freeDoc _ _ _ _

/-! ### The answer decision -/

theorem State.edits_dropClaim (s : State) (claim : Option Nat) : s.Edits (s.dropClaim claim) := by
  unfold State.dropClaim
  split
  · exact .refl _
  · exact edits_freeSlot _ _

theorem State.edits_refuse (s : State) (ch : Nat) (d : Decision) (cause : Cause) (gen : Option Nat)
    (screening : ScreenResult) : s.Edits (s.refuse ch d cause gen screening) := by
  rw [State.refuse_eq]
  split
  · exact (edits_dropClaim s d.claim).quiet (by simp)
  · exact (edits_dropClaim s d.claim).quiet (by simp)

theorem State.edits_answeringStep (s : State) (ch slot : Nat) (d : Decision) (p : Placement) :
    s.Edits (s.answeringStep ch slot d p) := by
  unfold State.answeringStep
  split
  · exact edits_refuse _ _ _ _ _ _
  · exact edits_refuse _ _ _ _ _ _
  · split
    · exact edits_refuse _ _ _ _ _ _
    · split
      · exact edits_refuse _ _ _ _ _ _
      · next receipt _ =>
        exact (State.Edit.slot slot (.inUse (createdDoc ch receipt d p))).edits.quiet
          (by simp [State.answerCall])

theorem State.edits_decisionAct (s : State) (ch : Nat) (d : Decision) : s.Edits (s.decisionAct ch d) := by
  unfold State.decisionAct
  split
  case h_1 | h_3 =>
    split
    · exact edits_quiet (by simp)
    · exact edits_refuse _ _ _ _ _ _
  case h_2 =>
    split
    · exact edits_quiet (by simp)
    · exact edits_refuse _ _ _ _ _ _
    · exact edits_refuse _ _ _ _ _ _
  case h_4 =>
    split
    · exact edits_quiet (by simp)
    · exact (edits_refuse _ _ _ _ _ _).behind (by simp)
  case h_5 | h_7 =>
    split
    · exact edits_refuse _ _ _ _ _ _
    · exact edits_quiet (by simp)
  case h_6 =>
    split
    · exact edits_refuse _ _ _ _ _ _
    · next hc => exact (edits_claimSlot hc).quiet (by simp)
  case h_8 =>
    split
    · exact edits_answeringStep _ _ _ _ _
    · exact edits_refuse _ _ _ _ _ _

theorem State.edits_decisionRun (s : State) (ch : Nat) (stop : DecisionStop) (n : Nat) :
    s.Edits (s.decisionRun ch stop n) := by
  induction n generalizing s with
  | zero => exact .refl _
  | succ n ih =>
    unfold State.decisionRun
    split
    · exact .refl _
    · split
      · exact .refl _
      · exact (edits_decisionAct _ _ _).trans (ih _)

theorem State.edits_decideOn (s : State) (ch : Nat) (stop : DecisionStop) : s.Edits (s.decideOn ch stop) :=
  edits_decisionRun s ch stop 8

/-! ### Channels -/

theorem State.edits_giveUp (s : State) (ch : Nat) : s.Edits (s.giveUp ch) := by
  unfold State.giveUp
  split
  · exact .refl _
  · dsimp only
    split
    · exact edits_quiet (by simp)
    · exact (edits_discardPage _ _).behind (by simp)

theorem State.edits_cut (s : State) (ch : Nat) : s.Edits (s.cut ch) := by
  unfold State.cut
  split
  · exact .refl _
  · exact edits_updDoc _ _ _

theorem State.edits_drop (s : State) (ch : Nat) (cause : Cause) : s.Edits (s.drop ch cause) := by
  unfold State.drop
  dsimp only
  split
  · exact ((edits_cut s ch).trans (edits_giveUp _ ch)).quiet (by simp)
  · exact edits_quiet (by simp)

theorem State.edits_closeDoc (s : State) (ch slot : Nat) (d : Doc) (cause : Cause) (cut : Bool) :
    s.Edits (s.closeDoc ch slot d cause cut) := by
  unfold State.closeDoc
  dsimp only
  split
  · exact (edits_freeDoc _ _ _ _).behind (by simp)
  · exact (edits_setDoc s slot { d with
      closeTime := some s.mgmt.tod, channel := none, incomplete := d.incomplete || cut,
      state := .queued }).quiet (by simp)

theorem State.edits_closeCall (s : State) (ch : Nat) (cause : Cause) : s.Edits (s.closeCall ch cause) := by
  unfold State.closeCall
  dsimp only
  split
  · exact (edits_giveUp s ch).quiet (by simp)
  · split
    · exact (edits_giveUp s ch).quiet (by simp)
    · next slot _ _ d _ =>
      exact ((edits_giveUp s ch).trans (edits_closeDoc _ ch slot d cause
        ((s.channel ch).page.isSome || (s.channel ch).drop.isSome || cause != .normal))).quiet (by simp)

theorem State.edits_loseLink (s : State) (ch : Nat) : s.Edits (s.loseLink ch) := by
  unfold State.loseLink
  split
  · exact .refl _
  · exact edits_closeCall _ _ _

theorem State.edits_takeLoss (s : State) (ch : Nat) : s.Edits (s.takeLoss ch) := by
  unfold State.takeLoss
  split
  · exact (edits_loseLink _ _).behind (by simp)
  · exact .refl _

theorem State.edits_settle (s : State) (ch : Nat) : s.Edits (s.settle ch) :=
  (edits_decideOn s ch .done).trans (edits_takeLoss _ ch)

theorem State.edits_carryOn (s : State) (ch : Nat) (stop : DecisionStop) : s.Edits (s.carryOn ch stop) := by
  unfold State.carryOn
  dsimp only
  split
  · exact (edits_decideOn s ch stop).trans (edits_takeLoss _ ch)
  · exact edits_decideOn s ch stop

/-- A frame for a channel, whatever the channel does with it. -/
theorem State.edits_lineFrame (s : State) (ok : Bool) (ch : Nat) {f : State → State}
    (hf : ∀ a : State, a.Edits (f a)) :
    s.Edits (s.lineFrame ok ch f) := by
  unfold State.lineFrame
  split
  · exact (((edits_settle s.lineGood ch).quiet (by simp)).trans (hf _)).behind (by simp)
  · exact edits_quiet (by simp)

theorem State.edits_callOpen (s : State) (ch : Nat) (called : Str) (caller : Option Str) (stop : DecisionStop) :
    s.Edits (s.callOpen ch called caller stop) := by
  unfold State.callOpen
  split
  · exact (edits_decideOn _ _ _).behind (by simp)
  · exact edits_quiet (by simp)

theorem State.edits_stationAction (s : State) (ch slot : Nat) (d : Doc) (e : ScreenEntry) :
    s.Edits (s.stationAction ch slot d e) := by
  unfold State.stationAction
  split
  · exact edits_drop _ _ _
  · exact edits_setDoc _ _ _
  · exact edits_setDoc _ _ _
  · split
    · exact .refl _
    · split
      · exact edits_setDoc _ _ _
      · exact .refl _

theorem State.edits_senderInfo (s : State) (ch : Nat) (ident : Str) : s.Edits (s.senderInfo ch ident) := by
  unfold State.senderInfo
  split
  · split
    · exact edits_quiet (by simp)
    · split
      · exact edits_quiet (by simp)
      · dsimp only
        split
        · exact edits_setDoc _ _ _
        · exact (edits_setDoc _ _ _).trans (edits_stationAction _ _ _ _ _)
  · exact edits_quiet (by simp)

theorem State.edits_beginPage (s : State) (ch r slot page : Nat) (res : Resolution) (width : Width) :
    s.Edits (s.beginPage ch r slot page res width) :=
  (State.Edit.record r (PageRecord.fresh slot page (s.channel ch).resends res width)
    (by simp [PageRecord.fresh])).edits.quiet (by simp [State.beginPage])

theorem State.edits_pageStart (s : State) (ch page : Nat) (res : Resolution) (width : Width) :
    s.Edits (s.pageStart ch page res width) := by
  unfold State.pageStart
  dsimp only
  split
  · split
    · exact edits_quiet (by simp)
    · split
      · exact edits_drop _ _ _
      · split
        · exact edits_quiet (by simp)
        · split
          · exact edits_drop _ _ _
          · exact edits_beginPage _ _ _ _ _ _ _
  · exact edits_quiet (by simp)

theorem State.edits_handOver {s t : State} {ch : Nat} {b : BufId} {bytes : List Byte}
    (h : s.handOver ch b bytes = some t) : s.Edits t := by
  unfold State.handOver at h
  split at h
  · cases h
    exact .refl _
  · split at h
    · cases h
      exact .refl _
    · next hr =>
      obtain ⟨u, hu, rfl⟩ := Option.map_eq_some_iff.1 h
      exact (edits_beginWrite hr hu).quiet (by simp)

theorem State.edits_storeFull (s : State) (ch : Nat) (b : BufId) : s.Edits (s.storeFull ch b) :=
  (((edits_giveUp _ ch).behind (by simp)).trans (edits_cut _ ch)).trans (edits_drop _ ch _)

theorem State.edits_placeBytes (s : State) (ch : Nat) (b : BufId) (held kept : List Byte) :
    s.Edits (s.placeBytes ch b held kept) := by
  unfold State.placeBytes
  dsimp only
  split
  · exact edits_quiet (by simp)
  · split
    · exact (edits_storeFull _ _ _).behind (by simp)
    · next hh =>
      split
      · exact (edits_handOver hh).behind (by simp)
      · exact ((edits_handOver hh).behind (by simp)).quiet (by simp)

theorem State.edits_takePayload (s : State) (ch : Nat) (payload : List Byte) : s.Edits (s.takePayload ch payload) := by
  unfold State.takePayload
  dsimp only
  split
  · exact edits_quiet (by simp)
  · split
    · exact edits_quiet (by simp)
    · split
      · exact (edits_placeBytes _ _ _ _ _).behind (by simp)
      · exact edits_quiet (by simp)

theorem State.edits_pageData (s : State) (ch seq : Nat) (payload : List Byte) :
    s.Edits (s.pageData ch seq payload) := by
  unfold State.pageData
  split
  · exact (edits_takePayload _ _ _).behind (by simp)
  · exact edits_quiet (by simp)

theorem State.edits_resendPage (s : State) (ch r : Nat) : s.Edits (s.resendPage ch r) :=
  (edits_discardPage _ r).behind (by simp)

theorem State.edits_joinPage {s : State} {r : Nat} {x : PageRecord} (hr : s.record r = some x) (ch slot : Nat)
    (f : Finish) : s.Edits (s.joinPage ch r slot x f) := by
  have hw : s.Edits (s.setRecord r { x with finish := some f }) := edits_setRecord hr rfl
  unfold State.joinPage
  dsimp only
  split
  · exact hw.quiet (by simp)
  · exact ((hw.quiet (by simp)).trans (edits_setDoc _ slot _)).heldUp

theorem State.edits_finalize (s : State) (ch : Nat) : s.Edits (s.finalize ch) := by
  unfold State.finalize
  dsimp only
  split
  · split
    · exact .refl _
    · next hr =>
      split
      · exact (edits_cut s ch).trans (edits_drop _ _ _)
      · split
        · exact edits_resendPage _ _ _
        · exact edits_joinPage hr _ _ _
  · exact .refl _

theorem State.edits_finalizeIfDone (s : State) (ch : Nat) : s.Edits (s.finalizeIfDone ch) := by
  unfold State.finalizeIfDone
  split
  · exact .refl _
  · split
    · exact .refl _
    · exact edits_finalize _ _

theorem State.edits_pageEnd (s : State) (ch : Nat) (e : PageEnd) : s.Edits (s.pageEnd ch e) := by
  unfold State.pageEnd
  dsimp only
  split
  · split
    · exact (edits_finalizeIfDone _ _).behind (by simp)
    · exact (edits_finalizeIfDone _ _).behind (by simp)
    · split
      · exact (edits_storeFull _ _ _).behind (by simp)
      · next hh => exact ((edits_handOver hh).behind (by simp)).trans (edits_finalizeIfDone _ _)
  · exact edits_quiet (by simp)

theorem State.edits_callClose (s : State) (ch : Nat) (cause : ShelfCause) : s.Edits (s.callClose ch cause) := by
  unfold State.callClose
  split
  · exact edits_quiet (by simp)
  · exact edits_closeCall _ _ _
  · exact edits_closeCall _ _ _

theorem State.edits_heldDiscard (s : State) (ch r : Nat) : s.Edits (s.heldDiscard ch r) := by
  unfold State.heldDiscard
  dsimp only
  split
  · exact (edits_discardPage _ _).behind (by simp)
  · exact .refl _

theorem State.edits_writeDone (s : State) (ch : Nat) (b : BufId) (r : Nat) : s.Edits (s.writeDone ch b r) := by
  unfold State.writeDone
  dsimp only
  split
  · split
    · exact (edits_finalizeIfDone _ _).behind (by simp)
    · exact edits_quiet (by simp)
  · exact (edits_heldDiscard _ _ _).behind (by simp)

theorem State.edits_completeWrite (s : State) (ch : Nat) (b : BufId) (r : Nat) {block : Nat} (hb : block < blockCount) :
    s.Edits (s.completeWrite ch b r block) :=
  (((State.Edit.served.edits.trans (State.Edit.stored block _ hb).edits).trans (edits_growRecord _ r _)).trans
    (edits_carryOn _ ch .done)).trans (edits_writeDone _ ch b r)

end Sys2Proof.Machine
end

section
/-! SUPPORT. The operations of documents, lanes, points, resets and the Table Unit as runs of the changes of
State.Edit. -/

namespace Sys2Proof.Machine

open Sys2Proof.Config

/-! ### What a request on a document does to its record -/

theorem State.edits_holdDoc (s : State) (slot : Nat) (d : Doc) : s.Edits (s.holdDoc slot d) :=
  (edits_setDoc s slot (d.toHeld (holdReasonIn d.current))).unqueue.raise

theorem State.edits_rerouteDoc (s : State) (slot : Nat) (d : Doc) (t : Nat) : s.Edits (s.rerouteDoc slot d t) :=
  ((edits_setDoc (s.unqueue d.current slot) slot
    { d with state := .queued, current := t, notBefore := none }).behind (by simp)).quiet
    (by simp [State.rerouteDoc])

theorem State.edits_rerouteHeld (s : State) (slot : Nat) (d : Doc) (t : Nat) : s.Edits (s.rerouteHeld slot d t) :=
  (edits_setDoc s slot { d with current := t }).quiet (by simp [State.rerouteHeld])

theorem State.edits_completeHold (s : State) (h : ReqHead) (receipt : Nat) : s.Edits (s.completeHold h receipt) := by
  unfold State.completeHold
  split
  · exact edits_quiet (by simp)
  · split
    · exact (edits_holdDoc _ _ _).reply
    · exact (edits_holdDoc _ _ _).reply
    · exact edits_quiet (by simp)

theorem State.edits_rerouteTo (s : State) (slot : Nat) (d : Doc) (t : Nat) : s.Edits (s.rerouteTo slot d t) := by
  unfold State.rerouteTo
  split
  · exact .refl _
  · split
    · exact edits_rerouteHeld _ _ _ _
    · exact edits_rerouteDoc _ _ _ _

theorem State.edits_completeReroute (s : State) (h : ReqHead) (receipt t : Nat) :
    s.Edits (s.completeReroute h receipt t) := by
  unfold State.completeReroute
  split
  · exact edits_quiet (by simp)
  · split
    · exact (edits_rerouteTo _ _ _ _).reply
    · exact (edits_rerouteTo _ _ _ _).reply
    · exact (edits_rerouteDoc _ _ _ _).reply
    · exact edits_quiet (by simp)

theorem State.edits_completePurge (s : State) (h : ReqHead) (receipt : Nat) : s.Edits (s.completePurge h receipt) := by
  unfold State.completePurge
  split
  · exact edits_quiet (by simp)
  · split
    · exact edits_quiet (by simp)
    · exact (edits_freeDoc _ _ _ _).reply

theorem State.edits_completeDeferred (s : State) (receipt : Nat) : s.Edits (s.completeDeferred receipt) := by
  unfold State.completeDeferred
  split
  · split
    · split
      · exact edits_completeHold _ _ _
      · exact edits_completeReroute _ _ _ _
      · exact edits_completePurge _ _ _
    · exact .refl _
  · exact .refl _

theorem State.edits_releaseTo (s : State) (slot : Nat) (d : Doc) (m : Nat) : s.Edits (s.releaseTo slot d m) :=
  (edits_setDoc s slot
    { d with state := .queued, current := m, hold := none, attempts := 0, notBefore := none }).queueTail.raise

theorem State.edits_releaseRouted (s : State) (slot : Nat) (d : Doc) : s.Edits (s.releaseRouted slot d) :=
  (edits_releaseTo _ slot d d.routed).behind (by simp)

theorem State.edits_rerouteNow (s : State) (h : ReqHead) (slot : Nat) (d : Doc) (t : Nat) (quarantined : Bool) :
    s.Edits (s.rerouteNow h slot d t quarantined) := by
  unfold State.rerouteNow
  split
  · exact edits_quiet (by simp)
  · exact (edits_rerouteTo _ _ _ _).reply

/-! ### Lanes -/

theorem State.edits_laneReads (s : State) (i : Nat) : s.Edits (s.laneReads i) := by
  unfold State.laneReads
  dsimp only
  split
  · split
    · exact (edits_beginRead _ _ _ _ _).behind (by simp)
    · exact .refl _
  · exact .refl _

theorem State.edits_sendPage (s : State) (i p slot : Nat) (b : BufId) (rest : List BufId) (k : Nat)
    (bytes : List Byte) : s.Edits (s.sendPage i p slot b rest k bytes) := by
  unfold State.sendPage
  dsimp only
  split
  · exact edits_quiet (by simp)
  · split
    · exact edits_quiet (by simp)
    · next x hr =>
    exact ((edits_setRecord (x := { x with sends := x.sends + 1 }) hr rfl).behind (by simp)).quiet (by simp)

theorem State.edits_tryPage (s : State) (i p : Nat) (b : BufId) (rest : List BufId) (k : Nat) (bytes : List Byte) :
    s.Edits (s.tryPage i p b rest k bytes) := by
  unfold State.tryPage
  dsimp only
  split
  · exact edits_quiet (by simp)
  · exact (edits_sendPage _ _ _ _ _ _ _ _).behind (by simp)

theorem State.edits_laneBegins (s : State) (i : Nat) : s.Edits (s.laneBegins i) := by
  unfold State.laneBegins
  dsimp only
  split
  · exact .refl _
  · split
    · split
      · exact edits_tryPage _ _ _ _ _ _ _
      · exact .refl _
    · exact .refl _

theorem State.edits_laneOn (s : State) (i : Nat) : s.Edits (s.laneOn i) := by
  unfold State.laneOn
  split
  · exact ((edits_laneReads s i).trans (edits_laneBegins _ i)).quiet (by simp)
  · exact edits_quiet (by simp)

theorem State.edits_completeIf (s : State) (was : LaneState) (receipt : Nat) : s.Edits (s.completeIf was receipt) := by
  unfold State.completeIf
  split
  · exact edits_completeDeferred _ _
  · exact .refl _

theorem State.edits_handBack (s : State) (slot : Nat) (d : Doc) (notBefore : Option Nat) :
    s.Edits (s.handBack slot d notBefore) :=
  (edits_setDoc s slot { d with state := .queued, notBefore := notBefore }).queueHead

theorem State.edits_afterAttempt (s : State) (slot : Nat) (d : Doc) : s.Edits (s.afterAttempt slot d) := by
  unfold State.afterAttempt
  split
  · exact edits_handBack _ _ _ _
  · exact edits_setDoc _ _ _

theorem State.edits_suspendCounted (s : State) (i : Nat) (reason : SuspendReason) :
    s.Edits (s.suspendCounted i reason) := by
  unfold State.suspendCounted
  split
  · next slot d _ _ =>
    exact ((edits_afterAttempt s slot { d with attempts := d.attempts + 1 }).quiet (by simp)).trans
      (edits_completeIf _ _ _)
  · exact .refl _

theorem State.edits_suspendUncounted (s : State) (i : Nat) (reason : SuspendReason) :
    s.Edits (s.suspendUncounted i reason) := by
  unfold State.suspendUncounted
  split
  · exact (edits_handBack _ _ _ _).raise.endLane.trans (edits_completeIf _ _ _)
  · exact .refl _

theorem State.edits_suspendServing (s : State) (p : Nat) (reason : SuspendReason) :
    s.Edits (s.suspendServing p reason) := by
  unfold State.suspendServing
  split
  · exact .refl _
  · exact edits_suspendUncounted _ _ _

theorem State.edits_delivered (s : State) (slot : Nat) (d : Doc) : s.Edits (s.delivered slot d) := by
  unfold State.delivered
  split
  · exact edits_freeDoc _ _ _ _
  · exact edits_setDoc _ _ _

theorem State.edits_completeDelivery (s : State) (i slot : Nat) (d : Doc) (p : Nat) :
    s.Edits (s.completeDelivery i slot d p) := by
  unfold State.completeDelivery
  dsimp only
  exact ((edits_delivered _ slot d).setPoint.endLane.trans (edits_completeIf _ _ _)).behind (by simp)

theorem State.edits_endWithdrawal (s : State) (i : Nat) : s.Edits (s.endWithdrawal i) := by
  unfold State.endWithdrawal
  split
  · exact .refl _
  · exact (edits_setDoc _ _ _).endLane.trans (edits_completeDeferred _ _)

theorem State.edits_withdrawalMayEnd (s : State) (i : Nat) : s.Edits (s.withdrawalMayEnd i) := by
  unfold State.withdrawalMayEnd
  dsimp only
  split
  · exact edits_endWithdrawal _ _
  · exact .refl _

theorem State.edits_ackPage (s : State) (i slot : Nat) (d : Doc) (p : Nat) (b : BufId) (k : Nat) :
    s.Edits (s.ackPage i slot d p b k) :=
  (edits_setDoc _ _ _).behind (by simp)

/-! ### Delivery frames and lane timers -/

/-- A delivery frame, whatever its point does with it. -/
theorem State.edits_deliveryFrame (s : State) (ok : Bool) (p : Nat) {f : State → State}
    (hf : ∀ a : State, a.Edits (f a)) : s.Edits (s.deliveryFrame ok p f) := by
  unfold State.deliveryFrame
  dsimp only
  split
  · split
    · exact (hf _).behind (by simp)
    · exact edits_quiet (by simp)
  · exact edits_quiet (by simp)

theorem State.edits_atReady (s : State) (p : Nat) {f : State → State} (hf : ∀ a : State, a.Edits (f a)) :
    s.Edits (s.atReady p f) := by
  unfold State.atReady
  split
  · exact edits_quiet (by simp)
  · exact hf _

theorem State.edits_pointUp (s : State) (p : Nat) : s.Edits (s.pointUp p) := by
  unfold State.pointUp
  dsimp only
  split
  · exact (edits_suspendServing _ _ _).behind (by simp)
  · exact edits_quiet (by simp)

theorem State.edits_pointDown (s : State) (p : Nat) : s.Edits (s.pointDown p) := by
  unfold State.pointDown
  split
  · exact .refl _
  · exact (edits_suspendServing _ _ _).behind (by simp)

theorem State.edits_clearSends (s : State) (pages : List Nat) : s.Edits (s.clearSends pages) :=
  (State.Edit.records (fun e => if pages.contains e.1 then (e.1, { e.2 with sends := 0 }) else e)
    (fun e => by split <;> rfl) (fun e => by split <;> rfl)).edits

theorem State.edits_accepted (s : State) (i : Nat) (d : Doc) : s.Edits (s.accepted i d) :=
  (edits_clearSends s d.pages).trans ((edits_laneOn _ i).behind (by simp))

theorem State.edits_declined (s : State) (i slot : Nat) (d : Doc) (p retry : Nat) :
    s.Edits (s.declined i slot d p retry) :=
  (edits_handBack s slot d _).raise.endLane

theorem State.edits_tryWaiting (s : State) (p : Nat) : s.Edits (s.tryWaiting p) := by
  unfold State.tryWaiting
  split
  · exact .refl _
  · split
    · exact edits_laneOn _ _
    · exact .refl _

theorem State.edits_intakePost (s : State) (p slot cap : Nat) : s.Edits (s.intakePost p slot cap) := by
  unfold State.intakePost
  dsimp only
  split
  · exact edits_quiet (by simp)
  · split
    · exact edits_quiet (by simp)
    · exact (edits_tryWaiting _ _).behind (by simp)

theorem State.edits_pageAcked (s : State) (i p : Nat) (b : BufId) (k : Nat) : s.Edits (s.pageAcked i p b k) := by
  unfold State.pageAcked
  split
  · exact .refl _
  · next slot d _ =>
    dsimp only
    refine (edits_ackPage s i slot d p b k).trans ?_
    split
    · exact .refl _
    · split
      · exact edits_completeDelivery _ _ _ _ _
      · split
        · exact .refl _
        · exact edits_laneOn _ _

theorem State.edits_pageRefused (s : State) (i : Nat) (b : BufId) (k : Nat) (bytes : List Byte) :
    s.Edits (s.pageRefused i b k bytes) := by
  unfold State.pageRefused
  dsimp only
  split
  · exact edits_quiet (by simp)
  · split
    · exact (edits_laneOn _ _).behind (by simp)
    · exact edits_suspendCounted _ _ _

theorem State.edits_laneExpiry (s : State) (i : Nat) (timer : Option Nat) (reason : SuspendReason) :
    s.Edits (s.laneExpiry i timer reason) := by
  unfold State.laneExpiry
  split
  · exact .refl _
  · exact (edits_suspendCounted _ _ _).behind (by simp)

/-! ### The arbiter -/

theorem State.edits_grant (s : State) (i : Nat) (g : Grant) : s.Edits (s.grant i g) :=
  ((edits_setDoc { s.unqueue g.box g.slot with mail := { (s.unqueue g.box g.slot).mail with lastServed := g.box } }
      g.slot (({ g.doc with state := .delivering, notBefore := none } : Doc).resumeAt g.point)).behind (by simp)).quiet
    (by simp [State.grant])

theorem State.edits_grants (s : State) (n : Nat) : s.Edits (s.grants n) := by
  induction n generalizing s with
  | zero => exact .refl _
  | succ n ih =>
    unfold State.grants
    split
    · exact (edits_grant _ _ _).trans (ih _)
    · exact .refl _

/-! ### Read completions, withdrawals and the loss of the office link -/

theorem State.edits_checkFailed (s : State) (r pos receipt : Nat) : s.Edits (s.checkFailed r pos receipt) := by
  unfold State.checkFailed
  split
  · next x _ hr =>
    split
    · exact .refl _
    · next f _ =>
      split
      · exact ((edits_setRecord (x := { x with finish := some { f with verdict := .damaged } }) hr rfl).trans
          (edits_setDoc _ _ _)).raise
      · exact .refl _
  · exact .refl _

theorem State.edits_takeBlock (s : State) (i r pos receipt : Nat) (bytes : List Byte) :
    s.Edits (s.takeBlock i r pos receipt bytes) := by
  unfold State.takeBlock
  dsimp only
  split
  · exact edits_quiet (by simp)
  · split
    · exact (edits_beginRead _ _ _ _ _).behind (by simp)
    · exact (edits_laneOn _ _).behind (by simp)

theorem State.edits_dropBlock (s : State) (i : Nat) : s.Edits (s.dropBlock i) :=
  (edits_withdrawalMayEnd _ i).behind (by simp)

theorem State.edits_readDone (s : State) (i r pos receipt : Nat) (bytes : List Byte) :
    s.Edits (s.readDone i r pos receipt bytes) := by
  unfold State.readDone
  split
  · split
    · exact edits_dropBlock _ _
    · exact edits_takeBlock _ _ _ _ _ _
  · exact ((edits_laneOn _ i).trans (edits_withdrawalMayEnd _ i)).behind (by simp)

theorem State.edits_completeRead (s : State) (i r pos receipt : Nat) {block : Nat} (decay : List (Nat × Byte))
    (hb : block < blockCount) : s.Edits (s.completeRead i r pos block receipt decay) := by
  unfold State.completeRead
  dsimp only
  refine (State.Edit.served.edits.trans (State.Edit.decayed block decay hb).edits).trans ?_
  split
  · exact edits_readDone _ _ _ _ _ _
  · exact (edits_checkFailed _ _ _ _).trans (edits_readDone _ _ _ _ _ _)

theorem State.edits_takeWithdrawal (s : State) (receipt : Nat) : s.Edits (s.takeWithdrawal receipt) := by
  unfold State.takeWithdrawal
  split
  · exact edits_completeDeferred _ _
  · exact edits_quiet (by simp)

theorem State.edits_lanesDown (s : State) (i n : Nat) : s.Edits (s.lanesDown i n) := by
  induction n generalizing s i with
  | zero => exact .refl _
  | succ n ih =>
    unfold State.lanesDown
    dsimp only
    split
    · exact ih _ _
    · exact (edits_suspendUncounted _ _ _).trans (ih _ _)

theorem State.edits_officeDown (s : State) : s.Edits s.officeDown := by
  unfold State.officeDown
  dsimp only
  exact (edits_lanesDown _ _ _).behind (by simp)

/-! ### Resets and the reports of the Office Port -/

theorem State.edits_coldReset (s : State) (cause : ResetCause) : s.Edits (s.coldReset cause) :=
  (State.Edit.reset s.pending (Management.afterReset cause ⟨0, 0⟩ false)).edits

theorem State.edits_restartReset (s : State) : s.Edits s.restartReset :=
  (State.Edit.reset s.pending (Management.afterReset .restart s.mgmt.tod s.mgmt.clockSet)).edits

theorem State.edits_laneFrameSent (s : State) (i : Nat) (f : OfficeFrame) : s.Edits (s.laneFrameSent i f) := by
  unfold State.laneFrameSent
  split
  · exact edits_quiet (by simp)
  · exact edits_quiet (by simp)
  · exact (edits_withdrawalMayEnd _ _).behind (by simp)
  · exact .refl _

theorem State.edits_laneSent (s : State) (i : Nat) (f : OfficeFrame) : s.Edits (s.laneSent i f) := by
  unfold State.laneSent
  dsimp only
  split
  · exact ((edits_laneFrameSent _ i f).trans (edits_laneOn _ i)).behind (by simp)
  · exact (edits_laneOn _ i).behind (by simp)

theorem State.edits_replyDone (s : State) (restart : Bool) : s.Edits (s.replyDone restart) := by
  unfold State.replyDone
  split
  · exact edits_restartReset _
  · exact edits_quiet (by simp)

theorem State.edits_sentTo (s : State) (h : Hander) (f : OfficeFrame) : s.Edits (s.sentTo h f) := by
  unfold State.sentTo
  split
  · exact edits_laneSent _ _ _
  · exact edits_replyDone _ _
  · exact edits_quiet (by simp)
  · exact .refl _

/-! ### The Table Unit -/

theorem State.edits_tables {s : State} {u : TableUnit} (h : s.tables.Edit u) :
    s.Edits { s with tables := u } := (State.Edit.tables u h).edits

theorem State.edits_staged {s : State} {u : TableUnit} (h : s.tables.Edit u) (r : ReqHead) (k : ReqKind) (t : TableId) :
    s.Edits (s.staged r k t u) := (edits_tables h).reply

theorem State.edits_completeCommit (s : State) (h : ReqHead) (t : TableId) : s.Edits (s.completeCommit h t) := by
  unfold State.completeCommit
  split
  · exact edits_quiet (by simp)
  · refine State.Edits.behind (t := s.swapEffects t) ?_ (by simp)
    exact (edits_tables (TableUnit.Edit.swap t)).reply

theorem State.edits_testResumes (s : State) : s.Edits s.testResumes :=
  (State.Edit.slots (fun e => match e.2 with
      | .claimed _ => e
      | .inUse d => if s.tables.resumeLost d then (e.1, .inUse d.restart) else e)
    (fun e => by (repeat' split) <;> rfl)).edits

/-! ### Requests -/

@[simp] theorem State.taking_frame (s : State) (src : Nat) :
    (s.taking src).store = s.store ∧ (s.taking src).docs = s.docs ∧ (s.taking src).tables = s.tables := by
  simp [State.taking, State.noteTaken]

@[simp] theorem State.answering_frame (s : State) (h : ReqHead) :
    (s.answering h).store = s.store ∧ (s.answering h).docs = s.docs ∧ (s.answering h).tables = s.tables := by
  simp [State.answering, State.noteTaken]

/-- A management request, whatever it does once it has the slot. -/
theorem State.edits_request (s : State) (h : ReqHead) (k : ReqKind) {f : State → State}
    (hf : ∀ a : State, a.Edits (f a)) : s.Edits (s.request h k f) := by
  unfold State.request
  split
  · exact edits_quiet (by simp)
  · split
    · exact edits_quiet (by simp)
    · split
      · exact edits_quiet (by simp)
      · exact (hf _).behind (by simp)

theorem State.edits_docRequest (s : State) (h : ReqHead) (k : ReqKind) (receipt : Nat)
    {f : State → Nat → Doc → State}
    (hf : ∀ (a : State) (slot : Nat) (d : Doc), a.Edits (f a slot d)) : s.Edits (s.docRequest h k receipt f) := by
  refine edits_request s h k (fun a => ?_)
  split
  · exact edits_quiet (by simp)
  · split
    · exact edits_quiet (by simp)
    · exact hf _ _ _

theorem State.edits_channelControl (s : State) (h : ReqHead) (ch : Nat) (f : Channel → Channel) :
    s.Edits (s.channelControl h ch f) := by
  refine edits_request s h .channelControl (fun a => ?_)
  split
  · exact edits_quiet (by simp)
  · exact edits_quiet (by simp)

theorem State.edits_mailboxControl (s : State) (h : ReqHead) (m : Nat) {f : State → State}
    (hf : ∀ a : State, a.Edits (f a)) : s.Edits (s.mailboxControl h m f) := by
  refine edits_request s h .mailboxControl (fun a => ?_)
  split
  · exact edits_quiet (by simp)
  · split
    · exact edits_quiet (by simp)
    · exact (hf a).quiet (by simp)

end Sys2Proof.Machine
end

section
/-! SUPPORT. Every command is a run of the changes of State.Edit, and answers a next state while the block numbers name
blocks of the store. -/

namespace Sys2Proof.Machine

open Sys2Proof.Config

/-- What a command that the reset input may hold back does to the three. -/
theorem State.edits_act {f : State → State} {s t : State} (h : act f s = .next t) (hf : s.Edits (f s)) :
    s.Edits t := by
  unfold act at h
  split at h
  · cases h
    exact .refl _
  · cases h
    exact hf

/-! ### Commands of the line port and the memory port -/

theorem State.edits_execCallOpen {s t : State} {ch : Nat} {part : CallOpenPart} (h : execCallOpen ch part s = .next t) :
    s.Edits t := by
  refine edits_act h ?_
  split
  · exact edits_lineFrame _ _ _ (fun a => edits_callOpen a _ _ _ _)
  · exact edits_carryOn _ _ _

theorem State.edits_execChannelIntakeAbort {s t : State} {ch : Nat} (h : execChannelIntakeAbort ch s = .next t) :
    s.Edits t := by
  refine edits_act h ?_
  dsimp only
  split
  · exact .refl _
  · refine (edits_carryOn s ch .done).trans ?_
    split
    · exact (edits_drop _ _ _).behind (by simp)
    · exact edits_quiet (by simp)

theorem State.edits_execWriteCompletion {s t : State} (h : execWriteCompletion s = .next t) : s.Edits t := by
  unfold execWriteCompletion at h
  split at h
  · split at h
    · next hb => exact edits_act h (edits_completeWrite _ _ _ _ hb)
    · cases h
  · exact edits_act h (.refl _)

theorem State.edits_execReadCompletion {s t : State} {decay : List (Nat × Byte)}
    (h : execReadCompletion decay s = .next t) : s.Edits t := by
  unfold execReadCompletion at h
  split at h
  · split at h
    · next hb => exact edits_act h (edits_completeRead _ _ _ _ _ _ hb)
    · cases h
  · exact edits_act h (.refl _)

theorem State.edits_execChannelLinkLoss {s t : State} {ch : Nat} (h : execChannelLinkLoss ch s = .next t) :
    s.Edits t := by
  refine edits_act h ?_
  split
  · exact edits_settle _ _
  · exact .refl _

theorem State.edits_execChannelSilenceExpiry {s t : State} {ch : Nat} (h : execChannelSilenceExpiry ch s = .next t) :
    s.Edits t := by
  refine edits_act h ?_
  split
  · exact .refl _
  · exact (edits_drop _ _ _).behind (by simp)

theorem State.edits_execReleaseTimerExpiry {s t : State} {ch : Nat} (h : execReleaseTimerExpiry ch s = .next t) :
    s.Edits t := by
  refine edits_act h ?_
  split
  · exact .refl _
  · exact ((edits_closeCall _ _ _).behind (by simp)).raise

/-! ### Commands of the delivery points, the lanes and the Office Port -/

theorem State.edits_execAccept {s t : State} {p receipt : Nat} (h : execAccept p receipt s = .next t) : s.Edits t := by
  refine edits_act h (edits_deliveryFrame _ _ _ fun a => edits_atReady _ _ fun b => ?_)
  split
  · exact edits_quiet (by simp)
  · exact edits_accepted _ _ _

theorem State.edits_execDecline {s t : State} {p receipt retry : Nat} (h : execDecline p receipt retry s = .next t) :
    s.Edits t := by
  refine edits_act h (edits_deliveryFrame _ _ _ fun a => edits_atReady _ _ fun b => ?_)
  split
  · exact edits_quiet (by simp)
  · exact edits_declined _ _ _ _ _ _

theorem State.edits_execPageAck {s t : State} {p slot : Nat} (h : execPageAck p slot s = .next t) : s.Edits t := by
  refine edits_act h (edits_deliveryFrame _ _ _ fun a => edits_atReady _ _ fun b => ?_)
  split
  · exact edits_quiet (by simp)
  · exact edits_pageAcked _ _ _ _ _

theorem State.edits_execPageNak {s t : State} {p slot : Nat} (h : execPageNak p slot s = .next t) : s.Edits t := by
  refine edits_act h (edits_deliveryFrame _ _ _ fun a => edits_atReady _ _ fun b => ?_)
  split
  · exact edits_quiet (by simp)
  · exact edits_pageRefused _ _ _ _ _

theorem State.edits_execFrameSentReport {s t : State} (h : execFrameSentReport s = .next t) : s.Edits t := by
  refine edits_act h ?_
  dsimp only
  split
  · exact .refl _
  · exact (edits_sentTo _ _ _).behind (by simp)

theorem State.edits_execFrameDiscardedReport {s t : State} {dest : Reportee}
    (h : execFrameDiscardedReport dest s = .next t) : s.Edits t := by
  refine edits_act h ?_
  dsimp only
  split
  · split
    · exact (edits_laneOn _ _).behind (by simp)
    · exact .refl _
  · split
    · exact (edits_replyDone _ _).behind (by simp)
    · exact edits_quiet (by simp)
    · exact .refl _

theorem State.edits_execOfficeSilenceExpiry {s t : State} (h : execOfficeSilenceExpiry s = .next t) : s.Edits t := by
  refine edits_act h ?_
  split
  · exact .refl _
  · exact (edits_officeDown _).behind (by simp)

theorem State.edits_execArbiterRound {s t : State} (h : execArbiterRound s = .next t) : s.Edits t := by
  refine edits_act h ?_
  dsimp only
  split
  · exact .refl _
  · exact (edits_grants _ _).behind (by simp)

theorem State.edits_execWithdrawalRequest {s t : State} (h : execWithdrawalRequest s = .next t) : s.Edits t := by
  refine edits_act h ?_
  dsimp only
  split
  · exact (edits_takeWithdrawal _ _).behind (by simp)
  · exact .refl _

/-! ### Commands that an owner takes of its own -/

theorem State.edits_execRetentionExpiry {s t : State} {receipt : Nat} (h : execRetentionExpiry receipt s = .next t) :
    s.Edits t := by
  refine edits_act h ?_
  split
  · exact .refl _
  · split
    · exact (edits_freeDoc _ _ _ _).behind (by simp)
    · exact .refl _

theorem State.edits_execPressureReleaseRequest {s t : State} (h : execPressureReleaseRequest s = .next t) :
    s.Edits t := by
  refine edits_act h ?_
  dsimp only
  split
  · exact .refl _
  · exact (edits_releaseRetained _).behind (by simp)

theorem State.edits_execAllIdleReport {s t : State} (h : execAllIdleReport s = .next t) : s.Edits t := by
  refine edits_act h ?_
  dsimp only
  repeat' split
  all_goals exact edits_quiet (by simp)

theorem State.edits_execCommitCompletion {s t : State} (h : execCommitCompletion s = .next t) : s.Edits t := by
  refine edits_act h ?_
  split
  · exact edits_completeCommit _ _ _
  · exact .refl _

theorem State.edits_execMailboxSwapEffects {s t : State} (h : execMailboxSwapEffects s = .next t) : s.Edits t := by
  refine edits_act h ?_
  dsimp only
  split
  · exact .refl _
  · exact ((edits_testResumes _).behind (by simp)).trigger

/-! ### Requests that reach the tables or the documents -/

theorem State.edits_execStagePut {s t : State} {r : ReqHead} {es : StageEntries} (h : execStagePut r es s = .next t) :
    s.Edits t := by
  refine edits_act h (edits_request _ _ _ fun a => ?_)
  split
  · split
    · exact edits_quiet (by simp)
    · next u hu => exact edits_staged (.put es u hu) _ _ _
  · exact edits_quiet (by simp)

theorem State.edits_execStageRemove {s t : State} {r : ReqHead} {ks : StageKeys}
    (h : execStageRemove r ks s = .next t) :
    s.Edits t := by
  refine edits_act h (edits_request _ _ _ fun a => ?_)
  split
  · exact (edits_tables (.remove ks)).reply
  · exact edits_quiet (by simp)

theorem State.edits_execSetReceiptBase {s t : State} {r : ReqHead} {base : Nat}
    (h : execSetReceiptBase r base s = .next t) : s.Edits t := by
  refine edits_act h (edits_request _ _ _ fun a => ?_)
  repeat' split
  all_goals exact edits_quiet (by simp)

theorem State.edits_execDocHold {s t : State} {r : ReqHead} {receipt : Nat} (h : execDocHold r receipt s = .next t) :
    s.Edits t := by
  refine edits_act h (edits_docRequest _ _ _ _ fun a slot d => ?_)
  split
  · exact (edits_holdDoc _ _ _).reply
  · exact edits_quiet (by simp)
  · exact edits_quiet (by simp)

theorem State.edits_execDocRelease {s t : State} {r : ReqHead} {receipt : Nat}
    (h : execDocRelease r receipt s = .next t) : s.Edits t := by
  refine edits_act h (edits_docRequest _ _ _ _ fun a slot d => ?_)
  split
  · split
    · exact (edits_releaseRouted _ _ _).reply
    · exact (edits_releaseTo _ _ _ _).reply
  · split
    · exact ((edits_releaseRouted _ _ _).behind (by simp)).reply
    · exact edits_quiet (by simp)
  · exact edits_quiet (by simp)

theorem State.edits_execDocReroute {s t : State} {r : ReqHead} {receipt target : Nat}
    (h : execDocReroute r receipt target s = .next t) : s.Edits t := by
  refine edits_act h (edits_request _ _ _ fun a => ?_)
  split
  · exact edits_quiet (by simp)
  · split
    · split
      · exact edits_rerouteNow _ _ _ _ _ _
      · exact edits_rerouteNow _ _ _ _ _ _
      · exact edits_quiet (by simp)
      · exact edits_quiet (by simp)
    · exact edits_quiet (by simp)

theorem State.edits_execDocPurge {s t : State} {r : ReqHead} {receipt : Nat} (h : execDocPurge r receipt s = .next t) :
    s.Edits t := by
  refine edits_act h (edits_docRequest _ _ _ _ fun a slot d => ?_)
  split
  · exact edits_quiet (by simp)
  · exact edits_quiet (by simp)
  · exact (edits_freeDoc _ _ _ _).reply

theorem State.edits_execMailboxResume {s t : State} {r : ReqHead} {m : Nat} (h : execMailboxResume r m s = .next t) :
    s.Edits t := by
  refine edits_act h (edits_mailboxControl _ _ _ fun a => ?_)
  split
  · exact .refl _
  · exact edits_quiet (by simp)

/-! ### Every command -/

/-- All that a command can do to the page store, the document slots and the loaded tables. -/
theorem exec_edits {c : Instr} {s t : State} (h : exec c s = .next t) : s.Edits t := by
  cases c <;> dsimp only [exec] at h
  case callOpen ch part => exact State.edits_execCallOpen h
  case senderInfo ch ident => exact State.edits_act h (State.edits_lineFrame _ _ _ fun a => a.edits_senderInfo _ _)
  case pageStart ch page res width =>
    exact State.edits_act h (State.edits_lineFrame _ _ _ fun a => a.edits_pageStart _ _ _ _)
  case pageData ch seq payload => exact State.edits_act h (State.edits_lineFrame _ _ _ fun a => a.edits_pageData _ _ _)
  case pageEnd ch lines errs verdict =>
    exact State.edits_act h (State.edits_lineFrame _ _ _ fun a => a.edits_pageEnd _ _)
  case callClose ch cause => exact State.edits_act h (State.edits_lineFrame _ _ _ fun a => a.edits_callClose _ _)
  case channelLinkLoss ch => exact State.edits_execChannelLinkLoss h
  case channelSilenceExpiry ch => exact State.edits_execChannelSilenceExpiry h
  case releaseTimerExpiry ch => exact State.edits_execReleaseTimerExpiry h
  case channelIntakeAbort ch => exact State.edits_execChannelIntakeAbort h
  case allIdleReport => exact State.edits_execAllIdleReport h
  case writeCompletion => exact State.edits_execWriteCompletion h
  case readCompletion decay => exact State.edits_execReadCompletion h
  case pointUp p => exact State.edits_act h (State.edits_deliveryFrame _ _ _ fun a => a.edits_pointUp _)
  case pointDown p => exact State.edits_act h (State.edits_deliveryFrame _ _ _ fun a => a.edits_pointDown _)
  case accept p receipt => exact State.edits_execAccept h
  case decline p receipt retry => exact State.edits_execDecline h
  case intakePost p slot cap =>
    exact State.edits_act h
      (State.edits_deliveryFrame _ _ _ fun a => a.edits_atReady _ fun b => b.edits_intakePost _ _ _)
  case pageAck p slot => exact State.edits_execPageAck h
  case pageNak p slot => exact State.edits_execPageNak h
  case officeSilenceExpiry => exact State.edits_execOfficeSilenceExpiry h
  case frameSentReport => exact State.edits_execFrameSentReport h
  case frameDiscardedReport dest => exact State.edits_execFrameDiscardedReport h
  case acceptTimerExpiry l => exact State.edits_act h (s.edits_laneExpiry _ _ _)
  case ackTimerExpiry l buf => exact State.edits_act h (s.edits_laneExpiry _ _ _)
  case intakeWaitExpiry l => exact State.edits_act h (s.edits_laneExpiry _ _ _)
  case retentionExpiry receipt => exact State.edits_execRetentionExpiry h
  case arbiterRound => exact State.edits_execArbiterRound h
  case withdrawalRequest => exact State.edits_execWithdrawalRequest h
  case pressureReleaseRequest => exact State.edits_execPressureReleaseRequest h
  case commitCompletion => exact State.edits_execCommitCompletion h
  case mailboxSwapEffects => exact State.edits_execMailboxSwapEffects h
  case powerOnReset => cases h; exact (s.edits_coldReset .powerOn).quiet (by simp)
  case pinResetAssert =>
    unfold execPinResetAssert at h
    split at h
    · cases h; exact .refl _
    · cases h; exact (s.edits_coldReset .pin).quiet (by simp)
  case pinResetRelease =>
    unfold execPinResetRelease at h
    split at h
    · cases h; exact .refl _
    · cases h; exact s.edits_coldReset _
  case setReceiptBase r base => exact State.edits_execSetReceiptBase h
  case channelRead r ch => exact State.edits_act h (s.edits_channelControl _ _ _)
  case channelEnable r ch => exact State.edits_act h (s.edits_channelControl _ _ _)
  case channelDisable r ch => exact State.edits_act h (s.edits_channelControl _ _ _)
  case channelClearErrors r ch => exact State.edits_act h (s.edits_channelControl _ _ _)
  case stageClear r t => exact State.edits_act h (s.edits_request _ _ fun a => State.edits_staged (.clear t) _ _ _)
  case stageRevert r t => exact State.edits_act h (s.edits_request _ _ fun a => State.edits_staged (.revert t) _ _ _)
  case stagePut r entries => exact State.edits_execStagePut h
  case stageRemove r keys => exact State.edits_execStageRemove h
  case mailboxOpen r m => exact State.edits_act h (s.edits_mailboxControl _ _ fun a => State.edits_quiet (by simp))
  case mailboxClose r m => exact State.edits_act h (s.edits_mailboxControl _ _ fun a => State.edits_quiet (by simp))
  case mailboxResume r m => exact State.edits_execMailboxResume h
  case mailboxPause r m => exact State.edits_act h (s.edits_mailboxControl _ _ fun a => State.edits_quiet (by simp))
  case docRead r receipt =>
    exact State.edits_act h (s.edits_docRequest _ _ _ fun a slot d => State.edits_quiet (by simp))
  case docHold r receipt => exact State.edits_execDocHold h
  case docRelease r receipt => exact State.edits_execDocRelease h
  case docReroute r receipt target => exact State.edits_execDocReroute h
  case docPurge r receipt => exact State.edits_execDocPurge h
  case linkAlive | badLineFrame | officeLinkAlive | foreignOfficeFrame | timeOfDayLimit =>
    exact State.edits_act h (State.edits_quiet (by simp))
  case lineSilenceExpiry | lineFrameSent | badOfficeFrame | officeKeepaliveSend | officeLinkStateReport
  | notBeforeReached | pressureParameterChange | lowMarkInstall | silenceTimeoutInstall | countClear
  | noticeOccurrence | pointSwapEffects | unknownRequest =>
    refine State.edits_act h ?_
    repeat' split
    all_goals exact State.edits_quiet (by simp)
  case readStatus | readFlags | clearFlags | setParameters | readParameters | setClock | ackRestart | restart
  | intakeOpen | intakeDrain | intakeAbort | deliveryRun | deliveryStop | stageRead | tableRead | commit
  | mailboxControlRead | mailboxRead | pointRead | docList | docPages | journalRead | journalRelease =>
    refine State.edits_act h (s.edits_request _ _ fun a => ?_)
    repeat' split
    all_goals exact State.edits_quiet (by simp)

/-- All that a step can do to the three. -/
theorem step_edits {s t : State} (h : step s = .next t) : s.Edits t := by
  unfold step at h
  split at h
  · cases h
    unfold tick
    split
    · exact .refl _
    · exact State.edits_quiet (by simp)
  · exact (exec_edits h).behind (by simp)

end Sys2Proof.Machine
end

section
/-! PROOFS. What every step keeps: the canonical form of the store's bytes and of the keyed collections, and block
numbers that name blocks of the store. -/

namespace Sys2Proof.Machine

open Sys2Proof.Config

theorem act_next (f : State → State) (s : State) : ∃ t, act f s = .next t := by
  unfold act
  split <;> exact ⟨_, rfl⟩

/-- R1: a port operation on a block of the store is served, or the queue holds no such operation. -/
theorem exec_writeCompletion_next {s : State} (h : s.blocksOk) : ∃ t, exec .writeCompletion s = .next t := by
  obtain ⟨_, _, hp⟩ := h
  change ∃ t, execWriteCompletion s = .next t
  unfold execWriteCompletion
  split
  · next ch b r block rest ho =>
    have hb : block < blockCount := hp (.write ch b r block) (by simp [ho])
    rw [if_pos hb]
    exact act_next _ _
  · exact act_next _ _

theorem exec_readCompletion_next {s : State} (decay : List (Nat × Byte)) (h : s.blocksOk) :
    ∃ t, exec (.readCompletion decay) s = .next t := by
  obtain ⟨_, _, hp⟩ := h
  change ∃ t, execReadCompletion decay s = .next t
  unfold execReadCompletion
  split
  · next i r pos block receipt rest ho =>
    have hb : block < blockCount := hp (.read i r pos block receipt) (by simp [ho])
    rw [if_pos hb]
    exact act_next _ _
  · exact act_next _ _

/-- No command faults and none is refused while every block number names a block of the store. -/
theorem exec_next {s : State} (c : Instr) (h : s.blocksOk) : ∃ t, exec c s = .next t := by
  cases c <;> dsimp only [exec]
  case writeCompletion => exact exec_writeCompletion_next h
  case readCompletion decay => exact exec_readCompletion_next decay h
  case powerOnReset => exact ⟨_, rfl⟩
  case pinResetAssert =>
    unfold execPinResetAssert
    split <;> exact ⟨_, rfl⟩
  case pinResetRelease =>
    unfold execPinResetRelease
    split <;> exact ⟨_, rfl⟩
  all_goals exact act_next _ s

theorem step_next {s : State} (h : s.blocksOk) : ∃ t, step s = .next t := by
  unfold step
  split
  · exact ⟨_, rfl⟩
  · exact exec_next _ h

/-- R1, log 34: an operation on a block beyond the store stops the write completion. -/
theorem exec_writeCompletion_fault {s : State} {ch r block : Nat} {b : BufId} {rest : List PortOp}
    (hp : s.store.port = .write ch b r block :: rest) (hb : 16384 ≤ block) :
    exec .writeCompletion s = .fault .noSuchBlock := by
  change execWriteCompletion s = _
  simp [execWriteCompletion, hp, blockCount, not_lt.2 hb]

theorem exec_readCompletion_fault {s : State} {i r pos block receipt : Nat} {rest : List PortOp}
    (decay : List (Nat × Byte)) (hp : s.store.port = .read i r pos block receipt :: rest) (hb : 16384 ≤ block) :
    exec (.readCompletion decay) s = .fault .noSuchBlock := by
  change execReadCompletion decay s = _
  simp [execReadCompletion, hp, blockCount, not_lt.2 hb]

/-- Settles O5: every step is a run of the changes of State.Edit, and each of them keeps both forms. -/
theorem stepsKeepCollectionsCanonical : Obligations.StepsKeepCollectionsCanonical :=
  ⟨fun _ _ hs h => (step_edits h).keep (fun _ _ e => e.bytesOk) hs,
    fun _ _ hs h => (step_edits h).keep (fun _ _ e => e.tablesOk) hs⟩

/-- Settles O6: exec_next answers a next state, step_edits keeps the block numbers, and the two completions read the
block of the head of the port queue before anything else. -/
theorem stepsNeverStop : Obligations.StepsNeverStop := by
  refine ⟨fun s hs => ?_, fun s op rest decay hp hb => ⟨?_, ?_⟩⟩
  · obtain ⟨t, ht⟩ := step_next hs
    exact ⟨t, ht, (step_edits ht).keep (fun _ _ e => e.blocksOk) hs⟩
  · rintro ch b r k rfl
    exact exec_writeCompletion_fault hp hb
  · rintro i r pos k n rfl
    exact exec_readCompletion_fault decay hp hb

end Sys2Proof.Machine
end

section
/-! PROOFS. Finalization of a page (R11, R43, R44), and a block write served at the memory port (R5, R6, R10, R40). -/

namespace Sys2Proof.Machine

open Sys2Proof.Config

/-! ### Finalization -/

/-- R42 to R44: what finalization chooses between, for a page under construction whose end has been taken. -/
theorem State.finalize_eq {s : State} {ch r slot : Nat} {e : PageEnd} {x : PageRecord}
    (hp : (s.channel ch).page = some r) (he : (s.channel ch).ended = some e) (hd : (s.channel ch).doc = some slot)
    (hr : s.record r = some x) :
    s.finalize ch =
      if x.length = 0 ∧ 2 ≤ (s.channel ch).resends then (s.cut ch).drop ch .pageEmpty
      else if (x.length = 0 ∨ pageVerdict (s.channel ch).mark e.verdict = .damaged)
          ∧ (s.channel ch).resends < 2 then
        s.resendPage ch r
      else s.joinPage ch r slot x ⟨e.lines, e.errs, pageVerdict (s.channel ch).mark e.verdict⟩ := by
  simp [State.finalize, hp, he, hd, hr]

theorem State.cut_eq {s : State} {ch slot : Nat} {d : Doc} (hc : (s.channel ch).doc = some slot)
    (hd : s.doc slot = some d) : s.cut ch = s.setDoc slot { d with incomplete := true } := by
  simp [State.cut, hc, State.updDoc, hd]

/-- R11, R43: a page that joins its document. -/
theorem State.joinPage_eq {s : State} {slot : Nat} {d : Doc} (ch r : Nat) (x : PageRecord) (f : Finish)
    (hd : s.doc slot = some d) :
    s.joinPage ch r slot x f =
      ((((s.setRecord r { x with finish := some f }).setChannel ch ((s.channel ch).pageDone 0)).sendLine ch
          (.confirm .accepted)).setDoc slot { d with
            pages := d.pages ++ [r], damaged := d.damaged + (if f.verdict = .damaged then 1 else 0) }).heldUp
        d.current 1 := by
  have hkeep : (((s.setRecord r { x with finish := some f }).setChannel ch ((s.channel ch).pageDone 0)).sendLine ch
      (.confirm .accepted)).doc slot = some d := by
    rw [← hd]
    simp [State.doc]
  simp only [State.joinPage, hkeep]

/-- Settles O22: the three branches of State.finalize_eq, told apart by the length, the verdict and the resends. -/
theorem finalizationOutcomes : Obligations.FinalizationOutcomes := by
  intro s ch r slot e x d _ hp he hc hr hd c v freed after
  have hv : pageVerdict c.mark e.verdict = v := rfl
  have hafter : ∀ n, c.pageDone n = after n := fun _ => rfl
  rw [State.finalize_eq hp he hc hr, hv]
  refine ⟨fun hbad hfew => ?_, fun hlen hgood => ?_, fun hlen hmany => ?_⟩
  · have hlast : ¬ 2 ≤ c.resends := Nat.not_le.2 (Nat.lt_succ_of_le hfew)
    rw [if_neg (fun h => hlast h.2), if_pos ⟨hbad, Nat.lt_succ_of_le hfew⟩, ← hafter]
    rfl
  · have hjoin : ¬ ((x.length = 0 ∨ v = .damaged) ∧ c.resends < 2) := by
      rintro ⟨hzero | hdam, hfew⟩
      · exact hlen hzero
      · exact hgood.elim (fun h => h hdam) (Nat.not_le.2 hfew)
    rw [if_neg (fun h => hlen h.1), if_neg hjoin, State.joinPage_eq ch r x _ hd, ← hafter]
  · rw [if_pos ⟨hlen, hmany⟩, State.cut_eq hc hd]

/-! ### A block write served -/

@[simp] theorem Channel.setBuf_frame (c : Channel) (b : BufId) (x : Buffer) :
    (c.setBuf b x).page = c.page ∧ (c.setBuf b x).ended = c.ended ∧ (c.setBuf b x).discards = c.discards := by
  cases b <;> simp [Channel.setBuf]

/-- R40: the completion of a write of the page under construction. -/
theorem State.writeDone_page {s : State} {ch r : Nat} (b : BufId) (hc : ch < s.calls.channels.length)
    (hp : (s.channel ch).page = some r) :
    s.writeDone ch b r =
      if (s.channel ch).ended.isSome = true ∧ s.writing ch r = false then (s.setBuf ch b .empty).finalize ch
      else s.setBuf ch b .empty := by
  have hch : (s.setBuf ch b .empty).channel ch = (s.channel ch).setBuf b .empty := channel_setChannel s ch _ hc
  have hw : (s.setBuf ch b .empty).writing ch r = s.writing ch r := rfl
  cases he : (s.channel ch).ended.isSome <;> cases hwr : s.writing ch r <;>
    simp [State.writeDone, State.finalizeIfDone, hch, hw, hp, he, hwr]

/-- R40 step 3: the completion of a write of another page. -/
theorem State.writeDone_other {s : State} {ch r : Nat} (b : BufId) (hc : ch < s.calls.channels.length)
    (hp : (s.channel ch).page ≠ some r) :
    s.writeDone ch b r =
      if r ∈ (s.channel ch).discards ∧ s.writing ch r = false then
        ((s.setBuf ch b .empty).setChannel ch { (s.setBuf ch b .empty).channel ch with
          discards := (s.channel ch).discards.filter (fun k => k != r) }).discardPage r
      else s.setBuf ch b .empty := by
  have hch : (s.setBuf ch b .empty).channel ch = (s.channel ch).setBuf b .empty := channel_setChannel s ch _ hc
  have hw : (s.setBuf ch b .empty).writing ch r = s.writing ch r := rfl
  simp [State.writeDone, State.heldDiscard, hch, hw, hp]

/-- R10: a page record in use whose page has grown. -/
theorem State.growRecord_eq {s : State} {r : Nat} {x : PageRecord} (hr : s.record r = some x) (n : Nat) :
    s.growRecord r n = s.setRecord r { x with length := x.length + n } := by
  simp [State.growRecord, hr]

/-- R5, R6, R10: the store after a block write served. -/
def State.written (s : State) (r block : Nat) (x : PageRecord) (bytes : List Byte) (rest : List PortOp) : State :=
  { s with store := { s.store with
    port := rest
    mem := Memory.writeBlock block bytes s.store.mem
    blocks := tablePut block { used := bytes.length, check := crc16 bytes } s.store.blocks
    records := tablePut r { x with length := x.length + bytes.length } s.store.records } }

/-- R5, R40: a write completion of a channel with no decision under way. -/
theorem exec_writeCompletion_eq {s : State} {ch r block : Nat} {b : BufId} {rest : List PortOp} {x : PageRecord}
    (ha : s.awake) (hp : s.store.port = .write ch b r block :: rest) (hb : block < 16384)
    (hd : (s.channel ch).decision = none) (hr : s.record r = some x) :
    exec .writeCompletion s = .next ((s.written r block x ((s.channel ch).buf b).bytes rest).writeDone ch b r) := by
  have hstored : (s.portDone.storeBlock block ((s.channel ch).buf b).bytes).record r = some x := hr
  have hgrow : ((s.portDone.storeBlock block ((s.channel ch).buf b).bytes).growRecord r
      ((s.channel ch).buf b).bytes.length) = s.written r block x ((s.channel ch).buf b).bytes rest := by
    rw [State.growRecord_eq hstored]
    simp [State.written, State.setRecord, State.storeBlock, State.portDone, hp]
  have hon : (s.written r block x ((s.channel ch).buf b).bytes rest).carryOn ch .done
      = s.written r block x ((s.channel ch).buf b).bytes rest := State.carryOn_none _ _ _ hd
  have hc : s.completeWrite ch b r block
      = (s.written r block x ((s.channel ch).buf b).bytes rest).writeDone ch b r := by
    simp only [State.completeWrite, hgrow, hon]
  change execWriteCompletion s = _
  simp only [execWriteCompletion, hp, blockCount, if_pos hb, act_awake _ s ha, hc]

/-! ### The bytes of a block written -/

theorem Memory.read_writeRun_inside (bytes : List Byte) (a k : Nat) (mem : List Host.Cell)
    (hw : Memory.wf mem = true) (hs : a + bytes.length ≤ Memory.size) (hk : k < bytes.length) :
    Memory.read (a + k) (Memory.writeRun a bytes mem) = bytes.getD k 0 := by
  induction bytes generalizing a k mem with
  | nil => simp at hk
  | cons b t ih =>
    simp only [List.length_cons] at hs hk
    simp only [Memory.writeRun]
    cases k with
    | zero => rw [Nat.add_zero, Memory.read_writeRun_outside _ _ _ _ (by omega), Memory.read_write_same _ _ _ hw]; simp
    | succ k =>
      rw [show a + (k + 1) = a + 1 + k by omega,
        ih (a + 1) k _ (Memory.write_wf mem a b (by omega) hw) (by omega) (by omega)]
      simp

/-- A run reads as a list where each of its addresses reads as the list's byte. -/
theorem Memory.readRun_eq (bytes : List Byte) (a : Nat) (mem : List Host.Cell)
    (h : ∀ k, k < bytes.length → Memory.read (a + k) mem = bytes.getD k 0) :
    Memory.readRun a bytes.length mem = bytes := by
  induction bytes generalizing a with
  | nil => rfl
  | cons b t ih =>
    have hhead : Memory.read a mem = b := by simpa using h 0 (by simp)
    have htail : Memory.readRun (a + 1) t.length mem = t :=
      ih (a + 1) (fun k hk => by simpa [Nat.add_assoc, Nat.add_comm 1 k] using h (k + 1) (by simpa using hk))
    simp [Memory.readRun, hhead, htail]

theorem Memory.writeBlock_eq (block : Nat) (bytes : List Byte) (mem : List Host.Cell) (h : bytes.length ≤ 4096) :
    Memory.writeBlock block bytes mem = Memory.writeRun (block * 4096) bytes mem := by
  simp only [Memory.writeBlock, blockBytes, List.take_of_length_le h]

theorem Memory.read_writeBlock_inside (block k : Nat) (bytes : List Byte) (mem : List Host.Cell)
    (hw : Memory.wf mem = true) (hb : block < 16384) (hl : bytes.length ≤ 4096) (hk : k < bytes.length) :
    Memory.read (block * 4096 + k) (Memory.writeBlock block bytes mem) = bytes.getD k 0 := by
  rw [Memory.writeBlock_eq block bytes mem hl]
  exact Memory.read_writeRun_inside bytes _ k mem hw (by simp only [Memory.size, blockCount, blockBytes]; omega) hk

/-- Settles O25: the completion runs writeDone on the store with the bytes written, whose branches are the four cases;
the bytes by induction on the run written. -/
theorem writeCompletes : Obligations.WriteCompletes := by
  refine ⟨fun s ch r block b rest x ha hp hb hd hr => ?_, fun mem block bytes hw hb hl => ⟨?_, ?_, ?_⟩⟩
  · intro bytes w v more run hc
    have hrun : run = .next (w.writeDone ch b r) := exec_writeCompletion_eq ha hp hb hd hr
    have hmore : w.writing ch r = more := rfl
    rw [hrun]
    refine ⟨fun hpage hwait => ?_, fun hpage hend hlast => ?_, fun hpage hwait => ?_, fun hpage hdisc hlast => ?_⟩
    · rw [State.writeDone_page (s := w) b hc hpage, hmore, if_neg]
      · rfl
      · rintro ⟨hsome, hlast⟩
        obtain hnone | hmore := hwait
        · have := Option.isSome_iff_ne_none.1 hsome
          exact this hnone
        · simp [hmore] at hlast
    · rw [State.writeDone_page (s := w) b hc hpage, hmore, if_pos ⟨Option.isSome_iff_ne_none.2 hend, hlast⟩]
      rfl
    · rw [State.writeDone_other (s := w) b hc hpage, hmore, if_neg]
      · rfl
      · rintro ⟨hin, hlast⟩
        obtain hout | hmore := hwait
        · exact hout hin
        · simp [hmore] at hlast
    · rw [State.writeDone_other (s := w) b hc hpage, hmore, if_pos ⟨hdisc, hlast⟩]
      rfl
  · exact fun k hk => Memory.read_writeBlock_inside block k bytes mem hw hb hl hk
  · intro a ha
    rw [Memory.writeBlock_eq block bytes mem hl]
    exact Memory.read_writeRun_outside bytes _ a mem ha
  · exact Memory.readRun_eq bytes _ _ (fun k hk => Memory.read_writeBlock_inside block k bytes mem hw hb hl hk)

end Sys2Proof.Machine
end

section
/-! PROOFS. A block read served at the memory port: its bytes to the lane, and a failed check (R6, R7, R135, R152, R155,
R156). -/

namespace Sys2Proof.Machine

open Sys2Proof.Config

/-! ### What a lane is after an operation on it -/

/-- A lane written reads back, or there is no such lane. -/
theorem State.lane_setLane_or (s : State) (i : Nat) (x : Lane) :
    (s.setLane i x).lane i = x ∨ ((s.setLane i x).lane i = Lane.initial ∧ s.lane i = Lane.initial) := by
  obtain h | h := lt_or_ge i s.delivery.lanes.length
  · exact .inl (lane_setLane s i x h)
  · exact .inr (by simp [State.lane, h])

theorem Lane.derived_ne_withdrawing (l : Lane) : l.derived ≠ .withdrawing := by
  unfold Lane.derived
  repeat' split
  all_goals simp

theorem State.state_handLane (s : State) (i : Nat) : ((s.handLane i).lane i).state = (s.lane i).state := by
  unfold State.handLane
  split
  · next f rest _ _ =>
    have hframe : ∀ x : State, (x.handOffice (.lane i) f).lane i = x.lane i := fun x => by simp [State.lane]
    rw [hframe]
    obtain h | ⟨h, hs⟩ := lane_setLane_or s i { s.lane i with produced := rest, pending := .current }
    · rw [h]
    · rw [h, hs]
  · rfl

/-- R135 to R138: a lane that goes on does not enter WITHDRAWING. -/
theorem State.state_laneOn_ne {s : State} {i : Nat} (h : (s.lane i).state ≠ .withdrawing) :
    ((s.laneOn i).lane i).state ≠ .withdrawing := by
  unfold State.laneOn
  split
  · dsimp only
    rw [state_handLane]
    obtain hl | ⟨hl, _⟩ := lane_setLane_or ((s.laneReads i).laneBegins i) i
      { ((s.laneReads i).laneBegins i).lane i with state := (((s.laneReads i).laneBegins i).lane i).derived }
    · rw [hl]
      exact Lane.derived_ne_withdrawing _
    · rw [hl]
      decide
  · rwa [state_handLane]

/-- R156: only a lane in WITHDRAWING has a withdrawal to end. -/
theorem State.withdrawalMayEnd_eq {s : State} {i : Nat} (h : (s.lane i).state ≠ .withdrawing) :
    s.withdrawalMayEnd i = s := by
  simp [State.withdrawalMayEnd, h]

/-- In WITHDRAWING a lane neither reads nor begins a page. -/
theorem State.laneOn_withdrawing {s : State} {i : Nat} (h : (s.lane i).state = .withdrawing) :
    s.laneOn i = s.handLane i := by
  simp [State.laneOn, h, LaneState.transfers]

/-! ### A failed check (R7, R152) -/

theorem State.checkFailed_damages {s : State} {r slot receipt : Nat} {d : Doc} {x : PageRecord} {f : Finish}
    (pos : Nat) (hd : s.docOf receipt = some (slot, d)) (hr : s.record r = some x) (hf : x.finish = some f)
    (hv : f.verdict ≠ .damaged) (hin : r ∈ d.pages) :
    s.checkFailed r pos receipt
      = (((s.setRecord r { x with finish := some { f with verdict := .damaged } }).setDoc slot
            { d with damaged := d.damaged + 1 }).raise .pageStore (.pageDamaged receipt x.number pos)) := by
  simp [State.checkFailed, hd, hr, hf, hv, hin]

theorem State.checkFailed_keeps {s : State} {r slot receipt : Nat} {d : Doc} {x : PageRecord} {f : Finish}
    (pos : Nat) (hd : s.docOf receipt = some (slot, d)) (hr : s.record r = some x) (hf : x.finish = some f)
    (h : f.verdict = .damaged ∨ r ∉ d.pages) : s.checkFailed r pos receipt = s := by
  have hnot : ¬ (d.pages.contains r = true ∧ f.verdict ≠ .damaged) := by
    rintro ⟨hin, hv⟩
    exact h.elim hv (fun hout => hout (by simpa using hin))
  simp only [State.checkFailed, hd, hr, hf, if_neg hnot]

/-- A failed check leaves the page its blocks. -/
theorem State.blocksOf_checkFailed (s : State) (r pos receipt : Nat) :
    (s.checkFailed r pos receipt).blocksOf r = s.blocksOf r := by
  unfold State.checkFailed
  split
  · next hr =>
    split
    · rfl
    · split
      · rw [State.blocksOf, State.blocksOf, hr]
        simp [State.record]
      · rfl
  · rfl

/-! ### A block read served -/

/-- R135: the bytes of a block put after those a lane has. -/
theorem State.readDone_live {s : State} {i : Nat} (r pos receipt : Nat) (bytes : List Byte) {b : BufId} {k : Nat}
    {held : List Byte} (hl : (s.lane i).reading = .live) (hw : (s.lane i).state ≠ .withdrawing)
    (hb : (s.lane i).readingBuf = some (b, k, held)) :
    s.readDone i r pos receipt bytes =
      if pos < (s.blocksOf r).length then
        (s.setLane i ((s.lane i).setBuf b (.reading k (held ++ bytes)))).beginRead i r (pos + 1) receipt
      else (s.setLane i { (s.lane i).setBuf b (.read k (held ++ bytes)) with
        order := (s.lane i).order ++ [b], reading := .none }).laneOn i := by
  simp [State.readDone, State.takeBlock, hl, hw, hb]

/-- R155: the bytes of a block dropped in WITHDRAWING. -/
theorem State.readDone_withdrawing {s : State} {i : Nat} (r pos receipt : Nat) (bytes : List Byte) {b : BufId} {k : Nat}
    {held : List Byte} (hl : (s.lane i).reading = .live) (hw : (s.lane i).state = .withdrawing)
    (hb : (s.lane i).readingBuf = some (b, k, held)) :
    s.readDone i r pos receipt bytes
      = (s.setLane i { (s.lane i).setBuf b .empty with reading := .none }).withdrawalMayEnd i := by
  simp [State.readDone, State.dropBlock, hl, hw, hb]

/-- R152: a read that an ended delivery of the lane left behind, or that the lane does not know of. -/
theorem State.readDone_abandoned {s : State} {i : Nat} (r pos receipt : Nat) (bytes : List Byte)
    (hl : (s.lane i).reading ≠ .live) :
    s.readDone i r pos receipt bytes
      = ((s.setLane i { s.lane i with reading := .none }).laneOn i).withdrawalMayEnd i := by
  unfold State.readDone
  split
  · contradiction
  · rfl

/-- The state of a lane whose read is no longer in flight is the one before. -/
theorem State.state_readEnded (s : State) (i : Nat) :
    ((s.setLane i { s.lane i with reading := .none }).lane i).state = (s.lane i).state := by
  obtain h | ⟨h, hs⟩ := lane_setLane_or s i { s.lane i with reading := .none }
  · rw [h]
  · rw [h, hs]

theorem exec_readCompletion_eq {s : State} {i r pos block receipt : Nat} {rest : List PortOp}
    (decay : List (Nat × Byte)) (ha : s.awake) (hp : s.store.port = .read i r pos block receipt :: rest)
    (hb : block < 16384) :
    exec (.readCompletion decay) s = .next (s.completeRead i r pos block receipt decay) := by
  change execReadCompletion decay s = _
  simp only [execReadCompletion, hp, blockCount, if_pos hb, act_awake _ s ha]

theorem State.portDone_decayBlock {s : State} {op : PortOp} {rest : List PortOp} (hp : s.store.port = op :: rest)
    (block : Nat) (decay : List (Nat × Byte)) :
    s.portDone.decayBlock block decay
      = { s with store := { s.store with port := rest, mem := Memory.decay block decay s.store.mem } } := by
  simp [State.portDone, State.decayBlock, hp]

/-- R6, R7: a read served in terms of the store as the block then stands. -/
theorem State.completeRead_eq (s : State) (i r pos block receipt : Nat) (decay : List (Nat × Byte)) :
    s.completeRead i r pos block receipt decay =
      (if crc16 ((s.portDone.decayBlock block decay).blockBytesOf block) = (s.block block).check
        then s.portDone.decayBlock block decay
        else (s.portDone.decayBlock block decay).checkFailed r pos receipt).readDone i r pos receipt
          ((s.portDone.decayBlock block decay).blockBytesOf block) := by
  have hblock : (s.portDone.decayBlock block decay).block block = s.block block := rfl
  simp [State.completeRead, State.blockPasses, hblock]

/-- Settles O26: State.completeRead_eq gives the store the lane acts on, whose lane and blocks are those before, and the
readDone lemmas what it does with the bytes. -/
theorem readCompletes : Obligations.ReadCompletes := by
  refine ⟨fun s i r pos block receipt rest decay ha hp hb => ?_, fun s r pos receipt slot d x f hd hr hf =>
    ⟨State.checkFailed_damages pos hd hr hf, State.checkFailed_keeps pos hd hr hf⟩⟩
  intro s1 at1 bytes s2 l run
  have hs1 : s.portDone.decayBlock block decay = s1 := State.portDone_decayBlock hp block decay
  have hrun : run = .next (s2.readDone i r pos receipt bytes) := by
    have hexec : run = _ := exec_readCompletion_eq decay ha hp hb
    rw [hexec, State.completeRead_eq, hs1]
    rfl
  have hl : s2.lane i = l := by
    change (if _ then s1 else s1.checkFailed r pos receipt).lane i = s1.lane i
    split
    · rfl
    · simp [State.lane]
  have hblocks : s2.blocksOf r = s.blocksOf r := by
    change (if _ then s1 else s1.checkFailed r pos receipt).blocksOf r = s1.blocksOf r
    split
    · rfl
    · exact State.blocksOf_checkFailed s1 r pos receipt
  have hstate := s2.state_readEnded i
  rw [← hl, ← hblocks, hrun]
  refine ⟨fun b k held hlive hw hbuf => ⟨fun hmore => ?_, fun hlast => ?_⟩, fun b k held hlive hw hbuf => ?_,
    fun hlive => ⟨fun hw => ?_, fun hw => ?_⟩⟩
  · rw [State.readDone_live r pos receipt bytes hlive hw hbuf, if_pos hmore]
  · rw [State.readDone_live r pos receipt bytes hlive hw hbuf, if_neg (Nat.not_lt.2 hlast)]
  · rw [State.readDone_withdrawing r pos receipt bytes hlive hw hbuf]
  · rw [State.readDone_abandoned r pos receipt bytes hlive,
      State.withdrawalMayEnd_eq (State.state_laneOn_ne (hstate ▸ hw))]
  · rw [State.readDone_abandoned r pos receipt bytes hlive, State.laneOn_withdrawing (hstate.trans hw)]

end Sys2Proof.Machine
end

section
/-! PROOFS. The readings of documents (R22 to R24): DOC_LIST, DOC_READ and DOC_PAGES. -/

namespace Sys2Proof.Machine

open Sys2Proof.Config

/-! ### The order of DOC_LIST -/

theorem insertBy_eq_orderedInsert {α : Type} {lt : α → α → Bool} {r : α → α → Prop} [DecidableRel r]
    (h : ∀ a b, lt b a = true ↔ ¬ r a b) (a : α) (l : List α) : insertBy lt a l = l.orderedInsert r a := by
  induction l with
  | nil => rfl
  | cons b t ih =>
    by_cases hr : r a b
    · simp [insertBy, List.orderedInsert, h, hr]
    · simp [insertBy, List.orderedInsert, h, hr, ih]

/-- The model's sort is Mathlib's, by the relation that its order leaves. -/
theorem sortBy_eq_insertionSort {α : Type} {lt : α → α → Bool} {r : α → α → Prop} [DecidableRel r]
    (h : ∀ a b, lt b a = true ↔ ¬ r a b) (l : List α) : sortBy lt l = l.insertionSort r := by
  induction l with
  | nil => rfl
  | cons a t ih => rw [sortBy, ih, insertBy_eq_orderedInsert h, List.insertionSort_cons]

/-- R22: two records in receipt order. -/
def receiptLe (x y : Nat × Doc) : Prop := x.2.receipt ≤ y.2.receipt

theorem State.docsFrom_eq (s : State) (r : Nat) [DecidableRel receiptLe] :
    s.docsFrom r = (s.docList.insertionSort receiptLe).filter (fun e => decide (r ≤ e.2.receipt)) := by
  rw [State.docsFrom, sortBy_eq_insertionSort (r := receiptLe) (fun a b => by simp [receiptLe])]

theorem State.docsFrom_perm (s : State) (r : Nat) :
    (s.docsFrom r).Perm (s.docList.filter (fun e => decide (r ≤ e.2.receipt))) := by
  classical
  rw [State.docsFrom_eq]
  exact (List.perm_insertionSort receiptLe s.docList).filter _

theorem State.docsFrom_pairwise (s : State) (r : Nat) :
    (s.docsFrom r).Pairwise (fun x y => x.2.receipt ≤ y.2.receipt) := by
  classical
  rw [State.docsFrom_eq]
  have total : Std.Total receiptLe := ⟨fun x y => Nat.le_total x.2.receipt y.2.receipt⟩
  have trans : IsTrans (Nat × Doc) receiptLe := ⟨fun _ _ _ h k => Nat.le_trans h k⟩
  exact (List.pairwise_insertionSort receiptLe s.docList).filter _

/-- R22: the number to ask from next is one above the last receipt number returned. -/
theorem nextReceipt_eq (l : List (Nat × Doc)) {c : Nat} (hc : 1 ≤ c) :
    nextReceipt l c = if l.length ≤ c then 0 else ((l[c - 1]?).map (fun e => e.2.receipt)).getD 0 + 1 := by
  unfold nextReceipt
  split
  · rfl
  · next h =>
    have hlt : c - 1 < l.length := by omega
    have hlast : (l.take c).getLast? = some l[c - 1] := by
      rw [List.getLast?_take, if_neg (by omega)]
      simp [hlt]
    simp [hlast, hlt]

/-! ### The requests -/

/-- R22: the operands of DOC_LIST in their ranges. -/
theorem docListOk_iff (r c : Nat) :
    (receiptOk r && within 1 8 c) = true ↔ (1 ≤ r ∧ r ≤ 4294967295) ∧ 1 ≤ c ∧ c ≤ 8 := by
  simp only [receiptOk, within, Bool.and_eq_true, decide_eq_true_eq]
  rfl

/-- R24: an operand of DOC_PAGES out of its range. -/
theorem docPagesBad_iff (r p c : Nat) :
    (decide (r = 0) || !within 1 pageLimit p || !within 1 8 c) = true
      ↔ r = 0 ∨ p < 1 ∨ 1000 < p ∨ c < 1 ∨ 8 < c := by
  simp only [within, Bool.or_eq_true, Bool.not_eq_true', Bool.and_eq_false_iff, decide_eq_true_eq,
    decide_eq_false_iff_not, not_le, or_assoc]
  rfl

theorem exec_docList_eq {s : State} {h : ReqHead} (ht : s.requestTaken h) (r c : Nat) :
    exec (.docList h r c) s = .next (
      if receiptOk r && within 1 8 c then (s.taking h.src).reply h .docList .ok
        (.summaries ((((s.taking h.src).docsFrom r).take c).map docSummary)
          (nextReceipt ((s.taking h.src).docsFrom r) c))
      else (s.taking h.src).reply h .docList .badArgument .none) := by
  change execDocList h r c s = _
  rw [execDocList, act_awake _ s ht.1, State.request_taken s h .docList _ ht]

theorem State.docRequest_zero {s : State} {h : ReqHead} (ht : s.requestTaken h) (k : ReqKind)
    (f : State → Nat → Doc → State) : s.docRequest h k 0 f = (s.taking h.src).reply h k .badArgument .none := by
  simp [State.docRequest, State.request_taken s h k _ ht]

theorem State.docRequest_unknown {s : State} {h : ReqHead} {r : Nat} (ht : s.requestTaken h) (k : ReqKind)
    (f : State → Nat → Doc → State) (hr : r ≠ 0) (hd : s.docOf r = none) :
    s.docRequest h k r f = (s.taking h.src).reply h k .range .none := by
  simp [State.docRequest, State.request_taken s h k _ ht, State.docOf_taking, hr, hd]

theorem exec_docRead_eq {s : State} {h : ReqHead} (ht : s.requestTaken h) (r : Nat) :
    exec (.docRead h r) s = .next (s.docRequest h .docRead r (fun a slot d =>
      a.reply h .docRead .ok (.document slot d a.mgmt.uptime))) := by
  change execDocRead h r s = _
  rw [execDocRead, act_awake _ s ht.1]

theorem exec_docPages_bad {s : State} {h : ReqHead} {r p c : Nat} (ht : s.requestTaken h)
    (hbad : (decide (r = 0) || !within 1 pageLimit p || !within 1 8 c) = true) :
    exec (.docPages h r p c) s = .next ((s.taking h.src).reply h .docPages .badArgument .none) := by
  change execDocPages h r p c s = _
  rw [execDocPages, act_awake _ s ht.1, State.request_taken s h .docPages _ ht, if_pos hbad]

theorem exec_docPages_unknown {s : State} {h : ReqHead} {r p c : Nat} (ht : s.requestTaken h)
    (hok : ¬ (decide (r = 0) || !within 1 pageLimit p || !within 1 8 c) = true)
    (hd : (s.taking h.src).docOf r = none) :
    exec (.docPages h r p c) s = .next ((s.taking h.src).reply h .docPages .range .none) := by
  change execDocPages h r p c s = _
  rw [execDocPages, act_awake _ s ht.1, State.request_taken s h .docPages _ ht, if_neg hok, hd]

theorem exec_docPages_known {s : State} {h : ReqHead} {r p c slot : Nat} {d : Doc} (ht : s.requestTaken h)
    (hok : ¬ (decide (r = 0) || !within 1 pageLimit p || !within 1 8 c) = true)
    (hd : (s.taking h.src).docOf r = some (slot, d)) :
    exec (.docPages h r p c) s = .next (
      if d.pages.length < p then (s.taking h.src).reply h .docPages .range .none
      else (s.taking h.src).reply h .docPages .ok
        (.pages d.pages.length ((s.taking h.src).pageImages d p c))) := by
  change execDocPages h r p c s = _
  rw [execDocPages, act_awake _ s ht.1, State.request_taken s h .docPages _ ht, if_neg hok, hd]

/-! ### The record that carries a receipt number -/

theorem State.docOf_some {s : State} {r slot : Nat} {d : Doc} (h : s.docOf r = some (slot, d)) :
    (slot, d) ∈ s.docList ∧ d.receipt = r :=
  ⟨List.mem_of_find?_eq_some h, by simpa using List.find?_some h⟩

theorem State.docOf_none_iff (s : State) (r : Nat) : s.docOf r = none ↔ ∀ e ∈ s.docList, e.2.receipt ≠ r := by
  simp [State.docOf, List.find?_eq_none]

/-- Settles O57: each request is its judging once taken; the list of DOC_LIST is the sorted one, and docOf is a search
of the records in use. -/
theorem documentReadings : Obligations.DocumentReadings := by
  intro s h ht a
  refine ⟨fun r c => ⟨fun hbad => ?_, fun hr hrm hc hcm => ?_⟩, fun r => ⟨?_, ?_, ?_⟩,
    fun r p c => ⟨fun hbad => ?_, fun hr hp hpm hc hcm => ?_⟩,
    fun r slot d hd => State.docOf_some hd, fun r => State.docOf_none_iff a r⟩
  · rw [exec_docList_eq ht, if_neg (fun hok => by have := (docListOk_iff r c).1 hok; omega)]
  · refine ⟨a.docsFrom r, a.docsFrom_perm r, a.docsFrom_pairwise r, ?_⟩
    rw [exec_docList_eq ht, if_pos ((docListOk_iff r c).2 ⟨⟨hr, hrm⟩, hc, hcm⟩), nextReceipt_eq _ hc]
    rfl
  · rintro rfl
    rw [exec_docRead_eq ht, State.docRequest_zero ht]
  · intro hr hd
    rw [exec_docRead_eq ht, State.docRequest_unknown ht _ _ hr ((State.docOf_taking s h.src r).symm.trans hd)]
  · intro slot d hr hd
    rw [exec_docRead_eq ht,
      State.docRequest_taken s h .docRead r slot d _ ht hr ((State.docOf_taking s h.src r).symm.trans hd)]
  · exact exec_docPages_bad ht ((docPagesBad_iff r p c).2 hbad)
  · have hok : ¬ (decide (r = 0) || !within 1 pageLimit p || !within 1 8 c) = true :=
      fun hbad => by have := (docPagesBad_iff r p c).1 hbad; omega
    refine ⟨exec_docPages_unknown ht hok, fun slot d hd => ⟨fun hlt => ?_, fun hle => ?_⟩⟩
    · rw [exec_docPages_known ht hok hd, if_pos hlt]
    · rw [exec_docPages_known ht hok hd, if_neg (Nat.not_lt.2 hle)]
      rfl

end Sys2Proof.Machine
end

section
/-! SUPPORT. What the counts, the clocks, the queues and the mailboxes of the invariants are after each operation that
leaves them alone: the part of the state they read, as one record, and one equation for each operation. -/

namespace Sys2Proof.Machine

open Sys2Proof.Config

/-- The part of the state that the limits (State.limitsOk) and the quarantine mailbox (State.quarantineOk) read. -/
structure Tally where
  lineErrors : Nat
  officeErrors : Nat
  unrecorded : Nat
  dropped : Nat
  uptime : Nat
  tod : TimeOfDay
  notices : Nat
  immediate : Nat
  channels : List Nat
  points : List (Nat × Nat × Nat)
  quarantined : Bool × Bool × Nat
  mailSwaps : List (List Nat)
  mailRows : Copies (Nat × MailRow)

def Point.counts (x : Point) : Nat × Nat × Nat := (x.failures, x.errors, x.unsent)

def Mailbox.flags (b : Mailbox) : Bool × Bool × Nat := (b.accepting, b.delivering, b.held)

def State.tally (s : State) : Tally :=
  { lineErrors := s.line.errors, officeErrors := s.office.errors, unrecorded := s.journal.unrecorded,
    dropped := s.mgmt.dropped, uptime := s.mgmt.uptime, tod := s.mgmt.tod, notices := s.mgmt.notices.length,
    immediate := s.mgmt.replies.countP (fun r => !r.holds), channels := s.calls.channels.map Channel.errors,
    points := s.delivery.points.map Point.counts, quarantined := (s.box quarantine).flags,
    mailSwaps := s.waiting.mailSwaps, mailRows := s.tables.mailbox }

/-! ### One block written -/

theorem map_set_of_getD {α β : Type} (f : α → β) (l : List α) (i : Nat) (a d : α) (h : f a = f (l.getD i d)) :
    (l.set i a).map f = l.map f := by
  rw [List.map_set, h]
  obtain hi | hi := lt_or_ge i l.length
  · have hs := List.set_getElem_self (as := l.map f) (i := i) (by simpa using hi)
    simpa [List.getD, hi] using hs
  · rw [List.set_eq_of_length_le (by simpa using hi)]

@[simp] theorem State.tally_store (s : State) (x : PageStore) : ({ s with store := x } : State).tally = s.tally := rfl

@[simp] theorem State.tally_docs (s : State) (x : DocTable) : ({ s with docs := x } : State).tally = s.tally := rfl

@[simp] theorem State.tally_pressure (s : State) (x : Pressure) : ({ s with pressure := x } : State).tally = s.tally :=
  rfl

@[simp] theorem State.tally_journal (s : State) (x : Journal) (h : x.unrecorded = s.journal.unrecorded) :
    ({ s with journal := x } : State).tally = s.tally := by
  simp [State.tally, State.box, h]

@[simp] theorem State.tally_waiting (s : State) (x : Waiting) (h : x.mailSwaps = s.waiting.mailSwaps) :
    ({ s with waiting := x } : State).tally = s.tally := by
  simp [State.tally, State.box, h]

theorem State.tally_office (s : State) (x : OfficePort) (h : x.errors = s.office.errors) :
    ({ s with office := x } : State).tally = s.tally := by
  simp [State.tally, State.box, h]

@[simp] theorem State.tally_mgmt (s : State) (m : Management) (hd : m.dropped = s.mgmt.dropped)
    (hu : m.uptime = s.mgmt.uptime) (ht : m.tod = s.mgmt.tod) (hn : m.notices = s.mgmt.notices)
    (hr : m.replies = s.mgmt.replies) : ({ s with mgmt := m } : State).tally = s.tally := by
  simp [State.tally, State.box, hd, hu, ht, hn, hr]

@[simp] theorem State.tally_setChannel (s : State) (ch : Nat) (c : Channel) (h : c.errors = (s.channel ch).errors) :
    (s.setChannel ch c).tally = s.tally := by
  have hc := map_set_of_getD Channel.errors s.calls.channels ch c Channel.initial h
  simp [State.tally, State.box, hc]

@[simp] theorem State.tally_setLane (s : State) (i : Nat) (l : Lane) : (s.setLane i l).tally = s.tally := rfl

@[simp] theorem State.tally_setPoint (s : State) (p : Nat) (x : Point) (h : x.failures = (s.point p).failures
    ∧ x.errors = (s.point p).errors ∧ x.unsent = (s.point p).unsent) : (s.setPoint p x).tally = s.tally := by
  obtain ⟨hf, he, hu⟩ := h
  have hx : x.counts = (s.point p).counts := by simp [Point.counts, hf, he, hu]
  have hp := map_set_of_getD Point.counts s.delivery.points (p - 1) x Point.initial hx
  simp [State.tally, State.box, hp]

theorem State.box_setBox_ne (s : State) (m k : Nat) (b : Mailbox) (h : m ≠ k) : (s.setBox m b).box k = s.box k := by
  simp [State.box, List.getElem?_set_ne h]

theorem State.tally_setBox (s : State) (m : Nat) (b : Mailbox) (h : b.flags = (s.box m).flags) :
    (s.setBox m b).tally = s.tally := by
  have hb : ((s.setBox m b).box quarantine).flags = (s.box quarantine).flags := by
    by_cases hm : m = quarantine
    · subst hm
      obtain hl | hl := lt_or_ge quarantine s.mail.boxes.length
      · rw [State.box_setBox s _ b hl, h]
      · simp [State.box, List.set_eq_of_length_le hl]
    · rw [State.box_setBox_ne s m _ b hm]
  simp [State.tally, hb]

theorem State.tally_setBox_department (s : State) (m : Nat) (b : Mailbox) (h : m < mailboxCount) :
    (s.setBox m b).tally = s.tally := by
  have hm : m ≠ quarantine := by simp only [mailboxCount] at h; simp only [quarantine]; omega
  simp [State.tally, State.box_setBox_ne s m quarantine b hm]

@[simp] theorem State.tally_setRecord (s : State) (r : Nat) (x : PageRecord) : (s.setRecord r x).tally = s.tally := rfl

@[simp] theorem State.tally_setDoc (s : State) (slot : Nat) (d : Doc) : (s.setDoc slot d).tally = s.tally := rfl

@[simp] theorem State.tally_raise (s : State) (src : Source) (o : Occurrence) : (s.raise src o).tally = s.tally := rfl

@[simp] theorem State.tally_trigger (s : State) (t : Trigger) : (s.trigger t).tally = s.tally := rfl

@[simp] theorem State.tally_portReport (s : State) (r : PortReport) : (s.portReport r).tally = s.tally := rfl

/-! ### Clocks, store, mailboxes and documents -/

@[simp] theorem State.tally_evaluate (s : State) : s.evaluate.tally = s.tally := by
  unfold State.evaluate State.pressureMoved State.releaseAsked
  dsimp only
  repeat' split
  all_goals rfl

@[simp] theorem State.tally_pressureChange (s : State) (p : PressureParams) : (s.pressureChange p).tally = s.tally := by
  simp [State.pressureChange]

@[simp] theorem State.tally_releaseBlocks (s : State) (bs : List Nat) : (s.releaseBlocks bs).tally = s.tally := by
  unfold State.releaseBlocks
  split <;> simp

theorem State.tally_beginWrite {s t : State} {ch r : Nat} {buf : BufId} {x : PageRecord}
    (h : s.beginWrite ch buf r x = some t) : t.tally = s.tally := by
  unfold State.beginWrite at h
  split at h
  · cases h
  · cases h
    simp

@[simp] theorem State.tally_discardPage (s : State) (r : Nat) : (s.discardPage r).tally = s.tally := by
  simp [State.discardPage, State.dropRecord]

@[simp] theorem State.tally_growRecord (s : State) (r n : Nat) : (s.growRecord r n).tally = s.tally := by
  unfold State.growRecord
  split <;> simp

@[simp] theorem State.tally_heldUp (s : State) (m n : Nat) : (s.heldUp m n).tally = s.tally := by
  unfold State.heldUp
  split
  · next h => exact tally_setBox_department s m _ h
  · rfl

@[simp] theorem State.tally_heldDown (s : State) (m n : Nat) : (s.heldDown m n).tally = s.tally := by
  unfold State.heldDown
  split
  · next h => exact tally_setBox_department s m _ h
  · rfl

@[simp] theorem State.tally_headReport (s : State) (m : Nat) (before after : Option Nat) :
    (s.headReport m before after).tally = s.tally := by
  unfold State.headReport
  split <;> simp

@[simp] theorem State.tally_flagReport (s : State) (m : Nat) (before : Bool) :
    (s.flagReport m before).tally = s.tally := by
  unfold State.flagReport
  split <;> simp

@[simp] theorem State.tally_setQueue (s : State) (m : Nat) (queue : List Nat) : (s.setQueue m queue).tally = s.tally := by
  unfold State.setQueue
  rw [tally_headReport]
  exact tally_setBox s m _ rfl

@[simp] theorem State.tally_queueTail (s : State) (m slot : Nat) : (s.queueTail m slot).tally = s.tally :=
  tally_setQueue _ _ _

@[simp] theorem State.tally_queueHead (s : State) (m slot : Nat) : (s.queueHead m slot).tally = s.tally :=
  tally_setQueue _ _ _

@[simp] theorem State.tally_unqueue (s : State) (m slot : Nat) : (s.unqueue m slot).tally = s.tally :=
  tally_setQueue _ _ _

theorem State.tally_claimSlot {s t : State} {ch slot : Nat} (h : s.claimSlot ch = some (slot, t)) :
    t.tally = s.tally := by
  unfold State.claimSlot at h
  split at h
  · cases h
  · cases h
    simp

@[simp] theorem State.tally_freeSlot (s : State) (slot : Nat) : (s.freeSlot slot).tally = s.tally := rfl

@[simp] theorem State.tally_dropRecords (s : State) (pages : List Nat) : (s.dropRecords pages).tally = s.tally := rfl

@[simp] theorem State.tally_freeDoc (s : State) (slot : Nat) (d : Doc) (purged : Bool) :
    (s.freeDoc slot d purged).tally = s.tally := by
  have hl : (s.leaveMailbox slot d purged).tally = s.tally := by
    unfold State.leaveMailbox
    repeat' split
    all_goals simp
  simp [State.freeDoc, hl]

@[simp] theorem State.tally_updDoc (s : State) (slot : Nat) (f : Doc → Doc) : (s.updDoc slot f).tally = s.tally := by
  unfold State.updDoc
  split <;> simp

@[simp] theorem State.tally_releaseRetained (s : State) : s.releaseRetained.tally = s.tally := by
  unfold State.releaseRetained
  split <;> simp

/-! ### The journal and the line port -/

@[simp] theorem State.tally_lowTest (s : State) : s.lowTest.tally = s.tally := by
  unfold State.lowTest
  dsimp only
  split <;> simp

@[simp] theorem State.tally_reserve (s : State) : s.reserve.tally = s.tally := by
  simp [State.reserve]

@[simp] theorem State.tally_installLowMark (s : State) (mark : Nat) : (s.installLowMark mark).tally = s.tally := by
  unfold State.installLowMark
  dsimp only
  split <;> simp

@[simp] theorem State.tally_writeEntry (s : State) (e : Entry) : (s.writeEntry e).tally = s.tally := rfl

@[simp] theorem State.tally_lineGood (s : State) : s.lineGood.tally = s.tally := by
  unfold State.lineGood
  dsimp only
  split <;> rfl

@[simp] theorem State.tally_sendLine (s : State) (ch : Nat) (body : LineBody) : (s.sendLine ch body).tally = s.tally := by
  unfold State.sendLine
  split <;> rfl

@[simp] theorem State.tally_lineDown (s : State) : s.lineDown.tally = s.tally := by
  simp [State.lineDown, State.tally, State.box, Function.comp_def]

/-! ### The answer decision -/

@[simp] theorem State.tally_setDecision (s : State) (ch : Nat) (d : Option Decision) :
    (s.setDecision ch d).tally = s.tally := by
  simp [State.setDecision]

@[simp] theorem State.tally_refuse (s : State) (ch : Nat) (d : Decision) (cause : Cause) (gen : Option Nat)
    (screening : ScreenResult) : (s.refuse ch d cause gen screening).tally = s.tally := by
  have hclaim : (s.dropClaim d.claim).tally = s.tally := by
    unfold State.dropClaim
    split <;> simp
  rw [State.refuse_eq]
  split <;> simp [hclaim]

@[simp] theorem State.tally_answeringStep (s : State) (ch slot : Nat) (d : Decision) (p : Placement) :
    (s.answeringStep ch slot d p).tally = s.tally := by
  unfold State.answeringStep
  repeat' split
  all_goals simp [State.answerCall]

/-! ### Channels -/

@[simp] theorem State.tally_setBuf (s : State) (ch : Nat) (b : BufId) (x : Buffer) :
    (s.setBuf ch b x).tally = s.tally := by
  cases b <;> simp [State.setBuf, Channel.setBuf]

@[simp] theorem State.tally_giveUp (s : State) (ch : Nat) : (s.giveUp ch).tally = s.tally := by
  unfold State.giveUp
  dsimp only
  repeat' split
  all_goals simp

@[simp] theorem State.tally_cut (s : State) (ch : Nat) : (s.cut ch).tally = s.tally := by
  unfold State.cut
  split <;> simp

@[simp] theorem State.tally_drop (s : State) (ch : Nat) (cause : Cause) : (s.drop ch cause).tally = s.tally := by
  unfold State.drop
  dsimp only
  split <;> simp

@[simp] theorem State.tally_closeDoc (s : State) (ch slot : Nat) (d : Doc) (cause : Cause) (cut : Bool) :
    (s.closeDoc ch slot d cause cut).tally = s.tally := by
  unfold State.closeDoc State.queueClosed
  dsimp only
  split <;> simp

@[simp] theorem State.tally_idleReport (s : State) : s.idleReport.tally = s.tally := by
  unfold State.idleReport
  split <;> rfl

@[simp] theorem State.tally_closeCall (s : State) (ch : Nat) (cause : Cause) : (s.closeCall ch cause).tally = s.tally := by
  unfold State.closeCall
  dsimp only
  repeat' split
  all_goals simp [Channel.closed]

@[simp] theorem State.tally_takeLoss (s : State) (ch : Nat) : (s.takeLoss ch).tally = s.tally := by
  unfold State.takeLoss State.loseLink
  repeat' split
  all_goals simp

@[simp] theorem State.tally_restartSilence (s : State) (ch : Nat) : (s.restartSilence ch).tally = s.tally := by
  unfold State.restartSilence
  split <;> simp

@[simp] theorem State.tally_stationAction (s : State) (ch slot : Nat) (d : Doc) (e : ScreenEntry) :
    (s.stationAction ch slot d e).tally = s.tally := by
  unfold State.stationAction
  repeat' split
  all_goals simp

@[simp] theorem State.tally_beginPage (s : State) (ch r slot page : Nat) (res : Resolution) (width : Width) :
    (s.beginPage ch r slot page res width).tally = s.tally := by
  simp [State.beginPage, State.channel]

theorem State.tally_handOver {s t : State} {ch : Nat} {b : BufId} {bytes : List Byte}
    (h : s.handOver ch b bytes = some t) : t.tally = s.tally := by
  unfold State.handOver at h
  split at h
  · cases h
    rfl
  · split at h
    · cases h
      rfl
    · obtain ⟨u, hu, rfl⟩ := Option.map_eq_some_iff.1 h
      simp [tally_beginWrite hu]

@[simp] theorem State.tally_storeFull (s : State) (ch : Nat) (b : BufId) : (s.storeFull ch b).tally = s.tally := by
  simp [State.storeFull]

@[simp] theorem State.tally_placeBytes (s : State) (ch : Nat) (b : BufId) (held kept : List Byte) :
    (s.placeBytes ch b held kept).tally = s.tally := by
  unfold State.placeBytes
  dsimp only
  split
  · simp
  · split
    · simp
    · next hh => split <;> simp [tally_handOver hh]

@[simp] theorem State.tally_markPage (s : State) (ch : Nat) (m : Bool) : (s.markPage ch m).tally = s.tally := by
  simp [State.markPage]

@[simp] theorem State.tally_takePayload (s : State) (ch : Nat) (payload : List Byte) :
    (s.takePayload ch payload).tally = s.tally := by
  unfold State.takePayload
  dsimp only
  repeat' split
  all_goals simp

@[simp] theorem State.tally_sequence (s : State) (ch seq : Nat) : (s.sequence ch seq).tally = s.tally := by
  simp [State.sequence]

@[simp] theorem State.tally_resendPage (s : State) (ch r : Nat) : (s.resendPage ch r).tally = s.tally := by
  simp [State.resendPage, Channel.pageDone]

@[simp] theorem State.tally_joinPage (s : State) (ch r slot : Nat) (x : PageRecord) (f : Finish) :
    (s.joinPage ch r slot x f).tally = s.tally := by
  unfold State.joinPage
  dsimp only
  split <;> simp [Channel.pageDone, State.channel]

@[simp] theorem State.tally_finalize (s : State) (ch : Nat) : (s.finalize ch).tally = s.tally := by
  unfold State.finalize
  dsimp only
  repeat' split
  all_goals simp

@[simp] theorem State.tally_finalizeIfDone (s : State) (ch : Nat) : (s.finalizeIfDone ch).tally = s.tally := by
  unfold State.finalizeIfDone
  repeat' split
  all_goals simp

@[simp] theorem State.tally_writeDone (s : State) (ch : Nat) (b : BufId) (r : Nat) :
    (s.writeDone ch b r).tally = s.tally := by
  unfold State.writeDone State.heldDiscard
  dsimp only
  repeat' split
  all_goals simp

/-! ### The Office Port -/

@[simp] theorem State.tally_officeGood (s : State) : s.officeGood.tally = s.tally := by
  unfold State.officeGood
  dsimp only
  split <;> rfl

@[simp] theorem State.tally_pointState (s : State) (p : Nat) (st : PointState) :
    (s.pointState p st).tally = s.tally := by
  simp [State.pointState]

@[simp] theorem State.tally_frameSeen (s : State) (p : Nat) : (s.frameSeen p).tally = s.tally := by
  unfold State.frameSeen
  split <;> simp

@[simp] theorem State.tally_officeArrival (s : State) (src : Nat) : (s.officeArrival src).tally = s.tally := by
  simp [State.officeArrival]

@[simp] theorem State.tally_discarded (s : State) (h : Hander) (f : OfficeFrame) : (s.discarded h f).tally = s.tally := by
  unfold State.discarded
  split <;> simp

@[simp] theorem State.tally_handOffice (s : State) (h : Hander) (f : OfficeFrame) :
    (s.handOffice h f).tally = s.tally := by
  unfold State.handOffice
  split
  · rfl
  · simp

@[simp] theorem State.tally_discardAll (s : State) (l : List (Hander × OfficeFrame)) :
    (s.discardAll l).tally = s.tally := by
  induction l generalizing s with
  | nil => rfl
  | cons e t ih => rw [State.discardAll, ih, tally_discarded]

@[simp] theorem State.tally_noteTaken (s : State) (took : Bool) : (s.noteTaken took).tally = s.tally := rfl

@[simp] theorem State.tally_handNotice (s : State) : s.handNotice.tally = s.tally := by
  unfold State.handNotice
  repeat' split
  · rfl
  · rw [tally_handOffice]
    rfl
  · rfl

@[simp] theorem State.tally_officeSent (s : State) (f : OfficeFrame) : (s.officeSent f).tally = s.tally := rfl

/-! ### What a request on a document does to its record -/

@[simp] theorem State.tally_holdDoc (s : State) (slot : Nat) (d : Doc) : (s.holdDoc slot d).tally = s.tally := by
  simp [State.holdDoc]

@[simp] theorem State.tally_rerouteDoc (s : State) (slot : Nat) (d : Doc) (t : Nat) :
    (s.rerouteDoc slot d t).tally = s.tally := by
  simp [State.rerouteDoc, State.moveHeld]

@[simp] theorem State.tally_rerouteTo (s : State) (slot : Nat) (d : Doc) (t : Nat) :
    (s.rerouteTo slot d t).tally = s.tally := by
  unfold State.rerouteTo State.rerouteHeld State.moveHeld
  repeat' split
  all_goals simp

@[simp] theorem State.tally_releaseTo (s : State) (slot : Nat) (d : Doc) (m : Nat) :
    (s.releaseTo slot d m).tally = s.tally := by
  simp [State.releaseTo]

@[simp] theorem State.tally_releaseRouted (s : State) (slot : Nat) (d : Doc) :
    (s.releaseRouted slot d).tally = s.tally := by
  simp [State.releaseRouted]

/-! ### Lanes and points -/

@[simp] theorem State.tally_handLane (s : State) (i : Nat) : (s.handLane i).tally = s.tally := by
  unfold State.handLane
  split <;> simp

@[simp] theorem State.tally_produce (s : State) (i : Nat) (fs : List OfficeFrame) : (s.produce i fs).tally = s.tally :=
  rfl

@[simp] theorem State.tally_beginRead (s : State) (lane record pos receipt : Nat) :
    (s.beginRead lane record pos receipt).tally = s.tally := rfl

@[simp] theorem State.tally_laneReads (s : State) (i : Nat) : (s.laneReads i).tally = s.tally := by
  unfold State.laneReads
  dsimp only
  repeat' split
  all_goals simp

@[simp] theorem State.tally_sendPage (s : State) (i p slot : Nat) (b : BufId) (rest : List BufId) (k : Nat)
    (bytes : List Byte) : (s.sendPage i p slot b rest k bytes).tally = s.tally := by
  unfold State.sendPage
  dsimp only
  repeat' split
  all_goals simp

@[simp] theorem State.tally_awaitSlot (s : State) (i p : Nat) : (s.awaitSlot i p).tally = s.tally := by
  unfold State.awaitSlot
  dsimp only
  split <;> simp

@[simp] theorem State.tally_endLane (s : State) (i : Nat) : (s.endLane i).tally = s.tally := by
  unfold State.endLane
  dsimp only
  split <;> simp

@[simp] theorem State.tally_handBack (s : State) (slot : Nat) (d : Doc) (notBefore : Option Nat) :
    (s.handBack slot d notBefore).tally = s.tally := by
  simp [State.handBack]

@[simp] theorem State.tally_afterAttempt (s : State) (slot : Nat) (d : Doc) :
    (s.afterAttempt slot d).tally = s.tally := by
  unfold State.afterAttempt
  split <;> simp

@[simp] theorem State.tally_suspendNotices (s : State) (p : Nat) (d : Doc) (reason : SuspendReason) :
    (s.suspendNotices p d reason).tally = s.tally := by
  unfold State.suspendNotices
  split <;> simp

@[simp] theorem State.tally_delivered (s : State) (slot : Nat) (d : Doc) : (s.delivered slot d).tally = s.tally := by
  unfold State.delivered
  split <;> simp

@[simp] theorem State.tally_ackPage (s : State) (i slot : Nat) (d : Doc) (p : Nat) (b : BufId) (k : Nat) :
    (s.ackPage i slot d p b k).tally = s.tally := by
  simp [State.ackPage]

@[simp] theorem State.tally_pointOff (s : State) (p : Nat) : (s.pointOff p).tally = s.tally := by
  simp [State.pointOff]

@[simp] theorem State.tally_grant (s : State) (i : Nat) (g : Grant) : (s.grant i g).tally = s.tally := by
  simp only [State.grant, tally_handLane, tally_produce, tally_setLane]
  refine (tally_setPoint _ _ _ ?_).trans (tally_unqueue s g.box g.slot)
  exact ⟨rfl, rfl, rfl⟩

@[simp] theorem State.tally_grants (s : State) (n : Nat) : (s.grants n).tally = s.tally := by
  induction n generalizing s with
  | zero => rfl
  | succ n ih =>
    unfold State.grants
    split
    · rw [ih, tally_grant]
    · rfl

@[simp] theorem State.tally_checkFailed (s : State) (r pos receipt : Nat) :
    (s.checkFailed r pos receipt).tally = s.tally := by
  unfold State.checkFailed
  repeat' split
  all_goals simp

@[simp] theorem State.tally_withdraw (s : State) (i p receipt : Nat) : (s.withdraw i p receipt).tally = s.tally := by
  simp [State.withdraw]

@[simp] theorem State.tally_pointsDown (s : State) (p n : Nat) : (s.pointsDown p n).tally = s.tally := by
  induction n generalizing s p with
  | zero => rfl
  | succ n ih =>
    unfold State.pointsDown
    dsimp only
    rw [ih]
    split <;> simp

@[simp] theorem State.tally_tailSent (s : State) (i : Nat) : (s.tailSent i).tally = s.tally := by
  unfold State.tailSent
  dsimp only
  repeat' split
  all_goals simp

@[simp] theorem State.tally_offerSent (s : State) (i : Nat) : (s.offerSent i).tally = s.tally := by
  unfold State.offerSent
  dsimp only
  split <;> simp

@[simp] theorem State.tally_pointsRemoved (s : State) (ps : List Nat) : (s.pointsRemoved ps).tally = s.tally := by
  induction ps generalizing s with
  | nil => rfl
  | cons p t ih =>
    unfold State.pointsRemoved
    dsimp only
    rw [ih]
    split <;> simp

/-! ### The Management Unit -/

@[simp] theorem State.tally_install (s : State) (p : Parameters) : (s.install p).tally = s.tally := rfl

@[simp] theorem Journal.release_unrecorded (j : Journal) (n : Nat) : (j.release n).unrecorded = j.unrecorded := by
  unfold Journal.release
  dsimp only
  split <;> rfl

@[simp] theorem State.tally_setIntake (s : State) (st : IntakeState) : (s.setIntake st).tally = s.tally := by
  unfold State.setIntake
  split
  · rfl
  · rw [tally_raise]
    rfl

@[simp] theorem State.tally_abortAll (s : State) : s.abortAll.tally = s.tally := by
  simp [State.abortAll, State.tally, State.box, Function.comp_def]

@[simp] theorem State.tally_clearAll (s : State) (names : List Nat) : (s.clearAll names).tally = s.tally := by
  have hname : ∀ (t : State) (n : Nat), (t.clearName n).tally = t.tally := by
    intro t n
    unfold State.clearName
    repeat' split
    all_goals rfl
  induction names generalizing s with
  | nil => rfl
  | cons n t ih => exact (ih (s.clearName n)).trans (hname s n)

end Sys2Proof.Machine
end

section
/-! SUPPORT. The two invariants as what every command keeps: each operation that writes a count, a clock, a queue or a
mailbox row, and each operation that runs one of these, in the order of the definitions. -/

namespace Sys2Proof.Machine

open Sys2Proof.Config

/-- The limits of the Management Unit's own counts, clocks and queues (R178, R184, R190). -/
def Management.inLimits (m : Management) : Prop :=
  m.dropped ≤ max16 ∧ m.uptime ≤ uptimeMax ∧ m.tod.secs ≤ max32 ∧ m.tod.ms ≤ 999 ∧ m.notices.length ≤ noticeLimit
    ∧ m.replies.countP (fun r => !r.holds) ≤ immediateLimit

/-- The limits of a point's counts (R122, R124). -/
def Point.inLimits (x : Point) : Prop := x.failures ≤ max8 ∧ x.errors ≤ max16 ∧ x.unsent ≤ max8

/-- R160: every row of both copies of the mailbox table is one of a department mailbox. -/
def Copies.departments (c : Copies (Nat × MailRow)) : Prop :=
  (∀ e ∈ c.live, e.1 < mailboxCount) ∧ (∀ e ∈ c.staging, e.1 < mailboxCount)

def Tally.inLimits (y : Tally) : Prop :=
  y.lineErrors ≤ max16 ∧ y.officeErrors ≤ max16 ∧ y.unrecorded ≤ max16 ∧ y.dropped ≤ max16 ∧ y.uptime ≤ uptimeMax
    ∧ y.tod.secs ≤ max32 ∧ y.tod.ms ≤ 999 ∧ y.notices ≤ noticeLimit ∧ y.immediate ≤ immediateLimit
    ∧ (∀ n ∈ y.channels, n ≤ max16) ∧ (∀ x ∈ y.points, x.1 ≤ max8 ∧ x.2.1 ≤ max16 ∧ x.2.2 ≤ max8)

def Tally.quarantineOk (y : Tally) : Prop :=
  y.quarantined = (true, false, 0) ∧ (∀ l ∈ y.mailSwaps, ∀ m ∈ l, m < mailboxCount) ∧ y.mailRows.departments

theorem State.limitsOk_iff (s : State) : s.limitsOk ↔ s.tally.inLimits := by
  simp [State.limitsOk, Tally.inLimits, State.tally, Point.counts]

theorem State.quarantineOk_iff (s : State) : s.quarantineOk ↔ s.tally.quarantineOk := by
  simp [State.quarantineOk, Tally.quarantineOk, State.tally, Mailbox.flags, Copies.departments, and_assoc]

/-- What every command does to the two invariants: it keeps each of them. -/
def State.Keeps (s t : State) : Prop := (s.limitsOk → t.limitsOk) ∧ (s.quarantineOk → t.quarantineOk)

theorem State.Keeps.refl (s : State) : s.Keeps s := ⟨id, id⟩

theorem State.Keeps.trans {s t u : State} (h : s.Keeps t) (k : t.Keeps u) : s.Keeps u := ⟨k.1 ∘ h.1, k.2 ∘ h.2⟩

theorem State.keeps_quiet {s t : State} (h : t.tally = s.tally) : s.Keeps t := by
  constructor
  · rw [State.limitsOk_iff, State.limitsOk_iff, h]
    exact id
  · rw [State.quarantineOk_iff, State.quarantineOk_iff, h]
    exact id

theorem State.Keeps.quiet {s t u : State} (h : s.Keeps t) (q : u.tally = t.tally) : s.Keeps u := h.trans (keeps_quiet q)

theorem State.Keeps.behind {s t u : State} (h : t.Keeps u) (q : t.tally = s.tally) : s.Keeps u := (keeps_quiet q).trans h

/-! ### One block written within its limits -/

theorem bump_le {top n : Nat} (h : n ≤ top) : bump top n ≤ top := by
  unfold bump
  split <;> omega

theorem getD_of_forall_mem {α : Type} {p : α → Prop} {l : List α} (i : Nat) {d : α} (h : ∀ a ∈ l, p a) (hd : p d) :
    p (l.getD i d) := by
  obtain hi | hi := lt_or_ge i l.length
  · simpa [List.getD, hi] using h _ (List.getElem_mem hi)
  · simpa [List.getD, hi] using hd

theorem State.limitsOk.channel {s : State} (h : s.limitsOk) (ch : Nat) : (s.channel ch).errors ≤ max16 := by
  obtain ⟨_, _, _, _, _, _, _, _, _, hc, _⟩ := h
  exact getD_of_forall_mem (p := fun c : Channel => c.errors ≤ max16) ch hc (Nat.zero_le _)

theorem State.limitsOk.point {s : State} (h : s.limitsOk) (p : Nat) : (s.point p).inLimits := by
  obtain ⟨_, _, _, _, _, _, _, _, _, _, hp⟩ := h
  exact getD_of_forall_mem (p := Point.inLimits) (p - 1) hp ⟨Nat.zero_le _, Nat.zero_le _, Nat.zero_le _⟩

theorem State.keeps_setChannel (s : State) (ch : Nat) {c : Channel}
    (hc : (s.channel ch).errors ≤ max16 → c.errors ≤ max16) : s.Keeps (s.setChannel ch c) := by
  refine ⟨fun h => ?_, id⟩
  have hcc := hc (h.channel ch)
  obtain ⟨hl, ho, hj, hd, hu, hs, hm, hn, hr, hall, hp⟩ := h
  refine ⟨hl, ho, hj, hd, hu, hs, hm, hn, hr, fun a ha => ?_, hp⟩
  obtain ha | rfl := List.mem_or_eq_of_mem_set ha
  · exact hall a ha
  · exact hcc

theorem State.keeps_setPoint (s : State) (p : Nat) {x : Point} (hx : (s.point p).inLimits → x.inLimits) :
    s.Keeps (s.setPoint p x) := by
  refine ⟨fun h => ?_, id⟩
  have hxx := hx (h.point p)
  obtain ⟨hl, ho, hj, hd, hu, hs, hm, hn, hr, hc, hall⟩ := h
  refine ⟨hl, ho, hj, hd, hu, hs, hm, hn, hr, hc, fun a ha => ?_⟩
  obtain ha | rfl := List.mem_or_eq_of_mem_set ha
  · exact hall a ha
  · exact hxx

theorem State.keeps_mgmt (s : State) {m : Management} (hm : s.mgmt.inLimits → m.inLimits) :
    s.Keeps { s with mgmt := m } := by
  refine ⟨fun ⟨hl, ho, hj, hd, hu, hs, hms, hn, hr, hc, hp⟩ => ?_, id⟩
  obtain ⟨hd, hu, hs, hms, hn, hr⟩ := hm ⟨hd, hu, hs, hms, hn, hr⟩
  exact ⟨hl, ho, hj, hd, hu, hs, hms, hn, hr, hc, hp⟩

theorem State.keeps_line (s : State) {x : LinePort} (hx : s.line.errors ≤ max16 → x.errors ≤ max16) :
    s.Keeps { s with line := x } :=
  ⟨fun ⟨hl, h⟩ => ⟨hx hl, h⟩, id⟩

theorem State.keeps_office (s : State) {x : OfficePort} (hx : s.office.errors ≤ max16 → x.errors ≤ max16) :
    s.Keeps { s with office := x } :=
  ⟨fun ⟨hl, ho, h⟩ => ⟨hl, hx ho, h⟩, id⟩

theorem State.keeps_journal (s : State) {j : Journal} (hj : s.journal.unrecorded ≤ max16 → j.unrecorded ≤ max16) :
    s.Keeps { s with journal := j } :=
  ⟨fun ⟨hl, ho, hu, h⟩ => ⟨hl, ho, hj hu, h⟩, id⟩

theorem State.keeps_tables (s : State) {u : TableUnit}
    (hu : s.tables.mailbox.departments → u.mailbox.departments) : s.Keeps { s with tables := u } :=
  ⟨id, fun ⟨ha, hd, hh, hm, hrows⟩ => ⟨ha, hd, hh, hm, hu hrows⟩⟩

/-- R193: a reset. -/
theorem State.keeps_afterReset (s : State) (pending : List Instr) (mem : List Host.Cell) {m : Management}
    (hm : s.mgmt.inLimits → m.inLimits) : s.Keeps (State.afterReset pending mem m) := by
  refine ⟨fun ⟨_, _, _, hd, hu, hs, hms, hn, hr, _, _⟩ => ?_, fun _ => ?_⟩
  · obtain ⟨hd, hu, hs, hms, hn, hr⟩ := hm ⟨hd, hu, hs, hms, hn, hr⟩
    refine ⟨Nat.zero_le _, Nat.zero_le _, Nat.zero_le _, hd, hu, hs, hms, hn, hr, fun c hc => ?_, fun x hx => ?_⟩
    · rw [List.eq_of_mem_replicate hc]
      exact Nat.zero_le _
    · rw [List.eq_of_mem_replicate hx]
      exact ⟨Nat.zero_le _, Nat.zero_le _, Nat.zero_le _⟩
  · refine ⟨rfl, rfl, rfl, ?_, ?_, ?_⟩ <;> simp [State.afterReset, Waiting.initial, Copies.initial]

end Sys2Proof.Machine
end

section
/-! SUPPORT. Every operation of the line port, the channels, the Office Port, the lanes and the points keeps the two
invariants, in the order of the definitions. -/

namespace Sys2Proof.Machine

open Sys2Proof.Config

/-! ### Clocks and the line port -/

/-- R184: both clocks stop at their last values. -/
theorem State.keeps_advance (s : State) (n : Nat) : s.Keeps (s.advance n) := by
  refine State.keeps_mgmt s fun ⟨hd, _, _, _, hn, hr⟩ => ⟨hd, Nat.min_le_right _ _, ?_, ?_, hn, hr⟩
  · have : min (TimeOfDay.total s.mgmt.tod + n) todMax ≤ todMax := Nat.min_le_right _ _
    simp only [TimeOfDay.plus, todMax, max32] at this ⊢
    omega
  · simp only [TimeOfDay.plus]
    omega

theorem State.keeps_advanceTo (s : State) (d : Nat) : s.Keeps (s.advanceTo d) := keeps_advance s _

theorem State.keeps_lineBad (s : State) : s.Keeps s.lineBad := keeps_line s bump_le

theorem State.keeps_countUnrecorded (s : State) : s.Keeps s.countUnrecorded := keeps_journal s bump_le

/-! ### The answer decision -/

theorem State.keeps_decisionAct (s : State) (ch : Nat) (d : Decision) : s.Keeps (s.decisionAct ch d) := by
  unfold State.decisionAct
  split
  case h_4 =>
    split
    · exact keeps_quiet (by simp)
    · exact (keeps_countUnrecorded s).quiet (by simp)
  case h_6 =>
    split
    · exact keeps_quiet (by simp)
    · next hc => exact keeps_quiet (by simp [tally_claimSlot hc])
  all_goals
    repeat' split
    all_goals exact keeps_quiet (by simp)

theorem State.keeps_decisionRun (s : State) (ch : Nat) (stop : DecisionStop) (n : Nat) :
    s.Keeps (s.decisionRun ch stop n) := by
  induction n generalizing s with
  | zero => exact .refl _
  | succ n ih =>
    unfold State.decisionRun
    split
    · exact .refl _
    · split
      · exact .refl _
      · exact (keeps_decisionAct _ _ _).trans (ih _)

theorem State.keeps_decideOn (s : State) (ch : Nat) (stop : DecisionStop) : s.Keeps (s.decideOn ch stop) :=
  keeps_decisionRun s ch stop 8

/-! ### Channels -/

theorem State.keeps_settle (s : State) (ch : Nat) : s.Keeps (s.settle ch) :=
  (keeps_decideOn s ch .done).quiet (tally_takeLoss _ ch)

theorem State.keeps_carryOn (s : State) (ch : Nat) (stop : DecisionStop) : s.Keeps (s.carryOn ch stop) := by
  unfold State.carryOn
  dsimp only
  split
  · exact (keeps_decideOn s ch stop).quiet (by simp)
  · exact keeps_decideOn s ch stop

/-- A frame for a channel, whatever the channel does with it. -/
theorem State.keeps_lineFrame (s : State) (ok : Bool) (ch : Nat) {f : State → State} (hf : ∀ a : State, a.Keeps (f a)) :
    s.Keeps (s.lineFrame ok ch f) := by
  unfold State.lineFrame
  split
  · exact (((keeps_settle s.lineGood ch).quiet (tally_restartSilence _ ch)).trans (hf _)).behind (tally_lineGood s)
  · exact keeps_lineBad s

theorem State.keeps_channelError (s : State) (ch : Nat) : s.Keeps (s.channelError ch) := keeps_setChannel s ch bump_le

theorem State.keeps_notTaken (s : State) (ch : Nat) : s.Keeps (s.notTaken ch) := by
  unfold State.notTaken
  split
  · exact .refl _
  · exact keeps_channelError s ch

theorem State.keeps_callOpen (s : State) (ch : Nat) (called : Str) (caller : Option Str) (stop : DecisionStop) :
    s.Keeps (s.callOpen ch called caller stop) := by
  unfold State.callOpen
  split
  · exact (keeps_decideOn _ ch stop).behind (tally_setDecision s ch _)
  · exact keeps_channelError s ch

theorem State.keeps_senderInfo (s : State) (ch : Nat) (ident : Str) : s.Keeps (s.senderInfo ch ident) := by
  unfold State.senderInfo
  split
  · split
    · exact keeps_channelError s ch
    · split
      · exact keeps_channelError s ch
      · dsimp only
        split <;> exact keeps_quiet (by simp)
  · exact keeps_notTaken s ch

theorem State.keeps_pageStart (s : State) (ch page : Nat) (res : Resolution) (width : Width) :
    s.Keeps (s.pageStart ch page res width) := by
  unfold State.pageStart
  dsimp only
  split
  · split
    · exact keeps_channelError s ch
    · split
      · exact keeps_quiet (by simp)
      · split
        · exact keeps_channelError s ch
        · split <;> exact keeps_quiet (by simp)
  · exact keeps_notTaken s ch

theorem State.keeps_pageData (s : State) (ch seq : Nat) (payload : List Byte) :
    s.Keeps (s.pageData ch seq payload) := by
  unfold State.pageData
  split
  · exact keeps_quiet (by simp)
  · exact keeps_notTaken s ch

theorem State.keeps_pageEnd (s : State) (ch : Nat) (e : PageEnd) : s.Keeps (s.pageEnd ch e) := by
  unfold State.pageEnd
  dsimp only
  split
  · split
    · exact keeps_quiet (by simp)
    · exact keeps_quiet (by simp)
    · split
      · exact keeps_quiet (by simp)
      · next hh => exact keeps_quiet (by simp [tally_handOver hh])
  · exact keeps_notTaken s ch

theorem State.keeps_callClose (s : State) (ch : Nat) (cause : ShelfCause) : s.Keeps (s.callClose ch cause) := by
  unfold State.callClose
  split
  · exact keeps_channelError s ch
  · exact keeps_quiet (by simp)
  · exact keeps_quiet (by simp)

theorem State.keeps_completeWrite (s : State) (ch : Nat) (b : BufId) (r block : Nat) :
    s.Keeps (s.completeWrite ch b r block) := by
  refine ((keeps_carryOn _ ch .done).behind ?_).quiet (tally_writeDone _ ch b r)
  simp [State.storeBlock, State.portDone]

/-! ### The Office Port and the Management Unit's queues -/

theorem State.keeps_officeBad (s : State) : s.Keeps s.officeBad := keeps_office s bump_le

theorem State.keeps_countUnsent (s : State) (p n : Nat) : s.Keeps (s.countUnsent p n) :=
  keeps_setPoint s p fun ⟨hf, he, _⟩ => ⟨hf, he, Nat.min_le_right _ _⟩

theorem State.keeps_returnSlot (s : State) (p slot : Nat) (reason : ReturnReason) :
    s.Keeps (s.returnSlot p slot reason) := by
  unfold State.returnSlot
  split
  · exact keeps_quiet (by simp)
  · exact keeps_countUnsent s p 1

theorem State.keeps_returnSlots (s : State) (p : Nat) (slots : List Nat) (reason : ReturnReason) :
    s.Keeps (s.returnSlots p slots reason) := by
  induction slots generalizing s with
  | nil => exact .refl _
  | cons x t ih => exact (keeps_returnSlot s p x reason).trans (ih _)

theorem State.keeps_handReply (s : State) : s.Keeps s.handReply := by
  unfold State.handReply
  split
  · exact .refl _
  · split
    · exact .refl _
    · next r rest hr =>
      refine (keeps_mgmt s (m := { s.mgmt with
        replies := rest, replyOut := true, slot := slotAfter r s.mgmt.slot }) ?_).quiet (by simp)
      rintro ⟨hd, hu, hs, hms, hn, hi⟩
      refine ⟨hd, hu, hs, hms, hn, le_trans ?_ hi⟩
      rw [hr, List.countP_cons]
      exact Nat.le_add_right _ _

/-- R178: a reply that joins the list is that of the request holding the slot, or one of at most 7 immediate ones. -/
theorem State.keeps_addReply (s : State) {r : Reply}
    (h : r.holds = true ∨ s.mgmt.replies.countP (fun r => !r.holds) < immediateLimit) : s.Keeps (s.addReply r) := by
  refine (keeps_mgmt s ?_).trans (keeps_handReply _)
  rintro ⟨hd, hu, hs, hms, hn, hi⟩
  refine ⟨hd, hu, hs, hms, hn, ?_⟩
  rw [List.countP_append]
  obtain hr | hlt := h
  · simpa [List.countP_cons, hr] using hi
  · have hone : [r].countP (fun r => !r.holds) ≤ 1 := List.countP_le_length
    omega

theorem State.keeps_reply (s : State) (h : ReqHead) (k : ReqKind) (result : Result) (body : ReplyBody) :
    s.Keeps (s.reply h k result body) :=
  (keeps_mgmt s (m := { s.mgmt with slot := .replying }) id).trans (keeps_addReply _ (.inl rfl))

theorem State.Keeps.reply {s t : State} (ht : s.Keeps t) {h : ReqHead} {k : ReqKind} {result : Result}
    {body : ReplyBody} : s.Keeps (t.reply h k result body) := ht.trans (keeps_reply t h k result body)

theorem State.keeps_immediate (s : State) (h : ReqHead) (code : Nat) (result : Result) :
    s.Keeps (s.immediate h code result) := by
  unfold State.immediate
  split
  · next hlt => exact keeps_addReply s (.inr hlt)
  · exact keeps_mgmt s fun ⟨hd, hrest⟩ => ⟨bump_le hd, hrest⟩

/-- A management request, whatever it does once it has the slot. -/
theorem State.keeps_request (s : State) (h : ReqHead) (k : ReqKind) {f : State → State}
    (hf : ∀ a : State, a.Keeps (f a)) : s.Keeps (s.request h k f) := by
  unfold State.request State.answering State.taking
  split
  · exact (keeps_immediate _ _ _ _).behind (by simp)
  · split
    · exact (keeps_immediate _ _ _ _).behind (by simp)
    · split
      · exact (keeps_reply _ _ _ _ _).behind (by simp)
      · exact (hf _).behind (by simp)

theorem State.keeps_docRequest (s : State) (h : ReqHead) (k : ReqKind) (receipt : Nat) {f : State → Nat → Doc → State}
    (hf : ∀ (a : State) (slot : Nat) (d : Doc), a.Keeps (f a slot d)) : s.Keeps (s.docRequest h k receipt f) := by
  refine keeps_request s h k (fun a => ?_)
  split
  · exact keeps_reply _ _ _ _ _
  · split
    · exact keeps_reply _ _ _ _ _
    · exact hf _ _ _

theorem Management.inLimits.appendNotice {m : Management} (h : m.inLimits) (body : NoticeBody) :
    (m.appendNotice body).inLimits := by
  obtain ⟨hd, hu, hs, hms, hn, hr⟩ := h
  unfold Management.appendNotice
  split
  · exact ⟨hd, hu, hs, hms, by simp only [List.length_append, List.length_singleton]; omega, hr⟩
  · exact ⟨hd, hu, hs, hms, hn, hr⟩

/-- R190, R191: a notice joins the queue where fewer than 32 wait in it, in either mode. -/
theorem Management.inLimits.report {m : Management} (h : m.inLimits) (o : Occurrence) : (m.report o).inLimits := by
  unfold Management.report
  repeat' split
  · exact h.appendNotice _
  · exact h
  · exact h.appendNotice (.summary m.flags)
  · exact h

theorem Management.inLimits.occur {m : Management} (h : m.inLimits) (o : Occurrence) : (m.occur o).inLimits := by
  unfold Management.occur
  dsimp only
  split
  · exact h
  · exact Management.inLimits.report (m := { m with flags := setFlag (noticeCode o.kind) m.flags }) h o

theorem State.keeps_noticeSent (s : State) : s.Keeps s.noticeSent := by
  refine (keeps_mgmt s (m := { s.mgmt with notices := s.mgmt.notices.tail, noticeOut := false }) ?_).quiet (tally_handNotice _)
  rintro ⟨hd, hu, hs, hms, hn, hr⟩
  exact ⟨hd, hu, hs, hms, by simp only [List.length_tail]; omega, hr⟩

/-! ### The request held for a document -/

theorem State.keeps_completeHold (s : State) (h : ReqHead) (receipt : Nat) : s.Keeps (s.completeHold h receipt) := by
  unfold State.completeHold
  repeat' split
  all_goals exact (keeps_quiet (by simp)).reply

theorem State.keeps_completeReroute (s : State) (h : ReqHead) (receipt t : Nat) :
    s.Keeps (s.completeReroute h receipt t) := by
  unfold State.completeReroute
  repeat' split
  all_goals exact (keeps_quiet (by simp)).reply

theorem State.keeps_completePurge (s : State) (h : ReqHead) (receipt : Nat) : s.Keeps (s.completePurge h receipt) := by
  unfold State.completePurge
  repeat' split
  all_goals exact (keeps_quiet (by simp)).reply

theorem State.keeps_completeDeferred (s : State) (receipt : Nat) : s.Keeps (s.completeDeferred receipt) := by
  unfold State.completeDeferred
  split
  · split
    · split
      · exact keeps_completeHold _ _ _
      · exact keeps_completeReroute _ _ _ _
      · exact keeps_completePurge _ _ _
    · exact .refl _
  · exact .refl _

theorem State.keeps_rerouteNow (s : State) (h : ReqHead) (slot : Nat) (d : Doc) (t : Nat) (quarantined : Bool) :
    s.Keeps (s.rerouteNow h slot d t quarantined) := by
  unfold State.rerouteNow
  split <;> exact (keeps_quiet (by simp)).reply

/-! ### Lanes -/

theorem State.keeps_returnSmall (s : State) (i p : Nat) (small : List IntakeSlot) :
    s.Keeps (s.returnSmall i p small) := (keeps_countUnsent _ p _).behind (tally_produce s i _)

theorem State.keeps_tryPage (s : State) (i p : Nat) (b : BufId) (rest : List BufId) (k : Nat) (bytes : List Byte) :
    s.Keeps (s.tryPage i p b rest k bytes) := by
  unfold State.tryPage
  dsimp only
  split
  · exact (keeps_returnSmall s i p _).quiet ((tally_awaitSlot _ i p).trans (tally_setPoint _ p _ ⟨rfl, rfl, rfl⟩))
  · exact (keeps_returnSmall s i p _).quiet
      ((tally_sendPage _ i p _ b rest k bytes).trans (tally_setPoint _ p _ ⟨rfl, rfl, rfl⟩))

theorem State.keeps_laneBegins (s : State) (i : Nat) : s.Keeps (s.laneBegins i) := by
  unfold State.laneBegins
  dsimp only
  split
  · exact .refl _
  · split
    · split
      · exact keeps_tryPage _ _ _ _ _ _ _
      · exact .refl _
    · exact .refl _

theorem State.keeps_laneOn (s : State) (i : Nat) : s.Keeps (s.laneOn i) := by
  unfold State.laneOn
  split
  · exact ((keeps_laneBegins _ i).behind (tally_laneReads s i)).quiet (by simp)
  · exact keeps_quiet (by simp)

theorem State.keeps_completeIf (s : State) (was : LaneState) (receipt : Nat) : s.Keeps (s.completeIf was receipt) := by
  unfold State.completeIf
  split
  · exact keeps_completeDeferred _ _
  · exact .refl _

/-- R148 step 4: the failure count of the point stops at 255. -/
theorem State.keeps_failPoint (s : State) (p : Nat) (reason : SuspendReason) : s.Keeps (s.failPoint p reason) := by
  have hcount : s.Keeps (s.setPoint p { s.point p with failures := bump max8 (s.point p).failures }) :=
    keeps_setPoint s p fun ⟨hf, he, hu⟩ => ⟨bump_le hf, he, hu⟩
  unfold State.failPoint
  dsimp only
  split
  · exact hcount.quiet (by simp)
  · exact hcount

theorem State.keeps_suspendCounted (s : State) (i : Nat) (reason : SuspendReason) :
    s.Keeps (s.suspendCounted i reason) := by
  unfold State.suspendCounted
  split
  · exact (((keeps_failPoint _ _ reason).behind (tally_afterAttempt s _ _)).quiet
      ((tally_endLane _ i).trans (tally_suspendNotices _ _ _ reason))).trans (keeps_completeIf _ _ _)
  · exact .refl _

theorem State.keeps_suspendUncounted (s : State) (i : Nat) (reason : SuspendReason) :
    s.Keeps (s.suspendUncounted i reason) := by
  unfold State.suspendUncounted
  split
  · exact (keeps_completeIf _ _ _).behind (by simp)
  · exact .refl _

theorem State.keeps_suspendServing (s : State) (p : Nat) (reason : SuspendReason) :
    s.Keeps (s.suspendServing p reason) := by
  unfold State.suspendServing
  split
  · exact .refl _
  · exact keeps_suspendUncounted _ _ _

theorem State.keeps_completeDelivery (s : State) (i slot : Nat) (d : Doc) (p : Nat) :
    s.Keeps (s.completeDelivery i slot d p) := by
  unfold State.completeDelivery
  dsimp only
  refine (((keeps_setPoint _ p ?_).behind ?_).quiet (tally_endLane _ i)).trans (keeps_completeIf _ _ _)
  · exact fun ⟨_, he, hu⟩ => ⟨Nat.zero_le _, he, hu⟩
  · simp

theorem State.keeps_endWithdrawal (s : State) (i : Nat) : s.Keeps (s.endWithdrawal i) := by
  unfold State.endWithdrawal
  split
  · exact .refl _
  · exact (keeps_completeDeferred _ _).behind (by simp)

theorem State.keeps_withdrawalMayEnd (s : State) (i : Nat) : s.Keeps (s.withdrawalMayEnd i) := by
  unfold State.withdrawalMayEnd
  dsimp only
  split
  · exact keeps_endWithdrawal _ _
  · exact .refl _

/-! ### Delivery frames and lane timers -/

theorem State.keeps_pointError (s : State) (p : Nat) : s.Keeps (s.pointError p) :=
  keeps_setPoint s p fun ⟨hf, he, hu⟩ => ⟨hf, bump_le he, hu⟩

/-- A delivery frame, whatever its point does with it. -/
theorem State.keeps_deliveryFrame (s : State) (ok : Bool) (p : Nat) {f : State → State}
    (hf : ∀ a : State, a.Keeps (f a)) : s.Keeps (s.deliveryFrame ok p f) := by
  unfold State.deliveryFrame
  dsimp only
  split
  · split
    · exact (hf _).behind (by simp)
    · exact (keeps_pointError _ p).behind (by simp)
  · exact (keeps_officeBad _).behind (by simp)

theorem State.keeps_atReady (s : State) (p : Nat) {f : State → State} (hf : ∀ a : State, a.Keeps (f a)) :
    s.Keeps (s.atReady p f) := by
  unfold State.atReady
  split
  · exact keeps_pointError s p
  · exact hf _

theorem State.keeps_pointUp (s : State) (p : Nat) : s.Keeps (s.pointUp p) := by
  have hfresh : s.Keeps (s.setPoint p { s.point p with intake := [], failures := 0 }) :=
    keeps_setPoint s p fun ⟨_, he, hu⟩ => ⟨Nat.zero_le _, he, hu⟩
  unfold State.pointUp
  dsimp only
  split
  · exact (hfresh.quiet (by simp)).trans (keeps_suspendServing _ _ _)
  · exact hfresh.quiet (by simp)

theorem State.keeps_pointDown (s : State) (p : Nat) : s.Keeps (s.pointDown p) := by
  unfold State.pointDown
  split
  · exact .refl _
  · exact (keeps_suspendServing _ _ _).behind (by simp)

theorem State.keeps_accepted (s : State) (i : Nat) (d : Doc) : s.Keeps (s.accepted i d) :=
  (keeps_laneOn _ i).behind (by simp [State.clearSends])

theorem State.keeps_tryWaiting (s : State) (p : Nat) : s.Keeps (s.tryWaiting p) := by
  unfold State.tryWaiting
  split
  · exact .refl _
  · split
    · exact keeps_laneOn _ _
    · exact .refl _

theorem State.keeps_intakePost (s : State) (p slot cap : Nat) : s.Keeps (s.intakePost p slot cap) := by
  unfold State.intakePost
  dsimp only
  split
  · exact keeps_returnSlot _ _ _ _
  · split
    · exact keeps_returnSlot _ _ _ _
    · exact (keeps_tryWaiting _ _).behind (by simp)

theorem State.keeps_pageAcked (s : State) (i p : Nat) (b : BufId) (k : Nat) : s.Keeps (s.pageAcked i p b k) := by
  unfold State.pageAcked
  split
  · exact .refl _
  · next slot d _ =>
    dsimp only
    refine State.Keeps.behind (t := s.ackPage i slot d p b k) ?_ (by simp)
    split
    · exact .refl _
    · split
      · exact keeps_completeDelivery _ _ _ _ _
      · split
        · exact .refl _
        · exact keeps_laneOn _ _

theorem State.keeps_pageRefused (s : State) (i : Nat) (b : BufId) (k : Nat) (bytes : List Byte) :
    s.Keeps (s.pageRefused i b k bytes) := by
  unfold State.pageRefused
  dsimp only
  split
  · exact keeps_quiet (by simp)
  · split
    · exact (keeps_laneOn _ _).behind (by simp)
    · exact keeps_suspendCounted _ _ _

theorem State.keeps_laneExpiry (s : State) (i : Nat) (timer : Option Nat) (reason : SuspendReason) :
    s.Keeps (s.laneExpiry i timer reason) := by
  unfold State.laneExpiry
  split
  · exact .refl _
  · exact (keeps_advanceTo _ _).trans (keeps_suspendCounted _ _ _)

/-! ### Read completions, withdrawals and the loss of the office link -/

theorem State.keeps_takeBlock (s : State) (i r pos receipt : Nat) (bytes : List Byte) :
    s.Keeps (s.takeBlock i r pos receipt bytes) := by
  unfold State.takeBlock
  dsimp only
  split
  · exact keeps_quiet (by simp)
  · split
    · exact keeps_quiet (by simp)
    · exact (keeps_laneOn _ _).behind (by simp)

theorem State.keeps_readDone (s : State) (i r pos receipt : Nat) (bytes : List Byte) :
    s.Keeps (s.readDone i r pos receipt bytes) := by
  unfold State.readDone
  split
  · split
    · exact (keeps_withdrawalMayEnd _ i).behind (by simp)
    · exact keeps_takeBlock _ _ _ _ _ _
  · exact ((keeps_laneOn _ i).trans (keeps_withdrawalMayEnd _ i)).behind (by simp)

theorem State.keeps_completeRead (s : State) (i r pos block receipt : Nat) (decay : List (Nat × Byte)) :
    s.Keeps (s.completeRead i r pos block receipt decay) := by
  unfold State.completeRead
  dsimp only
  refine (keeps_readDone _ i r pos receipt _).behind ?_
  split <;> simp [State.decayBlock, State.portDone]

theorem State.keeps_takeWithdrawal (s : State) (receipt : Nat) : s.Keeps (s.takeWithdrawal receipt) := by
  unfold State.takeWithdrawal
  split
  · exact keeps_completeDeferred _ _
  · exact keeps_quiet (by simp)

theorem State.keeps_lanesDown (s : State) (i n : Nat) : s.Keeps (s.lanesDown i n) := by
  induction n generalizing s i with
  | zero => exact .refl _
  | succ n ih =>
    unfold State.lanesDown
    dsimp only
    split
    · exact ih _ _
    · exact (keeps_suspendUncounted _ _ _).trans (ih _ _)

theorem State.keeps_officeDown (s : State) : s.Keeps s.officeDown := by
  have hdiscard : ({ s with office := { s.office with queue := [] } }.discardAll s.office.queue).tally = s.tally :=
    (tally_discardAll _ _).trans (tally_office s _ rfl)
  unfold State.officeDown
  refine (keeps_lanesDown _ 0 laneCount).behind ((tally_pointsDown _ 1 pointCount).trans ?_)
  exact (tally_portReport _ _).trans ((tally_office _ _ rfl).trans hdiscard)

/-! ### Resets and the reports of the Office Port -/

theorem State.keeps_coldReset (s : State) (cause : ResetCause) : s.Keeps (s.coldReset cause) :=
  keeps_afterReset s s.pending s.store.mem fun _ => by
    simp [Management.inLimits, Management.afterReset, noticeLimit]

theorem State.keeps_restartReset (s : State) : s.Keeps s.restartReset :=
  keeps_afterReset s s.pending s.store.mem fun ⟨_, _, hs, hms, _, _⟩ => by
    simp [Management.inLimits, Management.afterReset, noticeLimit, hs, hms]

theorem State.keeps_laneFrameSent (s : State) (i : Nat) (f : OfficeFrame) : s.Keeps (s.laneFrameSent i f) := by
  unfold State.laneFrameSent
  split
  · exact keeps_quiet (by simp)
  · exact keeps_quiet (by simp)
  · exact (keeps_withdrawalMayEnd _ _).behind (by simp)
  · exact .refl _

theorem State.keeps_laneSent (s : State) (i : Nat) (f : OfficeFrame) : s.Keeps (s.laneSent i f) := by
  unfold State.laneSent
  dsimp only
  split
  · exact ((keeps_laneFrameSent _ i f).trans (keeps_laneOn _ i)).behind (by simp)
  · exact (keeps_laneOn _ i).behind (by simp)

theorem State.keeps_replyDone (s : State) (restart : Bool) : s.Keeps (s.replyDone restart) := by
  unfold State.replyDone
  split
  · exact keeps_restartReset s
  · exact (keeps_mgmt s (m := { s.mgmt with replyOut := false }) id).trans (keeps_handReply _)

theorem State.keeps_sentTo (s : State) (h : Hander) (f : OfficeFrame) : s.Keeps (s.sentTo h f) := by
  unfold State.sentTo
  split
  · exact keeps_laneSent _ _ _
  · exact keeps_replyDone _ _
  · exact keeps_noticeSent _
  · exact .refl _

/-! ### The Table Unit -/

theorem Copies.departments_setStaging {c : Copies (Nat × MailRow)} (h : c.departments) {l : List (Nat × MailRow)}
    (hl : ∀ e ∈ l, e.1 < mailboxCount) : (c.setStaging l).departments := ⟨h.1, hl⟩

theorem departments_putRows {rows l : List (Nat × MailRow)} (hr : ∀ e ∈ rows, e.1 < mailboxCount)
    (hl : ∀ e ∈ l, e.1 < mailboxCount) : ∀ e ∈ putRows rows l, e.1 < mailboxCount := by
  induction rows generalizing l with
  | nil => exact hl
  | cons a t ih =>
    refine ih (fun e he => hr e (List.mem_cons_of_mem _ he)) (fun e he => ?_)
    obtain rfl | he := mem_tablePut he
    · exact hr a List.mem_cons_self
    · exact hl e he

theorem TableUnit.departments_clear (u : TableUnit) (t : TableId) (h : u.mailbox.departments) :
    (u.clear t).mailbox.departments := by
  cases t with
  | mailbox => exact Copies.departments_setStaging h (by simp)
  | _ => exact h

theorem TableUnit.departments_revert (u : TableUnit) (t : TableId) (h : u.mailbox.departments) :
    (u.revert t).mailbox.departments := by
  cases t with
  | mailbox => exact Copies.departments_setStaging h h.1
  | _ => exact h

/-- R162: a STAGE_PUT inside its ranges puts rows of department mailboxes alone. -/
theorem TableUnit.departments_put {u v : TableUnit} {es : StageEntries} (hok : stageEntriesOk es = true)
    (hput : u.put es = some v) (h : u.mailbox.departments) : v.mailbox.departments := by
  cases es with
  | routing l =>
    obtain ⟨_, heq⟩ := Option.ite_none_right_eq_some.1 hput
    obtain rfl := Option.some.inj heq
    exact h
  | screening l =>
    obtain ⟨_, heq⟩ := Option.ite_none_right_eq_some.1 hput
    obtain rfl := Option.some.inj heq
    exact h
  | mailbox l =>
    obtain rfl := Option.some.inj hput
    refine Copies.departments_setStaging h (departments_putRows (fun e he => ?_) h.2)
    simp only [stageEntriesOk, Bool.and_eq_true, List.all_eq_true] at hok
    have hrow := hok.2 e he
    simp only [mailRowOk, Bool.and_eq_true, decide_eq_true_eq] at hrow
    omega
  | point l =>
    obtain rfl := Option.some.inj hput
    exact h

theorem TableUnit.departments_remove (u : TableUnit) (ks : StageKeys) (h : u.mailbox.departments) :
    (u.remove ks).mailbox.departments := by
  cases ks with
  | mailbox l => exact Copies.departments_setStaging h fun e he => h.2 e (List.mem_of_mem_filter he)
  | _ => exact h

theorem TableUnit.departments_swap (u : TableUnit) (t : TableId) (h : u.mailbox.departments) :
    (u.swap t).mailbox.departments := by
  cases t with
  | mailbox => exact ⟨h.2, h.2⟩
  | _ => exact h

/-- R171: what the Mailbox Unit is told of a swap names department mailboxes alone. -/
theorem State.keeps_swapEffects (s : State) (t : TableId) : s.Keeps (s.swapEffects t) := by
  unfold State.swapEffects
  split
  · refine ⟨id, fun ⟨ha, hd, hh, hm, hlive, hstaging⟩ => ⟨ha, hd, hh, fun l hl m hml => ?_, hlive, hstaging⟩⟩
    obtain hl | hl := List.mem_append.1 hl
    · exact hm l hl m hml
    · obtain rfl := List.mem_singleton.1 hl
      obtain hml | hml := List.mem_append.1 hml
      · obtain ⟨e, he, rfl⟩ := List.mem_map.1 hml
        exact hlive e (List.mem_of_mem_filter he)
      · obtain ⟨e, he, rfl⟩ := List.mem_map.1 hml
        exact hstaging e (List.mem_of_mem_filter he)
  · exact keeps_quiet (by simp)
  · exact .refl _

theorem State.keeps_completeCommit (s : State) (h : ReqHead) (t : TableId) : s.Keeps (s.completeCommit h t) := by
  unfold State.completeCommit
  split
  · exact keeps_reply _ _ _ _ _
  · exact ((keeps_swapEffects s t).trans
      (keeps_tables (s.swapEffects t) (TableUnit.departments_swap (s.swapEffects t).tables t))).reply

/-! ### Effects of a swap -/

theorem State.tally_openBoxes (s : State) {ms : List Nat} (h : ∀ m ∈ ms, m < mailboxCount) :
    (s.openBoxes ms).tally = s.tally := by
  induction ms generalizing s with
  | nil => rfl
  | cons m t ih =>
    rw [State.openBoxes, ih _ fun k hk => h k (List.mem_cons_of_mem _ hk), tally_flagReport,
      tally_setBox_department s m _ (h m List.mem_cons_self)]

theorem State.keeps_cutIntakes (s : State) (rows : List (Nat × PointRow)) : s.Keeps (s.cutIntakes rows) := by
  induction rows generalizing s with
  | nil => exact .refl _
  | cons e t ih => exact ((keeps_returnSlots _ _ _ _).behind (by simp)).trans (ih _)

/-! ### Requests on a channel or a mailbox -/

theorem State.keeps_channelControl (s : State) (h : ReqHead) (ch : Nat) {f : Channel → Channel}
    (hf : ∀ c : Channel, (f c).errors ≤ c.errors) : s.Keeps (s.channelControl h ch f) := by
  refine keeps_request s h .channelControl (fun a => ?_)
  split
  · exact (keeps_setChannel a ch (le_trans (hf _))).reply
  · exact keeps_reply _ _ _ _ _

/-- R111: an action on a department mailbox in use; mailbox 64 takes none. -/
theorem State.keeps_mailboxControl (s : State) (h : ReqHead) (m : Nat) {f : State → State}
    (hf : ∀ a : State, m < mailboxCount → (f a).tally = a.tally) : s.Keeps (s.mailboxControl h m f) := by
  refine keeps_request s h .mailboxControl (fun a => ?_)
  split
  · exact keeps_reply _ _ _ _ _
  · next hle =>
    split
    · exact keeps_reply _ _ _ _ _
    · next hne =>
      have hm : m < mailboxCount := by
        simp only [Bool.or_eq_true, decide_eq_true_eq, not_or] at hne
        have hq := hne.1
        simp only [mailboxCount, quarantine] at hle hq ⊢
        omega
      exact (keeps_quiet (hf a hm)).reply

end Sys2Proof.Machine
end

section
/-! PROOFS. Every command, and so every step, keeps the two invariants: the counts, clocks and queues within their
limits, and mailbox 64. -/

namespace Sys2Proof.Machine

open Sys2Proof.Config

theorem State.keeps_act {f : State → State} {s t : State} (h : act f s = .next t) (hf : s.Keeps (f s)) : s.Keeps t := by
  unfold act at h
  split at h
  · cases h
    exact .refl _
  · cases h
    exact hf

/-! ### Commands of the line port and the memory port -/

theorem State.keeps_execCallOpen {s t : State} {ch : Nat} {part : CallOpenPart} (h : execCallOpen ch part s = .next t) :
    s.Keeps t := by
  refine keeps_act h ?_
  split
  · exact keeps_lineFrame _ _ _ (fun a => keeps_callOpen a _ _ _ _)
  · exact keeps_carryOn _ _ _

theorem State.keeps_execLineSilenceExpiry {s t : State} (h : execLineSilenceExpiry s = .next t) : s.Keeps t := by
  refine keeps_act h ?_
  split
  · exact .refl _
  · exact (keeps_advanceTo s _).quiet (tally_lineDown _)

theorem State.keeps_execLineFrameSent {s t : State} (h : execLineFrameSent s = .next t) : s.Keeps t := by
  refine keeps_act h ?_
  split
  · exact .refl _
  · exact keeps_line s id

theorem State.keeps_execChannelLinkLoss {s t : State} {ch : Nat} (h : execChannelLinkLoss ch s = .next t) :
    s.Keeps t := by
  refine keeps_act h ?_
  split
  · exact keeps_settle s ch
  · exact .refl _

theorem State.keeps_execChannelSilenceExpiry {s t : State} {ch : Nat} (h : execChannelSilenceExpiry ch s = .next t) :
    s.Keeps t := by
  refine keeps_act h ?_
  split
  · exact .refl _
  · exact (keeps_advanceTo s _).quiet (tally_drop _ ch .timeout)

theorem State.keeps_execReleaseTimerExpiry {s t : State} {ch : Nat} (h : execReleaseTimerExpiry ch s = .next t) :
    s.Keeps t := by
  refine keeps_act h ?_
  split
  · exact .refl _
  · exact (keeps_advanceTo s _).quiet ((tally_raise _ _ _).trans (tally_closeCall _ ch .noRelease))

theorem State.keeps_execChannelIntakeAbort {s t : State} {ch : Nat} (h : execChannelIntakeAbort ch s = .next t) :
    s.Keeps t := by
  refine keeps_act h ?_
  dsimp only
  split
  · exact .refl _
  · refine (keeps_carryOn s ch .done).trans (keeps_quiet ?_)
    split <;> simp

theorem State.keeps_execWriteCompletion {s t : State} (h : execWriteCompletion s = .next t) : s.Keeps t := by
  unfold execWriteCompletion at h
  split at h
  · split at h
    · exact keeps_act h (keeps_completeWrite _ _ _ _ _)
    · cases h
  · exact keeps_act h (.refl _)

theorem State.keeps_execReadCompletion {s t : State} {decay : List (Nat × Byte)}
    (h : execReadCompletion decay s = .next t) : s.Keeps t := by
  unfold execReadCompletion at h
  split at h
  · split at h
    · exact keeps_act h (keeps_completeRead _ _ _ _ _ _ _)
    · cases h
  · exact keeps_act h (.refl _)

/-! ### Commands of the delivery points, the lanes and the Office Port -/

theorem State.keeps_execAccept {s t : State} {p receipt : Nat} (h : execAccept p receipt s = .next t) : s.Keeps t := by
  refine keeps_act h (keeps_deliveryFrame _ _ _ fun a => keeps_atReady _ _ fun b => ?_)
  split
  · exact keeps_pointError _ _
  · exact keeps_accepted _ _ _

theorem State.keeps_execDecline {s t : State} {p receipt retry : Nat} (h : execDecline p receipt retry s = .next t) :
    s.Keeps t := by
  refine keeps_act h (keeps_deliveryFrame _ _ _ fun a => keeps_atReady _ _ fun b => ?_)
  split
  · exact keeps_pointError _ _
  · exact keeps_quiet (by simp [State.declined])

theorem State.keeps_execPageAck {s t : State} {p slot : Nat} (h : execPageAck p slot s = .next t) : s.Keeps t := by
  refine keeps_act h (keeps_deliveryFrame _ _ _ fun a => keeps_atReady _ _ fun b => ?_)
  split
  · exact keeps_pointError _ _
  · exact keeps_pageAcked _ _ _ _ _

theorem State.keeps_execPageNak {s t : State} {p slot : Nat} (h : execPageNak p slot s = .next t) : s.Keeps t := by
  refine keeps_act h (keeps_deliveryFrame _ _ _ fun a => keeps_atReady _ _ fun b => ?_)
  split
  · exact keeps_pointError _ _
  · exact keeps_pageRefused _ _ _ _ _

theorem State.keeps_execBadOfficeFrame {s t : State} {crcOk : Bool} (h : execBadOfficeFrame crcOk s = .next t) :
    s.Keeps t := by
  refine keeps_act h ?_
  split
  · exact (keeps_officeBad _).behind (tally_officeGood s)
  · exact keeps_officeBad s

theorem State.keeps_execOfficeKeepaliveSend {s t : State} (h : execOfficeKeepaliveSend s = .next t) : s.Keeps t := by
  refine keeps_act h ?_
  split
  · exact .refl _
  · exact (keeps_advanceTo s _).quiet (tally_officeSent _ _)

theorem State.keeps_execOfficeSilenceExpiry {s t : State} (h : execOfficeSilenceExpiry s = .next t) : s.Keeps t := by
  refine keeps_act h ?_
  split
  · exact .refl _
  · exact (keeps_advanceTo s _).trans (keeps_officeDown _)

theorem State.keeps_execFrameSentReport {s t : State} (h : execFrameSentReport s = .next t) : s.Keeps t := by
  refine keeps_act h ?_
  split
  · exact .refl _
  · exact ((keeps_sentTo _ _ _).behind (tally_officeSent _ _)).behind (tally_office s _ rfl)

theorem State.keeps_execFrameDiscardedReport {s t : State} {dest : Reportee}
    (h : execFrameDiscardedReport dest s = .next t) : s.Keeps t := by
  refine keeps_act h ?_
  split
  · split
    · exact (keeps_laneOn _ _).behind (by simp [State.laneDiscarded])
    · exact .refl _
  · split
    · exact (keeps_replyDone _ _).behind (tally_waiting s _ rfl)
    · exact (keeps_mgmt _ id).behind (tally_waiting s _ rfl)
    · exact .refl _

theorem State.keeps_execOfficeLinkStateReport {s t : State} (h : execOfficeLinkStateReport s = .next t) :
    s.Keeps t := by
  refine keeps_act h ?_
  dsimp only
  split
  · split <;> exact keeps_quiet (by simp)
  · exact .refl _

/-! ### Commands that an owner takes of its own -/

theorem State.keeps_execRetentionExpiry {s t : State} {receipt : Nat} (h : execRetentionExpiry receipt s = .next t) :
    s.Keeps t := by
  refine keeps_act h ?_
  split
  · exact .refl _
  · split
    · exact (keeps_advanceTo s _).quiet (tally_freeDoc _ _ _ _)
    · exact .refl _

theorem State.keeps_execNotBeforeReached {s t : State} {m : Nat} (h : execNotBeforeReached m s = .next t) :
    s.Keeps t := by
  refine keeps_act h ?_
  split
  · split
    · exact .refl _
    · exact (keeps_advanceTo s _).quiet ((tally_trigger _ _).trans (tally_setBox _ m _ rfl))
  · exact .refl _

/-- R28, R89, R118, R178: a count cleared is 0. -/
theorem State.keeps_clearCount (s : State) (name : CountName) : s.Keeps (s.clearCount name) := by
  cases name with
  | unrecordedRefusals => exact keeps_journal s fun _ => Nat.zero_le _
  | lineFrameErrors => exact keeps_line s fun _ => Nat.zero_le _
  | officeFrameErrors => exact keeps_office s fun _ => Nat.zero_le _
  | droppedRequests => exact keeps_mgmt s fun ⟨_, h⟩ => ⟨Nat.zero_le _, h⟩

theorem State.keeps_execCountClear {s t : State} {name : CountName} (h : execCountClear name s = .next t) :
    s.Keeps t := by
  refine keeps_act h ?_
  split
  · exact (keeps_clearCount _ name).behind (tally_waiting s _ rfl)
  · exact .refl _

theorem State.keeps_execNoticeOccurrence {s t : State} {src : Source} (h : execNoticeOccurrence src s = .next t) :
    s.Keeps t := by
  refine keeps_act h ?_
  split
  · exact .refl _
  · next o rest _ =>
    refine ((keeps_mgmt _ ?_).behind (tally_waiting s { s.waiting with occurrences := rest } rfl)).quiet
      (tally_handNotice _)
    exact fun hm => hm.occur o

theorem State.keeps_execWithdrawalRequest {s t : State} (h : execWithdrawalRequest s = .next t) : s.Keeps t := by
  refine keeps_act h ?_
  split
  · next r kind receipt _ =>
    exact (keeps_mgmt s (m := { s.mgmt with slot := .deferred r kind receipt true }) id).trans
      (keeps_takeWithdrawal _ _)
  · exact .refl _

theorem State.keeps_execCommitCompletion {s t : State} (h : execCommitCompletion s = .next t) : s.Keeps t := by
  refine keeps_act h ?_
  split
  · exact keeps_completeCommit _ _ _
  · exact .refl _

/-- R110, R173: what the Mailbox Unit opens are department mailboxes. -/
theorem State.keeps_execMailboxSwapEffects {s t : State} (h : execMailboxSwapEffects s = .next t) : s.Keeps t := by
  refine keeps_act h ?_
  split
  · exact .refl _
  · next rows rest hw =>
    refine State.Keeps.quiet (t := ({ s with waiting := { s.waiting with mailSwaps := rest } } : State).openBoxes rows)
      ⟨fun hl => by simpa [State.limitsOk] using hl, fun hq => ?_⟩ rfl
    obtain ⟨ha, hd, hh, hm, hrows⟩ := hq
    have hopened : ∀ m ∈ rows, m < mailboxCount := hm rows (by simp [hw])
    refine (keeps_quiet (tally_openBoxes _ hopened)).2 ⟨ha, hd, hh, fun l hl => hm l ?_, hrows⟩
    simpa [hw] using .inr hl

theorem State.keeps_execPointSwapEffects {s t : State} (h : execPointSwapEffects s = .next t) : s.Keeps t := by
  refine keeps_act h ?_
  split
  · exact .refl _
  · exact ((keeps_cutIntakes _ _).behind (by simp)).quiet (tally_trigger _ _)

/-! ### Requests that write a count, a clock or a table -/

theorem State.keeps_execUnknownRequest {s t : State} {r : ReqHead} {kind : Nat}
    (h : execUnknownRequest r kind s = .next t) : s.Keeps t := by
  refine keeps_act h ?_
  dsimp only
  split <;> exact (keeps_immediate _ _ _ _).behind (by simp [State.answering])

theorem State.keeps_execSetClock {s t : State} {r : ReqHead} {secs ms : Nat} (h : execSetClock r secs ms s = .next t) :
    s.Keeps t := by
  refine keeps_act h (keeps_request _ _ _ fun a => ?_)
  split
  · next hok => exact (keeps_mgmt a (m := { a.mgmt with tod := ⟨secs, ms⟩, clockSet := true })
      fun ⟨hd, hu, _, _, hrest⟩ => ⟨hd, hu, hok.2, hok.1, hrest⟩).reply
  · exact keeps_reply _ _ _ _ _

theorem State.keeps_execRestart {s t : State} {r : ReqHead} (h : execRestart r s = .next t) : s.Keeps t := by
  refine keeps_act h (keeps_request _ _ _ fun a => ?_)
  exact (keeps_mgmt a (m := { a.mgmt with slot := .restarting }) id).trans (keeps_addReply _ (.inl rfl))

theorem State.keeps_execStagePut {s t : State} {r : ReqHead} {es : StageEntries} (h : execStagePut r es s = .next t) :
    s.Keeps t := by
  refine keeps_act h (keeps_request _ _ _ fun a => ?_)
  split
  · next hok =>
    split
    · exact keeps_reply _ _ _ _ _
    · next hput => exact (keeps_tables a (TableUnit.departments_put hok hput)).reply
  · exact keeps_reply _ _ _ _ _

theorem State.keeps_execStageRemove {s t : State} {r : ReqHead} {ks : StageKeys}
    (h : execStageRemove r ks s = .next t) : s.Keeps t := by
  refine keeps_act h (keeps_request _ _ _ fun a => ?_)
  split
  · exact (keeps_tables a (TableUnit.departments_remove a.tables ks)).reply
  · exact keeps_reply _ _ _ _ _

/-- R141: the two counts of a point cleared. -/
theorem State.keeps_execPointRead {s t : State} {r : ReqHead} {p clear : Nat}
    (h : execPointRead r p clear s = .next t) : s.Keeps t := by
  refine keeps_act h (keeps_request _ _ _ fun a => ?_)
  split
  · refine State.Keeps.reply ?_
    unfold State.clearPoint
    split
    · exact keeps_setPoint a p fun ⟨hf, _, _⟩ => ⟨hf, Nat.zero_le _, Nat.zero_le _⟩
    · exact .refl _
  · exact keeps_reply _ _ _ _ _

theorem State.keeps_execDocHold {s t : State} {r : ReqHead} {receipt : Nat} (h : execDocHold r receipt s = .next t) :
    s.Keeps t := by
  refine keeps_act h (keeps_docRequest _ _ _ _ fun a slot d => ?_)
  split
  · exact (keeps_quiet (tally_holdDoc a slot d)).reply
  · exact keeps_mgmt a id
  · exact keeps_reply _ _ _ _ _

theorem State.keeps_execDocRelease {s t : State} {r : ReqHead} {receipt : Nat}
    (h : execDocRelease r receipt s = .next t) : s.Keeps t := by
  refine keeps_act h (keeps_docRequest _ _ _ _ fun a slot d => ?_)
  repeat' split
  all_goals exact (keeps_quiet (by simp)).reply

theorem State.keeps_execDocReroute {s t : State} {r : ReqHead} {receipt target : Nat}
    (h : execDocReroute r receipt target s = .next t) : s.Keeps t := by
  refine keeps_act h (keeps_request _ _ _ fun a => ?_)
  split
  · exact keeps_reply _ _ _ _ _
  · split
    · split
      · exact keeps_rerouteNow _ _ _ _ _ _
      · exact keeps_rerouteNow _ _ _ _ _ _
      · exact keeps_mgmt a id
      · exact keeps_reply _ _ _ _ _
    · exact keeps_reply _ _ _ _ _

theorem State.keeps_execDocPurge {s t : State} {r : ReqHead} {receipt : Nat} (h : execDocPurge r receipt s = .next t) :
    s.Keeps t := by
  refine keeps_act h (keeps_docRequest _ _ _ _ fun a slot d => ?_)
  split
  · exact keeps_reply _ _ _ _ _
  · exact keeps_mgmt a id
  · exact (keeps_quiet (tally_freeDoc a slot d true)).reply

theorem State.keeps_execMailboxResume {s t : State} {r : ReqHead} {m : Nat} (h : execMailboxResume r m s = .next t) :
    s.Keeps t := by
  refine keeps_act h (keeps_mailboxControl _ _ _ fun a hm => ?_)
  split
  · rfl
  · exact (tally_flagReport _ m false).trans (tally_setBox_department a m _ hm)

/-! ### Every command -/

/-- Every command keeps the counts, clocks and queues within their limits, and mailbox 64 as it is. -/
theorem exec_keeps {c : Instr} {s t : State} (h : exec c s = .next t) : s.Keeps t := by
  cases c <;> dsimp only [exec] at h
  case callOpen ch part => exact State.keeps_execCallOpen h
  case senderInfo ch ident => exact State.keeps_act h (State.keeps_lineFrame _ _ _ fun a => a.keeps_senderInfo _ _)
  case pageStart ch page res width =>
    exact State.keeps_act h (State.keeps_lineFrame _ _ _ fun a => a.keeps_pageStart _ _ _ _)
  case pageData ch seq payload => exact State.keeps_act h (State.keeps_lineFrame _ _ _ fun a => a.keeps_pageData _ _ _)
  case pageEnd ch lines errs verdict =>
    exact State.keeps_act h (State.keeps_lineFrame _ _ _ fun a => a.keeps_pageEnd _ _)
  case callClose ch cause => exact State.keeps_act h (State.keeps_lineFrame _ _ _ fun a => a.keeps_callClose _ _)
  case badLineFrame => exact State.keeps_act h s.keeps_lineBad
  case lineSilenceExpiry => exact State.keeps_execLineSilenceExpiry h
  case lineFrameSent => exact State.keeps_execLineFrameSent h
  case channelLinkLoss ch => exact State.keeps_execChannelLinkLoss h
  case channelSilenceExpiry ch => exact State.keeps_execChannelSilenceExpiry h
  case releaseTimerExpiry ch => exact State.keeps_execReleaseTimerExpiry h
  case channelIntakeAbort ch => exact State.keeps_execChannelIntakeAbort h
  case writeCompletion => exact State.keeps_execWriteCompletion h
  case readCompletion decay => exact State.keeps_execReadCompletion h
  case pointUp p => exact State.keeps_act h (State.keeps_deliveryFrame _ _ _ fun a => a.keeps_pointUp _)
  case pointDown p => exact State.keeps_act h (State.keeps_deliveryFrame _ _ _ fun a => a.keeps_pointDown _)
  case accept p receipt => exact State.keeps_execAccept h
  case decline p receipt retry => exact State.keeps_execDecline h
  case intakePost p slot cap =>
    exact State.keeps_act h
      (State.keeps_deliveryFrame _ _ _ fun a => a.keeps_atReady _ fun b => b.keeps_intakePost _ _ _)
  case pageAck p slot => exact State.keeps_execPageAck h
  case pageNak p slot => exact State.keeps_execPageNak h
  case badOfficeFrame crcOk => exact State.keeps_execBadOfficeFrame h
  case officeSilenceExpiry => exact State.keeps_execOfficeSilenceExpiry h
  case officeKeepaliveSend => exact State.keeps_execOfficeKeepaliveSend h
  case frameSentReport => exact State.keeps_execFrameSentReport h
  case frameDiscardedReport dest => exact State.keeps_execFrameDiscardedReport h
  case officeLinkStateReport => exact State.keeps_execOfficeLinkStateReport h
  case acceptTimerExpiry l => exact State.keeps_act h (s.keeps_laneExpiry _ _ _)
  case ackTimerExpiry l buf => exact State.keeps_act h (s.keeps_laneExpiry _ _ _)
  case intakeWaitExpiry l => exact State.keeps_act h (s.keeps_laneExpiry _ _ _)
  case retentionExpiry receipt => exact State.keeps_execRetentionExpiry h
  case notBeforeReached m => exact State.keeps_execNotBeforeReached h
  case withdrawalRequest => exact State.keeps_execWithdrawalRequest h
  case countClear name => exact State.keeps_execCountClear h
  case noticeOccurrence src => exact State.keeps_execNoticeOccurrence h
  case commitCompletion => exact State.keeps_execCommitCompletion h
  case mailboxSwapEffects => exact State.keeps_execMailboxSwapEffects h
  case pointSwapEffects => exact State.keeps_execPointSwapEffects h
  case powerOnReset => cases h; exact (s.keeps_coldReset .powerOn).quiet rfl
  case pinResetAssert =>
    unfold execPinResetAssert at h
    split at h
    · cases h; exact .refl _
    · cases h; exact (s.keeps_coldReset .pin).quiet rfl
  case pinResetRelease =>
    unfold execPinResetRelease at h
    split at h
    · cases h; exact .refl _
    · cases h; exact s.keeps_coldReset _
  case timeOfDayLimit => exact State.keeps_act h (s.keeps_advance _)
  case unknownRequest r kind => exact State.keeps_execUnknownRequest h
  case setClock r secs ms => exact State.keeps_execSetClock h
  case restart r => exact State.keeps_execRestart h
  case channelRead r ch => exact State.keeps_act h (s.keeps_channelControl _ _ fun _ => le_refl _)
  case channelEnable r ch => exact State.keeps_act h (s.keeps_channelControl _ _ fun _ => le_refl _)
  case channelDisable r ch => exact State.keeps_act h (s.keeps_channelControl _ _ fun _ => le_refl _)
  case channelClearErrors r ch => exact State.keeps_act h (s.keeps_channelControl _ _ fun _ => Nat.zero_le _)
  case stageClear r t =>
    exact State.keeps_act h (s.keeps_request _ _ fun a => (a.keeps_tables (a.tables.departments_clear t)).reply)
  case stageRevert r t =>
    exact State.keeps_act h (s.keeps_request _ _ fun a => (a.keeps_tables (a.tables.departments_revert t)).reply)
  case stagePut r entries => exact State.keeps_execStagePut h
  case stageRemove r keys => exact State.keeps_execStageRemove h
  case mailboxOpen r m =>
    exact State.keeps_act h (s.keeps_mailboxControl _ _ fun a hm => State.tally_setBox_department a m _ hm)
  case mailboxClose r m =>
    exact State.keeps_act h (s.keeps_mailboxControl _ _ fun a hm => State.tally_setBox_department a m _ hm)
  case mailboxPause r m =>
    exact State.keeps_act h (s.keeps_mailboxControl _ _ fun a hm => State.tally_setBox_department a m _ hm)
  case mailboxResume r m => exact State.keeps_execMailboxResume h
  case pointRead r p clear => exact State.keeps_execPointRead h
  case docRead r receipt => exact State.keeps_act h (s.keeps_docRequest _ _ _ fun a slot d => a.keeps_reply _ _ _ _)
  case docHold r receipt => exact State.keeps_execDocHold h
  case docRelease r receipt => exact State.keeps_execDocRelease h
  case docReroute r receipt target => exact State.keeps_execDocReroute h
  case docPurge r receipt => exact State.keeps_execDocPurge h
  case commit r t => exact State.keeps_act h (s.keeps_request _ _ fun a => a.keeps_mgmt id)
  case linkAlive | officeLinkAlive | foreignOfficeFrame => exact State.keeps_act h (State.keeps_quiet (by simp))
  case silenceTimeoutInstall =>
    refine State.keeps_act h ?_
    split
    · exact .refl _
    · exact State.keeps_quiet rfl
  case arbiterRound | pressureReleaseRequest | pressureParameterChange | lowMarkInstall | allIdleReport =>
    refine State.keeps_act h ?_
    dsimp only
    repeat' split
    all_goals exact State.keeps_quiet (by simp)
  case readStatus | readFlags | clearFlags | setParameters | readParameters | setReceiptBase | ackRestart
  | intakeOpen | intakeDrain | intakeAbort | deliveryRun | deliveryStop | stageRead | tableRead
  | mailboxControlRead | mailboxRead | docList | docPages | journalRead | journalRelease =>
    refine State.keeps_act h (s.keeps_request _ _ fun a => ?_)
    repeat' split
    all_goals exact (State.keeps_quiet (by simp)).reply

/-- Every step keeps them: a command, or a millisecond of the reference clock. -/
theorem step_keeps {s t : State} (h : step s = .next t) : s.Keeps t := by
  unfold step at h
  split at h
  · cases h
    unfold tick
    split
    · exact .refl _
    · exact s.keeps_advance 1
  · exact (exec_keeps h).behind rfl

/-- Settles O7: every step keeps both invariants, by step_keeps. -/
theorem stepsKeepCountsInLimits : Obligations.StepsKeepCountsInLimits :=
  ⟨fun _ _ hs h => (step_keeps h).1 hs, fun _ _ hs h => (step_keeps h).2 hs⟩

end Sys2Proof.Machine
end

section
/-! PROOFS. The line port (R27 to R30, R50), and how a good frame reaches a channel that has nothing to take first. -/

namespace Sys2Proof.Machine

open Sys2Proof.Config

/-! ### The line port (R27, R28) -/

theorem State.lineGood_up {s : State} (h : s.line.link = .up) :
    s.lineGood = { s with line := { s.line with link := .up, silence := some (s.mgmt.uptime + 3000) } } := by
  simp only [State.lineGood, h]
  rfl

theorem State.lineGood_down {s : State} (h : s.line.link = .down) :
    s.lineGood = ({ s with line := { s.line with link := .up, silence := some (s.mgmt.uptime + 3000) } } : State).raise
      .linePort (.lineLinkChanged .up) := by
  simp only [State.lineGood, h]
  rfl

theorem expiring_some {due : Nat} (h : due ≤ 281474976710655) : expiring (some due) = some due := if_pos h

/-- R28, log 6: a frame with a field out of its range is one that is not good. -/
theorem exec_shelfFrame_bad {s : State} {i : Instr} (ha : s.awake) (hf : shelfFrame i = true)
    (hw : i.wellFormed = false) : exec i s = .next s.lineBad := by
  have bad : ∀ (ok : Bool) (ch : Nat) (f : State → State), ok = false →
      act (fun s => s.lineFrame ok ch f) s = .next s.lineBad := by
    rintro _ ch f rfl
    exact act_awake _ s ha
  cases i with
  | callOpen ch part =>
    cases part with
    | frame called caller stop => exact bad _ _ _ hw
    | onward stop => cases hf
  | senderInfo | pageStart | pageData | pageEnd | callClose => exact bad _ _ _ hw
  | linkAlive => cases hw
  | _ => cases hf

/-- R27, R30, R50: the link silence timer expires at its deadline. -/
theorem exec_lineSilenceExpiry_eq {s : State} {due : Nat} (ha : s.awake) (hs : s.line.silence = some due)
    (hd : due ≤ 281474976710655) : exec .lineSilenceExpiry s = .next (s.advanceTo due).lineDown := by
  change execLineSilenceExpiry s = _
  rw [execLineSilenceExpiry, act_awake _ s ha, hs, expiring_some hd]

theorem exec_lineFrameSent_eq {s : State} {f : LineFrame} {rest : List LineFrame} (ha : s.awake)
    (hq : s.line.queue = f :: rest) :
    exec .lineFrameSent s = .next { s with line := { s.line with queue := rest, output := some f } } := by
  change execLineFrameSent s = _
  rw [execLineFrameSent, act_awake _ s ha, hq]

/-- R30: every frame handed while the link is UP joins the queue, but for an ANSWER behind a loss (R50). -/
theorem State.lineDiscards_up {s : State} {ch : Nat} {body : LineBody} (hl : s.line.link = .up)
    (h : (s.channel ch).loss = false ∨ ∀ receipt, body ≠ .answer receipt) : s.lineDiscards ch body = false := by
  cases body with
  | answer receipt => simpa [State.lineDiscards, hl] using h
  | _ => simp [State.lineDiscards, hl]

/-- Settles O11: each clause is the equation of its command; what sendLine does is read off lineDiscards. -/
theorem linePortTakesAndSends : Obligations.LinePortTakesAndSends := by
  refine ⟨fun s ha => ⟨fun hl => ?_, fun hl => ?_, ?_, fun i hf hw => exec_shelfFrame_bad ha hf hw⟩,
    fun s due ha hs hd => exec_lineSilenceExpiry_eq ha hs hd, fun s f rest ha hq => exec_lineFrameSent_eq ha hq,
    fun s ch body hl h => State.sendLine_sent s ch body (State.lineDiscards_up hl h),
    fun s ch body hl => State.sendLine_discarded s ch body (State.lineDiscards_down s ch body hl),
    fun s ch receipt hl => State.sendLine_discarded s ch _ (State.lineDiscards_answer s ch receipt hl)⟩
  · rw [← State.lineGood_up hl]
    exact act_awake _ s ha
  · exact (act_awake _ s ha).trans (congrArg _ (State.lineGood_down hl))
  · exact act_awake _ s ha

/-! ### A good frame for a quiet channel (R27, R29, R49) -/

/-- The channel of a frame taken, in the states in which its silence timer runs. -/
theorem State.frameTaken_live {s : State} {ch : Nat} (h : ChannelState.live (s.channel ch).state = true) :
    s.frameTaken ch = s.lineGood.setChannel ch { s.channel ch with silence := some s.silenceDue } := by
  have hch : s.lineGood.channel ch = s.channel ch := State.channel_congr _ _ ch (by simp)
  have hdue : s.lineGood.silenceDue = s.silenceDue := by simp [State.silenceDue, State.after]
  simp only [State.frameTaken, State.restartSilence, hch, h, hdue, if_true]

theorem State.frameTaken_still {s : State} {ch : Nat} (h : ChannelState.live (s.channel ch).state = false) :
    s.frameTaken ch = s.lineGood := by
  have hch : s.lineGood.channel ch = s.channel ch := State.channel_congr _ _ ch (by simp)
  simp [State.frameTaken, State.restartSilence, hch, h]

/-- A frame taken changes nothing of its channel but the silence timer. -/
theorem State.channel_frameTaken (s : State) {ch : Nat} (h : ch < s.calls.channels.length) :
    ∃ due, (s.frameTaken ch).channel ch = { s.channel ch with silence := due } := by
  cases hl : ChannelState.live (s.channel ch).state with
  | true =>
    refine ⟨some s.silenceDue, ?_⟩
    rw [State.frameTaken_live hl, State.channel_setChannel _ _ _ (by simpa using h)]
  | false =>
    refine ⟨(s.channel ch).silence, ?_⟩
    rw [State.frameTaken_still hl, State.channel_congr s s.lineGood ch (by simp)]

theorem State.frameTaken_keeps (s : State) {ch : Nat} (h : ch < s.calls.channels.length) :
    ((s.frameTaken ch).channel ch).state = (s.channel ch).state
    ∧ ((s.frameTaken ch).channel ch).doc = (s.channel ch).doc
    ∧ ((s.frameTaken ch).channel ch).page = (s.channel ch).page
    ∧ ((s.frameTaken ch).channel ch).ended = (s.channel ch).ended
    ∧ ((s.frameTaken ch).channel ch).filling = (s.channel ch).filling := by
  obtain ⟨due, hch⟩ := s.channel_frameTaken h
  rw [hch]
  exact ⟨rfl, rfl, rfl, rfl, rfl⟩

@[simp] theorem State.frameTaken_frame (s : State) (ch : Nat) :
    (s.frameTaken ch).store = s.store ∧ (s.frameTaken ch).pressure = s.pressure ∧ (s.frameTaken ch).docs = s.docs
    ∧ (s.frameTaken ch).journal = s.journal ∧ (s.frameTaken ch).mail = s.mail
    ∧ (s.frameTaken ch).tables = s.tables ∧ (s.frameTaken ch).mgmt = s.mgmt := by
  simp [State.frameTaken]

/-- R29, R50: a channel with no decision under way and no loss to take has nothing to settle. -/
theorem State.settle_quiet {s : State} {ch : Nat} (hd : (s.channel ch).decision = none)
    (hl : (s.channel ch).loss = false) : s.settle ch = s := by
  rw [State.settle, State.decideOn_none s ch .done hd, State.takeLoss_none s ch hl]

/-- R27, R29: a good frame for a quiet channel acts on the state in which the frame has been taken. -/
theorem act_lineFrame_quiet {s : State} {ch : Nat} {ok : Bool} (hq : s.quiet ch) (hok : ok = true)
    (f : State → State) : act (fun s => s.lineFrame ok ch f) s = .next (f (s.frameTaken ch)) := by
  obtain ⟨ha, _, _, hd, hl⟩ := hq
  have hch : s.lineGood.channel ch = s.channel ch := State.channel_congr _ _ ch (by simp)
  rw [act_awake _ s ha, hok, State.lineFrame, if_pos rfl, State.settle_quiet (by rwa [hch]) (by rwa [hch])]
  rfl

section Quiet

variable {s : State} {ch : Nat}

theorem State.quiet.inRange (hq : s.quiet ch) : ch < s.calls.channels.length := by
  obtain ⟨_, hch, hlen, _⟩ := hq
  omega

theorem exec_callOpen_quiet (hq : s.quiet ch) {called : Str} {caller : Option Str} {stop : DecisionStop}
    (hok : callOpenOk ch (.frame called caller stop) = true) :
    exec (.callOpen ch (.frame called caller stop)) s = .next ((s.frameTaken ch).callOpen ch called caller stop) :=
  act_lineFrame_quiet hq hok _

theorem exec_senderInfo_quiet (hq : s.quiet ch) {ident : Str} (hok : senderInfoOk ch ident = true) :
    exec (.senderInfo ch ident) s = .next ((s.frameTaken ch).senderInfo ch ident) :=
  act_lineFrame_quiet hq hok _

theorem exec_pageStart_quiet (hq : s.quiet ch) {page : Nat} (hok : pageStartOk ch page = true) (res : Resolution)
    (width : Width) : exec (.pageStart ch page res width) s = .next ((s.frameTaken ch).pageStart ch page res width) :=
  act_lineFrame_quiet hq hok _

theorem exec_pageData_quiet (hq : s.quiet ch) {seq : Nat} {payload : List Byte} (hok : pageDataOk ch seq payload = true) :
    exec (.pageData ch seq payload) s = .next ((s.frameTaken ch).pageData ch seq payload) :=
  act_lineFrame_quiet hq hok _

theorem exec_pageEnd_quiet (hq : s.quiet ch) {lines errs : Nat} (hok : pageEndOk ch lines errs = true)
    (verdict : ModemVerdict) :
    exec (.pageEnd ch lines errs verdict) s = .next ((s.frameTaken ch).pageEnd ch ⟨lines, errs, verdict⟩) :=
  act_lineFrame_quiet hq hok _

theorem exec_callClose_quiet (hq : s.quiet ch) (cause : ShelfCause) :
    exec (.callClose ch cause) s = .next ((s.frameTaken ch).callClose ch cause) :=
  act_lineFrame_quiet hq (by simpa [channelOk] using hq.2.1) _

end Quiet

end Sys2Proof.Machine
end

section
/-! PROOFS. Frames that do not fit the state of their channel (R32 to R36, R42, R46, R47, R49). -/

namespace Sys2Proof.Machine

open Sys2Proof.Config

section Places

variable {s : State} {ch : Nat}

theorem State.notTaken_releasing (h : (s.channel ch).state = .releasing) : s.notTaken ch = s := if_pos h

theorem State.notTaken_error (h : (s.channel ch).state ≠ .releasing) : s.notTaken ch = s.channelError ch := if_neg h

theorem State.callOpen_busy (h : (s.channel ch).state ≠ .idle) (called : Str) (caller : Option Str)
    (stop : DecisionStop) : s.callOpen ch called caller stop = s.channelError ch := if_neg h

theorem State.senderInfo_notAnswered (h : (s.channel ch).state ≠ .answered) (ident : Str) :
    s.senderInfo ch ident = s.notTaken ch := by
  unfold State.senderInfo
  split
  · next hst _ => exact absurd hst h
  · rfl

/-- R34: a SENDER_INFO after the first. -/
theorem State.senderInfo_named {slot : Nat} {d : Doc} (h : (s.channel ch).state = .answered)
    (hc : (s.channel ch).doc = some slot) (hd : s.doc slot = some d) (hn : d.station.isSome = true) (ident : Str) :
    s.senderInfo ch ident = s.channelError ch := by
  simp only [State.senderInfo, h, hc, hd, hn, if_true]

theorem State.pageStart_outOfPlace (ha : (s.channel ch).state ≠ .answered) (hb : (s.channel ch).state ≠ .betweenPages)
    (page : Nat) (res : Resolution) (width : Width) : s.pageStart ch page res width = s.notTaken ch :=
  if_neg (not_or.2 ⟨ha, hb⟩)

theorem State.pageData_outOfPlace (h : ¬ ((s.channel ch).state = .receivingPage ∧ (s.channel ch).ended = none))
    (seq : Nat) (payload : List Byte) : s.pageData ch seq payload = s.notTaken ch := if_neg h

theorem State.pageEnd_outOfPlace (h : ¬ ((s.channel ch).state = .receivingPage ∧ (s.channel ch).ended = none))
    (e : PageEnd) : s.pageEnd ch e = s.notTaken ch := if_neg h

theorem State.callClose_idle (h : (s.channel ch).state = .idle) (cause : ShelfCause) :
    s.callClose ch cause = s.channelError ch := by
  simp only [State.callClose, h]

end Places

/-- R32: a frame that a channel takes and counts as a protocol error. -/
theorem State.channelError_frameTaken {s : State} {ch : Nat} (h : ch < s.calls.channels.length) :
    (s.frameTaken ch).channelError ch = (s.frameTaken ch).setChannel ch { (s.frameTaken ch).channel ch with
      errors := bump 65535 (s.channel ch).errors } := by
  obtain ⟨due, hch⟩ := s.channel_frameTaken h
  simp only [State.channelError, hch, max16]

/-- Settles O16: each frame by its place (State.senderInfo_notAnswered to State.callClose_idle), read in the state in
which it has been taken; the silence timer by the two equations of frameTaken. -/
theorem framesOutOfPlace : Obligations.FramesOutOfPlace := by
  refine ⟨?_, fun s ch _ => ⟨fun h => State.frameTaken_live ?_, fun h => State.frameTaken_still ?_⟩⟩
  · intro s ch hq g st err
    obtain ⟨hst, hdoc, -, hended, -⟩ := s.frameTaken_keeps hq.inRange
    have hst : (g.channel ch).state = st := hst
    have herr : Host.Outcome.next (g.channelError ch) = err := congrArg _ (State.channelError_frameTaken hq.inRange)
    have hno : st ≠ .releasing → Host.Outcome.next (g.notTaken ch) = err := fun h =>
      (congrArg _ (State.notTaken_error (by rwa [hst]))).trans herr
    have hignored : st = .releasing → g.notTaken ch = g := fun h => State.notTaken_releasing (hst.trans h)
    have hend : st = .idle ∨ st = .answered ∨ st = .betweenPages
          ∨ (st = .receivingPage ∧ (s.channel ch).ended ≠ none) →
        ¬ ((g.channel ch).state = .receivingPage ∧ (g.channel ch).ended = none) ∧ st ≠ .releasing := by
      rw [hst, hended]
      rintro (h | h | h | ⟨h, he⟩) <;> simp [h]
      exact he
    refine ⟨fun called caller stop hok hbusy => ?_, fun ident hok => ⟨fun h => ?_, fun slot d h hc hd hn => ?_,
        fun h => ?_⟩, fun page res width hok => ⟨fun h => ?_, fun h => ?_⟩, fun seq payload hok => ⟨fun h => ?_, fun h => ?_⟩,
      fun lines errs verdict hok => ⟨fun h => ?_, fun h => ?_⟩, fun cause h => ?_⟩
    · rw [exec_callOpen_quiet hq hok, State.callOpen_busy (by rwa [hst]), herr]
    · have hplace : st ≠ .answered ∧ st ≠ .releasing := by rcases h with h | h | h <;> simp [h]
      rw [exec_senderInfo_quiet hq hok, State.senderInfo_notAnswered (hst.trans_ne hplace.1), hno hplace.2]
    · have hdg : g.doc slot = some d := by rw [← hd]; simp [State.doc, g]
      rw [exec_senderInfo_quiet hq hok, State.senderInfo_named (hst.trans h) (hdoc.trans hc) hdg hn, herr]
    · rw [exec_senderInfo_quiet hq hok, State.senderInfo_notAnswered (by rw [hst, h]; decide), hignored h]
    · have hplace : st ≠ .answered ∧ st ≠ .betweenPages ∧ st ≠ .releasing := by rcases h with h | h <;> simp [h]
      obtain ⟨ha, hb, hr⟩ := hplace
      rw [exec_pageStart_quiet hq hok, State.pageStart_outOfPlace (hst.trans_ne ha) (hst.trans_ne hb), hno hr]
    · rw [exec_pageStart_quiet hq hok, State.pageStart_outOfPlace (by rw [hst, h]; decide) (by rw [hst, h]; decide),
        hignored h]
    · rw [exec_pageData_quiet hq hok, State.pageData_outOfPlace (hend h).1, hno (hend h).2]
    · rw [exec_pageData_quiet hq hok, State.pageData_outOfPlace (by rw [hst, h]; simp), hignored h]
    · rw [exec_pageEnd_quiet hq hok, State.pageEnd_outOfPlace (hend h).1, hno (hend h).2]
    · rw [exec_pageEnd_quiet hq hok, State.pageEnd_outOfPlace (by rw [hst, h]; simp), hignored h]
    · rw [exec_callClose_quiet hq, State.callClose_idle (hst.trans h), herr]
  · rcases h with h | h | h <;> rw [h] <;> rfl
  · rcases h with h | h <;> rw [h] <;> rfl

end Sys2Proof.Machine
end

section
/-! PROOFS. The station screening of an answered call (R34, R69, R70) and the page start (R35, R8, R9). -/

namespace Sys2Proof.Machine

open Sys2Proof.Config

theorem State.doc_congr {s t : State} (h : t.docs = s.docs) (slot : Nat) : t.doc slot = s.doc slot := by
  simp only [State.doc, h]

theorem State.record_congr {s t : State} (h : t.store = s.store) (r : Nat) : t.record r = s.record r := by
  simp only [State.record, h]

/-- R61: whether a mailbox takes a call is read from the tables and the mailboxes alone. -/
theorem State.takes_congr {s t : State} (ht : t.tables = s.tables) (hm : t.mail = s.mail) (m : Nat) :
    t.takes m = s.takes m := by
  have hrow : t.mailRow m = s.mailRow m := by simp only [State.mailRow, ht]
  have hbox : t.box m = s.box m := by simp only [State.box, hm]
  simp only [State.takes, hrow, hbox]

@[simp] theorem State.doc_frameTaken (s : State) (ch slot : Nat) : (s.frameTaken ch).doc slot = s.doc slot :=
  State.doc_congr (by simp) slot

@[simp] theorem State.record_frameTaken (s : State) (ch r : Nat) : (s.frameTaken ch).record r = s.record r :=
  State.record_congr (by simp) r

section Station

variable {s : State} {ch slot : Nat} {d : Doc}

/-- R34: the first SENDER_INFO of an answered call whose station matches no entry. -/
theorem State.senderInfo_unscreened (h : (s.channel ch).state = .answered) (hc : (s.channel ch).doc = some slot)
    (hd : s.doc slot = some d) (hn : d.station = none) {ident : Str}
    (hm : stationMatch s.tables.screening.live ident = none) :
    s.senderInfo ch ident = s.setDoc slot { d with station := some ident } := by
  simp [State.senderInfo, h, hc, hd, hn, hm]

/-- R34, R69: the first SENDER_INFO of an answered call whose station matches an entry. -/
theorem State.senderInfo_screened (h : (s.channel ch).state = .answered) (hc : (s.channel ch).doc = some slot)
    (hd : s.doc slot = some d) (hn : d.station = none) {ident : Str} {e : ScreenEntry}
    (hm : stationMatch s.tables.screening.live ident = some e) :
    s.senderInfo ch ident = (s.setDoc slot { d with station := some ident }).stationAction ch slot
      { d with station := some ident } e := by
  simp [State.senderInfo, h, hc, hd, hn, hm]

theorem tablePut_tablePut {α : Type} (k : Nat) (v w : α) (l : List (Nat × α)) :
    tablePut k w (tablePut k v l) = tablePut k w l := by
  induction l with
  | nil => simp [tablePut]
  | cons e t ih =>
    rcases Nat.lt_trichotomy k e.1 with h | h | h
    · simp [tablePut, h]
    · simp [tablePut, h]
    · simp [tablePut, Nat.not_lt_of_gt h, Nat.ne_of_gt h, ih]

/-- The second writing of a document stands. -/
theorem State.setDoc_setDoc (s : State) (slot : Nat) (d e : Doc) :
    (s.setDoc slot d).setDoc slot e = s.setDoc slot e := by
  simp only [State.setDoc, tablePut_tablePut]

end Station

/-- Settles O17: a station that matches no entry names the document, and one that does has the entry's action. -/
theorem senderInfoScreensTheStation : Obligations.SenderInfoScreensTheStation := by
  intro s ch slot d ident hq hok hst hc hd hn g named found run
  obtain ⟨hgst, hgdoc, -⟩ := s.frameTaken_keeps hq.inRange
  have hgd : g.doc slot = some d := (s.doc_frameTaken ch slot).trans hd
  have hfound : stationMatch g.tables.screening.live ident = found := by simp [g, found]
  have hrun : run = .next (g.senderInfo ch ident) := exec_senderInfo_quiet hq hok
  refine ⟨fun hnone => ?_, fun e he => ?_⟩
  · rw [hrun, State.senderInfo_unscreened (hgst.trans hst) (hgdoc.trans hc) hgd hn (hfound.trans hnone)]
  · have hact : run = .next ((g.setDoc slot named).stationAction ch slot named e) := by
      rw [hrun, State.senderInfo_screened (hgst.trans hst) (hgdoc.trans hc) hgd hn (hfound.trans he)]
    have htakes : ∀ m, (g.setDoc slot named).takes m = s.takes m := fun m =>
      State.takes_congr (by simp [g]) (by simp [g]) m
    refine ⟨fun h => ?_, fun h => ?_, fun h => ?_, fun m h ht => ⟨fun hm => ?_, fun hm => ?_⟩⟩
    · simp only [hact, State.stationAction, h]
    · simp only [hact, State.stationAction, h, State.setDoc_setDoc, quarantine]
    · simp only [hact, State.stationAction, h, State.setDoc_setDoc, named]
    · simp only [hact, State.stationAction, h, ht, htakes, hm, if_true, State.setDoc_setDoc]
    · simp [hact, State.stationAction, h, ht, htakes, hm]

/-! ### The page start (R35, R8, R9) -/

/-- R35: a PAGE_START in ANSWERED or BETWEEN_PAGES. -/
theorem State.pageStart_inPlace {s : State} {ch slot : Nat} {d : Doc}
    (h : (s.channel ch).state = .answered ∨ (s.channel ch).state = .betweenPages) (hc : (s.channel ch).doc = some slot)
    (hd : s.doc slot = some d) (page : Nat) (res : Resolution) (width : Width) :
    s.pageStart ch page res width =
      if d.pages.length = 1000 then s.drop ch .pageLimit
      else if page ≠ d.pages.length + 1 then s.channelError ch
      else s.freeRecord.elim (s.drop ch .pagePoolEmpty) (fun r => s.beginPage ch r slot page res width) := by
  simp only [State.pageStart, if_pos h, hc, Option.bind_some, hd, Option.map_some, pageLimit]
  cases s.freeRecord <;> rfl

/-- Settles O18: the branches of State.pageStart_inPlace, in the state in which the frame has been taken. -/
theorem pageStartCases : Obligations.PageStartCases := by
  intro s ch slot page d res width hq hok hst hc hd g c n run
  obtain ⟨hgst, hgdoc, -⟩ := s.frameTaken_keeps hq.inRange
  have hgd : g.doc slot = some d := (s.doc_frameTaken ch slot).trans hd
  have hrun : run = .next (if n = 1000 then g.drop ch .pageLimit else if page ≠ n + 1 then g.channelError ch
      else g.freeRecord.elim (g.drop ch .pagePoolEmpty) (fun r => g.beginPage ch r slot page res width)) :=
    (exec_pageStart_quiet hq hok res width).trans
      (congrArg _ (State.pageStart_inPlace (by rwa [hgst]) (hgdoc.trans hc) hgd page res width))
  have hfree : g.freeRecord = lowestFree 8192 0 s.store.records := by simp [State.freeRecord, g, recordCount]
  refine ⟨fun h => ?_, fun h hp => ?_, fun h hp hf => ?_, fun r h hp hf => ?_⟩
  · rw [hrun, if_pos h]
  · rw [hrun, if_neg h, if_pos hp]
    rfl
  · rw [hrun, if_neg h, if_neg (not_not.2 hp), hfree, hf]
    rfl
  · rw [hrun, if_neg h, if_neg (not_not.2 hp), hfree, hf]
    rfl

end Sys2Proof.Machine
end

section
/-! PROOFS. Giving up a page, DROP and the close of a call (R12, R17, R45, R47, R51). -/

namespace Sys2Proof.Machine

open Sys2Proof.Config

/-! ### A page given up (R12, R45) -/

theorem State.blocksOf_eq {s : State} {r : Nat} {x : PageRecord} (h : s.record r = some x) : s.blocksOf r = x.blocks := by
  simp [State.blocksOf, h]

/-- R12, R2: an empty page makes no release and no evaluation. -/
theorem State.discardPage_empty {s : State} {r : Nat} (h : s.blocksOf r = []) :
    s.discardPage r = { s with store := { s.store with records := tableDel r s.store.records } } := by
  simp [State.discardPage, h, State.releaseBlocks, State.dropRecord]

theorem State.discardPage_release {s : State} {r : Nat} (h : s.blocksOf r ≠ []) :
    s.discardPage r = ({ s with store := { s.store with
      records := tableDel r s.store.records, free := s.store.free ++ s.blocksOf r } } : State).evaluate := by
  simp [State.discardPage, h, State.releaseBlocks, State.dropRecord]

theorem State.store_discardPage (s : State) (r : Nat) :
    (s.discardPage r).store
      = { s.store with records := tableDel r s.store.records, free := s.store.free ++ s.blocksOf r } := by
  by_cases h : s.blocksOf r = []
  · simp [State.discardPage_empty h, h]
  · simp [State.discardPage_release h]

theorem State.channel_discardPage (s : State) (r ch : Nat) : (s.discardPage r).channel ch = s.channel ch :=
  State.channel_congr _ _ ch (by simp)

section GiveUp

variable {s : State} {ch r : Nat}

theorem State.giveUp_none (h : (s.channel ch).page = none) : s.giveUp ch = s := by
  simp only [State.giveUp, h]

theorem State.giveUp_discard (h : (s.channel ch).page = some r) (hw : s.writing ch r = false) :
    s.giveUp ch = (s.setChannel ch { s.channel ch with page := none, ended := none, mark := false }).discardPage r := by
  simp [State.giveUp, h, hw]

theorem State.giveUp_held (h : (s.channel ch).page = some r) (hw : s.writing ch r = true) :
    s.giveUp ch = s.setChannel ch { s.channel ch with
      page := none, ended := none, mark := false, discards := (s.channel ch).discards ++ [r] } := by
  simp [State.giveUp, h, hw]

/-- R12: the channel of a page given up. -/
theorem State.channel_giveUp (hc : ch < s.calls.channels.length) (h : (s.channel ch).page = some r) :
    (s.giveUp ch).channel ch = { s.channel ch with
      page := none, ended := none, mark := false
      discards := if s.writing ch r then (s.channel ch).discards ++ [r] else (s.channel ch).discards } := by
  cases hw : s.writing ch r with
  | true => rw [State.giveUp_held h hw, State.channel_setChannel _ _ _ hc, if_pos rfl]
  | false =>
    rw [State.giveUp_discard h hw, State.channel_discardPage, State.channel_setChannel _ _ _ hc,
      if_neg Bool.false_ne_true]

/-- A page given up changes nothing of its channel but the fields of the page and its pages awaiting discard. -/
theorem State.giveUp_channel (s : State) (hc : ch < s.calls.channels.length) :
    ∃ ended mark discards, (s.giveUp ch).channel ch = { s.channel ch with
      page := none, ended := ended, mark := mark, discards := discards } := by
  cases h : (s.channel ch).page with
  | none =>
    refine ⟨(s.channel ch).ended, (s.channel ch).mark, (s.channel ch).discards, ?_⟩
    rw [State.giveUp_none h, ← h]
  | some r => exact ⟨none, false, _, State.channel_giveUp hc h⟩

end GiveUp

@[simp] theorem State.calls_length_giveUp (s : State) (ch : Nat) :
    (s.giveUp ch).calls.channels.length = s.calls.channels.length := by
  cases h : (s.channel ch).page with
  | none => rw [State.giveUp_none h]
  | some r => cases hw : s.writing ch r with
    | true => simp [State.giveUp_held h hw]
    | false => simp [State.giveUp_discard h hw]

/-! ### DROP (R47) -/

theorem State.receiptOf_eq {s : State} {ch slot : Nat} {d : Doc} (hc : (s.channel ch).doc = some slot)
    (hd : s.doc slot = some d) : s.receiptOf ch = d.receipt := by
  simp [State.receiptOf, hc, hd]

/-- R47: the end of every drop, with no page under construction left. -/
def State.dropped (s : State) (ch receipt : Nat) (cause : Cause) : State :=
  ((s.setChannel ch { s.channel ch with
      state := .releasing, drop := some cause, silence := none, release := some (s.mgmt.uptime + 3000)
    }).sendLine ch (.drop cause)).raise .callController (.callDropped ch receipt cause)

section Drop

variable {s : State} {ch slot : Nat} {d : Doc}

theorem State.drop_pageless (hp : (s.channel ch).page = none) (cause : Cause) :
    s.drop ch cause = s.dropped ch (s.receiptOf ch) cause := by
  simp [State.drop, hp, State.dropped, State.after, releaseTime]

theorem State.drop_page (hp : (s.channel ch).page ≠ none) (cause : Cause) :
    s.drop ch cause = ((s.cut ch).giveUp ch).dropped ch (s.receiptOf ch) cause := by
  simp [State.drop, Option.isSome_iff_ne_none.2 hp, State.dropped, State.after, releaseTime]

/-- R30, R47: the DROP frame is sent where the link is UP. -/
theorem State.line_dropped (s : State) (ch receipt : Nat) (cause : Cause) :
    (s.dropped ch receipt cause).line.queue
      = if s.line.link = .up then s.line.queue ++ [⟨ch, .drop cause⟩] else s.line.queue := by
  cases hl : s.line.link with
  | up => simp [State.dropped, State.sendLine, State.lineDiscards, hl]
  | down => simp [State.dropped, State.sendLine, State.lineDiscards, hl]

theorem State.channel_sendLine (s : State) (k : Nat) (body : LineBody) (ch : Nat) :
    (s.sendLine k body).channel ch = s.channel ch :=
  State.channel_congr _ _ ch (by simp)

theorem State.channel_dropped (hc : ch < s.calls.channels.length) (receipt : Nat) (cause : Cause) :
    (s.dropped ch receipt cause).channel ch = { s.channel ch with
      state := .releasing, drop := some cause, silence := none, release := some (s.mgmt.uptime + 3000) } := by
  change State.channel (State.sendLine _ ch _) ch = _
  rw [State.channel_sendLine, State.channel_setChannel _ _ _ hc]

end Drop

/-! ### The close of a call (R17, R45, R92) -/

theorem State.setBox_self (s : State) (m : Nat) : s.setBox m (s.box m) = s := by
  have hset : s.mail.boxes.set m (s.box m) = s.mail.boxes := by
    rcases Nat.lt_or_ge m s.mail.boxes.length with h | h
    · simp [State.box, h]
    · exact List.set_eq_of_length_le h
  simp [State.setBox, hset]

/-- R21: a document freed in RECEIVING with no page to release. -/
theorem State.freeDoc_pageless {d : Doc} (hs : d.state = .receiving) (hp : d.pages = []) (s : State) (slot : Nat)
    (purged : Bool) : s.freeDoc slot d purged = s.freeSlot slot := by
  have hheld : ∀ m, s.heldDown m 0 = s := fun m => by
    rw [State.heldDown]
    split
    · exact s.setBox_self m
    · rfl
  simp [State.freeDoc, State.leaveMailbox, hs, hp, hheld, State.dropRecords, State.docBlocks, State.releaseBlocks]

/-- R93: the outcome of a close entry, by the incomplete flag and the number of pages. -/
theorem closeOutcome_eq (d : Doc) :
    closeOutcome d = if d.incomplete = false ∧ 1 ≤ d.pages.length then .received else .receivedIncomplete := by
  cases hi : d.incomplete <;> cases hp : d.pages <;> simp [closeOutcome, hi, hp]

section Close

variable {s : State} {ch slot : Nat} {d : Doc}

/-- R17: the document of a closing call, as it stands after the close but for its state. -/
def State.closedDoc (s : State) (d : Doc) (cut : Bool) : Doc :=
  { d with closeTime := some s.mgmt.tod, channel := none, incomplete := d.incomplete || cut }

theorem State.closeDoc_queued (hp : d.pages ≠ []) (ch slot : Nat) (cause : Cause) (cut : Bool) :
    s.closeDoc ch slot d cause cut =
      (((s.setDoc slot { s.closedDoc d cut with state := .queued }).writeEntry
          (closeEntry ch (s.closedDoc d cut) cause)).queueTail d.current slot).raise .documentTable
        (if d.current = 64 then .docQuarantined d.receipt d.current d.pages.length
          else .docQueued d.receipt d.current d.pages.length) := by
  have hsome : d.pages.isEmpty = false := by simpa using hp
  simp only [State.closeDoc, hsome, Bool.false_eq_true, if_false]
  rfl

theorem State.closeDoc_freed (hs : d.state = .receiving) (hp : d.pages = []) (ch slot : Nat) (cause : Cause)
    (cut : Bool) :
    s.closeDoc ch slot d cause cut = (s.writeEntry (closeEntry ch (s.closedDoc d cut) cause)).freeSlot slot := by
  have hnone : d.pages.isEmpty = true := by simp [hp]
  rw [← State.freeDoc_pageless (d := s.closedDoc d cut) hs hp _ slot false]
  simp only [State.closeDoc, hnone, if_true]
  rfl

/-- R45: the close of a call that holds a document. -/
theorem State.closeCall_eq (hdoc : (s.channel ch).doc = some slot)
    (hd : s.doc slot = some d) (cause : Cause) :
    s.closeCall ch cause =
      (((s.giveUp ch).closeDoc ch slot d cause ((s.channel ch).page.isSome || (s.channel ch).drop.isSome
          || cause != .normal)).setChannel ch ((s.giveUp ch).channel ch).closed).idleReport := by
  have hkept : (s.giveUp ch).doc slot = some d := (State.doc_congr (by simp) slot).trans hd
  have hchan : ∀ cut, ((s.giveUp ch).closeDoc ch slot d cause cut).channel ch = (s.giveUp ch).channel ch :=
    fun cut => State.channel_congr _ _ ch (by simp)
  simp only [State.closeCall, hdoc, hkept, hchan]

end Close

/-- R45 steps 1, 5 and 6: the channel after the close, whose page has been given up. -/
theorem State.closed_giveUp {s : State} {ch : Nat} (hc : ch < s.calls.channels.length) :
    ((s.giveUp ch).channel ch).closed = { (s.giveUp ch).channel ch with
      state := .idle, doc := none, drop := none, page := none, ended := none, mark := false, resends := 0
      expected := 0, received := 0, bufA := (s.channel ch).bufA.abandon, bufB := (s.channel ch).bufB.abandon
      silence := none, release := none } := by
  obtain ⟨ended, mark, discards, hu⟩ := s.giveUp_channel hc
  rw [hu]
  rfl

/-- Settles O23: the equations of drop, giveUp and closeCall; the close by whether the document has a page. -/
theorem dropsAndCloses : Obligations.DropsAndCloses := by
  refine ⟨?_, ?_, ?_⟩
  · intro s ch slot d cause _ hc hd fin
    have hfin : ∀ x : State, x.mgmt = s.mgmt → x.dropped ch (s.receiptOf ch) cause = fin x := fun x hx => by
      simp only [State.dropped, fin, hx, State.receiptOf_eq hc hd]
    refine ⟨fun hp => (State.drop_pageless hp cause).trans (hfin s rfl), fun hp => ?_⟩
    rw [State.drop_page hp, State.cut_eq hc hd]
    exact hfin _ (by simp)
  · intro s ch r x hx c dropped
    have hb : s.blocksOf r = x.blocks := State.blocksOf_eq hx
    refine ⟨fun he => State.discardPage_empty (hb.trans he), fun hne => ?_, State.giveUp_none, State.giveUp_discard,
      State.giveUp_held⟩
    rw [State.discardPage_release (by rwa [hb]), hb]
  · intro s ch slot d cause hc hdoc hd hst c u cut closed entry fin
    have hmgmt : u.mgmt = s.mgmt := by simp [u]
    have hclosed : u.closedDoc d (c.page.isSome || c.drop.isSome || cause != .normal) = closed := by
      simp only [State.closedDoc, hmgmt, closed, cut, ← Bool.or_assoc]
    have hentry : closeEntry ch closed cause = entry := by
      simp only [closeEntry, closeOutcome_eq]
      rfl
    have hfin : ∀ x : State, (x.setChannel ch (u.channel ch).closed).idleReport = fin x := fun x => by
      simp only [fin, u, State.closed_giveUp hc]
      rfl
    refine ⟨fun hp => ?_, fun hp => ?_, fun x => rfl, fun x e => rfl, fun bytes => ⟨rfl, rfl⟩⟩
    · rw [State.closeCall_eq hdoc hd, State.closeDoc_queued hp, hfin, hclosed, hentry]
    · rw [State.closeCall_eq hdoc hd, State.closeDoc_freed hst hp, hfin, hclosed, hentry]

end Sys2Proof.Machine
end

section
/-! PROOFS. The payload of a page, its two buffers, and the hand-over of a buffer to the Page Store (R3, R5, R36 to
R39, R41, R42). -/

namespace Sys2Proof.Machine

open Sys2Proof.Config

/-! ### The filling buffer and the space left (R37) -/

theorem Channel.spaceLeft_none {c : Channel} (h : c.filling = none) : c.spaceLeft = 0 := by
  simp only [Channel.spaceLeft, h]

theorem Channel.spaceLeft_some {c : Channel} {b : BufId} {held : List Byte} (h : c.filling = some (b, held)) :
    c.spaceLeft = 4096 - held.length + if c.buf (BufId.other b) = .empty then 4096 else 0 := by
  simp only [Channel.spaceLeft, h, blockBytes]

/-- R37: the two buffers, in each of the pairs that can stand, tell the filling buffer and the space left. -/
theorem Channel.buffers_read (c : Channel) (x y : List Byte) :
    (c.bufA = .empty → c.bufB = .empty → c.filling = some (.first, []) ∧ c.spaceLeft = 8192)
    ∧ (c.bufA = .filling x → c.bufB = .empty →
        c.filling = some (.first, x) ∧ c.spaceLeft = 4096 - x.length + 4096)
    ∧ (c.bufA = .empty → c.bufB = .filling y →
        c.filling = some (.second, y) ∧ c.spaceLeft = 4096 - y.length + 4096)
    ∧ (c.bufA = .filling x → c.bufB = .writing y → c.filling = some (.first, x) ∧ c.spaceLeft = 4096 - x.length)
    ∧ (c.bufA = .writing x → c.bufB = .filling y → c.filling = some (.second, y) ∧ c.spaceLeft = 4096 - y.length)
    ∧ (c.bufA = .empty → c.bufB = .writing y → c.filling = some (.first, []) ∧ c.spaceLeft = 4096)
    ∧ (c.bufA = .writing x → c.bufB = .empty → c.filling = some (.second, []) ∧ c.spaceLeft = 4096)
    ∧ (c.bufA = .writing x → c.bufB = .writing y → c.filling = none ∧ c.spaceLeft = 0) := by
  have first : ∀ {held other}, c.filling = some (.first, held) → c.bufB = other →
      c.filling = some (.first, held) ∧ c.spaceLeft = 4096 - held.length + if other = .empty then 4096 else 0 :=
    fun h ho => ⟨h, by rw [Channel.spaceLeft_some h, ← ho]; rfl⟩
  have second : ∀ {held other}, c.filling = some (.second, held) → c.bufA = other →
      c.filling = some (.second, held) ∧ c.spaceLeft = 4096 - held.length + if other = .empty then 4096 else 0 :=
    fun h ho => ⟨h, by rw [Channel.spaceLeft_some h, ← ho]; rfl⟩
  refine ⟨fun ha hb => first ?_ hb, fun ha hb => first ?_ hb, fun ha hb => second ?_ ha, fun ha hb => first ?_ hb,
    fun ha hb => second ?_ ha, fun ha hb => first ?_ hb, fun ha hb => second ?_ ha,
    fun ha hb => (fun h => ⟨h, Channel.spaceLeft_none h⟩) ?_⟩ <;>
  simp only [Channel.filling, ha, hb]

/-! ### A buffer handed over (R5, R3) -/

/-- R5: the first free block of the Page Store joins the block list of a page, and its write the port queue. -/
def State.allocated (s : State) (ch : Nat) (b : BufId) (r : Nat) (x : PageRecord) (block : Nat) (rest : List Nat) :
    State :=
  { s with store := { s.store with
    free := rest
    records := tablePut r { x with blocks := x.blocks ++ [block] } s.store.records
    port := s.store.port ++ [PortOp.write ch b r block] } }

theorem State.pressureMoved_setChannel (s : State) (ch : Nat) (c : Channel) (before after : Level) (free : Nat) :
    (s.setChannel ch c).pressureMoved before after free = (s.pressureMoved before after free).setChannel ch c := by
  unfold State.pressureMoved
  split <;> rfl

theorem State.releaseAsked_setChannel (s : State) (ch : Nat) (c : Channel) (level : Level) :
    (s.setChannel ch c).releaseAsked level = (s.releaseAsked level).setChannel ch c := by
  unfold State.releaseAsked
  split <;> rfl

/-- An evaluation reads and writes nothing of the channels. -/
theorem State.evaluate_setChannel (s : State) (ch : Nat) (c : Channel) :
    (s.setChannel ch c).evaluate = s.evaluate.setChannel ch c := by
  change (((({ s with pressure := s.pressure.evaluate s.store.free.length } : State).setChannel ch c).pressureMoved
    _ _ _).releaseAsked _) = _
  rw [State.pressureMoved_setChannel, State.releaseAsked_setChannel]
  rfl

/-- A block allocated beside a write of a channel. -/
theorem State.evaluate_allocated_setChannel (s : State) (ch : Nat) (c : Channel) (b : BufId) (r : Nat) (x : PageRecord)
    (block : Nat) (rest : List Nat) :
    ((s.setChannel ch c).allocated ch b r x block rest).evaluate
      = (s.allocated ch b r x block rest).evaluate.setChannel ch c :=
  State.evaluate_setChannel (s.allocated ch b r x block rest) ch c

section HandOver

variable {s : State} {ch r : Nat} {x : PageRecord}

theorem State.handOver_full (hp : (s.channel ch).page = some r) (hr : s.record r = some x) (hf : s.store.free = [])
    (b : BufId) (bytes : List Byte) : s.handOver ch b bytes = none := by
  simp only [State.handOver, hp, hr, State.beginWrite, hf, Option.map_none]

theorem State.handOver_some (hp : (s.channel ch).page = some r) (hr : s.record r = some x) {block : Nat}
    {rest : List Nat} (hf : s.store.free = block :: rest) (b : BufId) (bytes : List Byte) :
    s.handOver ch b bytes = some ((s.allocated ch b r x block rest).evaluate.setChannel ch
      ((s.channel ch).setBuf b (.writing bytes))) := by
  have hch : (s.allocated ch b r x block rest).evaluate.channel ch = s.channel ch :=
    State.channel_congr _ _ ch (by simp [State.allocated])
  simp only [State.handOver, hp, hr, State.beginWrite, hf, Option.map_some, State.setBuf]
  rw [← hch]
  rfl

end HandOver

/-! ### A payload placed or lost (R36 to R39) -/

/-- R36: the channel with a frame's sequence compared and advanced, and its page marked where bytes are lost. -/
def Channel.sequenced (c : Channel) (seq : Nat) (lost : Bool) : Channel :=
  { c with mark := c.mark || seq != c.expected || lost, expected := (seq + 1) % 256 }

theorem State.markPage_sequenced (s : State) {ch : Nat} (hc : ch < s.calls.channels.length) (c : Channel) (seq : Nat)
    (lost m : Bool) :
    (s.setChannel ch (c.sequenced seq lost)).markPage ch m = s.setChannel ch (c.sequenced seq (lost || m)) := by
  simp only [State.markPage, State.channel_setChannel _ _ _ hc, State.setChannel_setChannel, Channel.sequenced,
    Bool.or_assoc]

section Payload

variable {s : State} {ch : Nat}

/-- R36: a PAGE_DATA before the page's end marks the page by its sequence, then places its payload. -/
theorem State.pageData_taken (h : (s.channel ch).state = .receivingPage) (he : (s.channel ch).ended = none)
    (seq : Nat) (payload : List Byte) :
    s.pageData ch seq payload = (s.setChannel ch ((s.channel ch).sequenced seq false)).takePayload ch payload := by
  simp [State.pageData, h, he, State.sequence, Channel.sequenced]

/-- R38: a page that has reached its length limit. -/
theorem State.takePayload_full {c : Channel} {seq : Nat} (hc : ch < s.calls.channels.length) (payload : List Byte)
    (hroom : 1048576 - c.received = 0) :
    (s.setChannel ch (c.sequenced seq false)).takePayload ch payload = s.setChannel ch (c.sequenced seq true) := by
  have hr : pageBytes - (c.sequenced seq false).received = 0 := hroom
  simp only [State.takePayload, State.channel_setChannel _ _ _ hc, hr, if_true, State.markPage_sequenced _ hc,
    Bool.false_or]

/-- R39: an overrun, with both buffers in flight or too little space left. -/
theorem State.takePayload_overrun {c : Channel} {seq : Nat} (hc : ch < s.calls.channels.length) {payload : List Byte}
    (hroom : 0 < 1048576 - c.received)
    (hover : c.filling = none ∨ c.spaceLeft < (payload.take (1048576 - c.received)).length) :
    (s.setChannel ch (c.sequenced seq false)).takePayload ch payload = s.setChannel ch (c.sequenced seq true) := by
  have hr : pageBytes - (c.sequenced seq false).received ≠ 0 := Nat.ne_of_gt hroom
  have hfill : (c.sequenced seq false).filling = c.filling := rfl
  simp only [State.takePayload, State.channel_setChannel _ _ _ hc, hr, if_false, State.markPage_sequenced _ hc,
    Bool.or_true, hfill]
  cases hf : c.filling with
  | none => rfl
  | some e =>
    have hless : c.spaceLeft < (payload.take (1048576 - c.received)).length := hover.resolve_left (by simp [hf])
    exact if_neg (Nat.not_le.2 hless)

/-- R37: a payload that fits, cut to the page's length limit. -/
theorem State.takePayload_placed {c : Channel} {seq : Nat} (hc : ch < s.calls.channels.length) {payload : List Byte}
    {b : BufId} {held : List Byte} (hroom : 0 < 1048576 - c.received) (hf : c.filling = some (b, held))
    (hfits : (payload.take (1048576 - c.received)).length ≤ c.spaceLeft) :
    (s.setChannel ch (c.sequenced seq false)).takePayload ch payload
      = (s.setChannel ch (c.sequenced seq (decide (1048576 - c.received < payload.length)))).placeBytes ch b held
          (payload.take (1048576 - c.received)) := by
  have hr : pageBytes - (c.sequenced seq false).received ≠ 0 := Nat.ne_of_gt hroom
  have hfill : (c.sequenced seq false).filling = some (b, held) := hf
  simp only [State.takePayload, State.channel_setChannel _ _ _ hc, hr, if_false, State.markPage_sequenced _ hc,
    Bool.false_or, hfill]
  exact if_pos hfits

/-- R37: bytes that leave the filling buffer short of a block. -/
theorem State.placeBytes_short {c : Channel} (hc : ch < s.calls.channels.length) (b : BufId) {held kept : List Byte}
    (hshort : (held ++ kept).length < 4096) :
    (s.setChannel ch c).placeBytes ch b held kept
      = s.setChannel ch ({ c with received := c.received + kept.length }.setBuf b (.filling (held ++ kept))) := by
  have hlt : (held ++ kept).length < blockBytes := hshort
  simp only [State.placeBytes, State.channel_setChannel _ _ _ hc, State.setChannel_setChannel, if_pos hlt, State.setBuf]

end Payload

@[simp] theorem State.calls_length_frameTaken (s : State) (ch : Nat) :
    (s.frameTaken ch).calls.channels.length = s.calls.channels.length := by
  cases h : ChannelState.live (s.channel ch).state with
  | true => simp [State.frameTaken_live h]
  | false => simp [State.frameTaken_still h]

/-- Settles O19: the payload by the three cases of takePayload, the buffers by Channel.buffers_read. -/
theorem pageDataPlacedOrLost : Obligations.PageDataPlacedOrLost := by
  refine ⟨?_, Channel.buffers_read⟩
  intro s ch seq payload hq hok hst he g c room kept marked run
  obtain ⟨hgst, -, -, hgend, -⟩ := s.frameTaken_keeps hq.inRange
  have hrange : ch < g.calls.channels.length := by simpa [g] using hq.inRange
  have hrun : run = .next ((g.setChannel ch (c.sequenced seq false)).takePayload ch payload) :=
    (exec_pageData_quiet hq hok).trans (congrArg _ (State.pageData_taken (hgst.trans hst) (hgend.trans he) seq payload))
  have hmarked : c.sequenced seq true = marked := by simp only [Channel.sequenced, Bool.or_true, marked]
  refine ⟨fun hr => ?_, fun hr hover => ?_, fun b held hr hf hshort => ?_⟩
  · rw [hrun, State.takePayload_full hrange payload hr, hmarked]
  · rw [hrun, State.takePayload_overrun hrange hr hover, hmarked]
  · have hlen : (held ++ kept).length < 4096 := by rwa [List.length_append]
    have hfits : kept.length ≤ c.spaceLeft := by
      rw [Channel.spaceLeft_some hf]
      omega
    rw [hrun, State.takePayload_placed hrange hr hf hfits, State.placeBytes_short hrange b hlen]
    rfl

end Sys2Proof.Machine
end

section
/-! PROOFS. A full buffer and the last buffer of a page handed over, and the drop with STORE_FULL (R5, R37, R41, R42). -/

namespace Sys2Proof.Machine

open Sys2Proof.Config

section Placed

variable {s : State} {ch : Nat} {c : Channel} {b : BufId} {held kept : List Byte}

/-- R41: bytes that fill the buffer, with no block free. -/
theorem State.placeBytes_noBlock (hc : ch < s.calls.channels.length) (hfull : 4096 ≤ (held ++ kept).length)
    (hhand : (s.setChannel ch { c with received := c.received + kept.length }).handOver ch b
      ((held ++ kept).take 4096) = none) :
    (s.setChannel ch c).placeBytes ch b held kept
      = (s.setChannel ch { c with received := c.received + kept.length }).storeFull ch b := by
  have hlt : ¬ (held ++ kept).length < blockBytes := Nat.not_lt.2 hfull
  have hnone : (s.setChannel ch { c with received := c.received + kept.length }).handOver ch b
      ((held ++ kept).take blockBytes) = none := hhand
  simp only [State.placeBytes, State.channel_setChannel _ _ _ hc, State.setChannel_setChannel, if_neg hlt, hnone]

/-- R37: bytes that fill the buffer; what remains goes into the other one. -/
theorem State.placeBytes_handed {t : State} (hc : ch < s.calls.channels.length) (hfull : 4096 ≤ (held ++ kept).length)
    (hhand : (s.setChannel ch { c with received := c.received + kept.length }).handOver ch b
      ((held ++ kept).take 4096) = some t) :
    (s.setChannel ch c).placeBytes ch b held kept
      = if (held ++ kept).length = 4096 then t
        else t.setBuf ch (BufId.other b) (.filling ((held ++ kept).drop 4096)) := by
  have hlt : ¬ (held ++ kept).length < blockBytes := Nat.not_lt.2 hfull
  have hsome : (s.setChannel ch { c with received := c.received + kept.length }).handOver ch b
      ((held ++ kept).take blockBytes) = some t := hhand
  have hdrop : (((held ++ kept).drop blockBytes).isEmpty = true) = ((held ++ kept).length = 4096) := by
    simp only [List.isEmpty_iff, List.drop_eq_nil_iff, blockBytes, eq_iff_iff]
    omega
  simp only [State.placeBytes, State.channel_setChannel _ _ _ hc, State.setChannel_setChannel, if_neg hlt, hsome, hdrop]
  rfl

end Placed

/-- R5: a buffer of a channel just written, handed over. -/
theorem State.handOver_setChannel {s : State} {ch r : Nat} {x : PageRecord} {c : Channel} {block : Nat}
    {rest : List Nat} (hc : ch < s.calls.channels.length) (hp : c.page = some r) (hr : s.record r = some x)
    (hf : s.store.free = block :: rest) (b : BufId) (bytes : List Byte) :
    (s.setChannel ch c).handOver ch b bytes
      = some ((s.allocated ch b r x block rest).evaluate.setChannel ch (c.setBuf b (.writing bytes))) := by
  have hch : (s.setChannel ch c).channel ch = c := State.channel_setChannel s ch c hc
  rw [State.handOver_some (by rwa [hch]) (show (s.setChannel ch c).record r = some x from hr) hf,
    State.evaluate_allocated_setChannel, hch, State.setChannel_setChannel]

theorem State.handOver_setChannel_full {s : State} {ch r : Nat} {x : PageRecord} {c : Channel}
    (hc : ch < s.calls.channels.length) (hp : c.page = some r) (hr : s.record r = some x) (hf : s.store.free = [])
    (b : BufId) (bytes : List Byte) : (s.setChannel ch c).handOver ch b bytes = none :=
  State.handOver_full (by rwa [State.channel_setChannel s ch c hc]) (show (s.setChannel ch c).record r = some x from hr) hf
    b bytes

/-- R5: a block allocated behind a frame taken, which changes nothing of the Page Store. -/
theorem State.allocated_frameTaken (s : State) (ch : Nat) (b : BufId) (r : Nat) (x : PageRecord) (block : Nat)
    (rest : List Nat) :
    ({ s.frameTaken ch with store := { (s.frameTaken ch).store with
        free := rest
        records := tablePut r { x with blocks := x.blocks ++ [block] } s.store.records
        port := s.store.port ++ [PortOp.write ch b r block] } } : State)
      = (s.frameTaken ch).allocated ch b r x block rest := by
  simp [State.allocated]

/-- R37, R5: bytes that fill the buffer, with a block free for it. -/
theorem State.placeBytes_allocated {s : State} {ch r : Nat} {x : PageRecord} {c : Channel} {block : Nat}
    {rest : List Nat} {held kept : List Byte} (hc : ch < s.calls.channels.length) (hp : c.page = some r)
    (hr : s.record r = some x) (hf : s.store.free = block :: rest) (b : BufId) (hfull : 4096 ≤ (held ++ kept).length) :
    (s.setChannel ch c).placeBytes ch b held kept
      = (s.allocated ch b r x block rest).evaluate.setChannel ch
        (if (held ++ kept).length = 4096
          then { c with received := c.received + kept.length }.setBuf b (.writing ((held ++ kept).take 4096))
          else ({ c with received := c.received + kept.length }.setBuf b (.writing ((held ++ kept).take 4096))).setBuf
            (BufId.other b) (.filling ((held ++ kept).drop 4096))) := by
  have hlen : ch < (s.allocated ch b r x block rest).evaluate.calls.channels.length := by simpa [State.allocated] using hc
  have hpage : ({ c with received := c.received + kept.length } : Channel).page = some r := hp
  rw [State.placeBytes_handed hc hfull (State.handOver_setChannel hc hpage hr hf b _)]
  by_cases hexact : (held ++ kept).length = 4096
  · rw [if_pos hexact, if_pos hexact]
  · rw [if_neg hexact, if_neg hexact, State.setBuf, State.channel_setChannel _ _ _ hlen, State.setChannel_setChannel]

/-! ### The drop with STORE_FULL (R41) -/

theorem State.drop_cut {s : State} {ch slot : Nat} {d : Doc} (hp : (s.channel ch).page = none)
    (hdoc : (s.channel ch).doc = some slot) (hd : s.doc slot = some d) (cause : Cause) :
    (s.cut ch).drop ch cause = (s.setDoc slot { d with incomplete := true }).dropped ch d.receipt cause := by
  have hch : (s.setDoc slot { d with incomplete := true }).channel ch = s.channel ch := State.channel_congr _ _ ch rfl
  rw [State.cut_eq hdoc hd, State.drop_pageless (by rwa [hch]),
    State.receiptOf_eq (by rwa [hch]) (State.doc_setDoc s slot _)]

/-- R41: the page given up and the document incomplete, then the drop. -/
theorem State.storeFull_eq {s : State} {ch slot r : Nat} {d : Doc} (b : BufId) (hc : ch < s.calls.channels.length)
    (hp : (s.channel ch).page = some r) (hdoc : (s.channel ch).doc = some slot) (hd : s.doc slot = some d) :
    s.storeFull ch b = (((s.setBuf ch b .empty).giveUp ch).setDoc slot { d with incomplete := true }).dropped ch
      d.receipt .storeFull := by
  have hlen : ch < (s.setBuf ch b .empty).calls.channels.length := by simpa [State.setBuf] using hc
  have hset : (s.setBuf ch b .empty).channel ch = (s.channel ch).setBuf b .empty := State.channel_setChannel s ch _ hc
  have hpage : ((s.setBuf ch b .empty).channel ch).page = some r := by simp [hset, hp]
  have hdocSet : ((s.channel ch).setBuf b .empty).doc = some slot := by cases b <;> exact hdoc
  have hup : (((s.setBuf ch b .empty).giveUp ch).channel ch).doc = some slot := by
    rw [State.channel_giveUp hlen hpage, hset]
    exact hdocSet
  have hkept : ((s.setBuf ch b .empty).giveUp ch).doc slot = some d := (State.doc_congr (by simp) slot).trans hd
  have hgone : (((s.setBuf ch b .empty).giveUp ch).channel ch).page = none := by
    rw [State.channel_giveUp hlen hpage]
  exact State.drop_cut hgone hup hkept .storeFull

@[simp] theorem State.dropped_frame (s : State) (ch receipt : Nat) (cause : Cause) :
    (s.dropped ch receipt cause).docs = s.docs ∧ (s.dropped ch receipt cause).store = s.store := by
  simp [State.dropped]

theorem State.occurrence_dropped (s : State) (ch receipt : Nat) (cause : Cause) :
    (s.dropped ch receipt cause).waiting.occurrences.getLast?
      = some (.callController, .callDropped ch receipt cause) := by
  simp [State.dropped]

/-- The channel of a page that cannot be stored, given up with one of its buffers EMPTY. -/
theorem State.channel_giveUp_setBuf {s : State} {ch r : Nat} (b : BufId) (hc : ch < s.calls.channels.length)
    (hp : (s.channel ch).page = some r) :
    ((s.setBuf ch b .empty).giveUp ch).channel ch = { (s.channel ch).setBuf b .empty with
      page := none, ended := none, mark := false
      discards := if s.writing ch r then (s.channel ch).discards ++ [r] else (s.channel ch).discards } := by
  have hset : (s.setBuf ch b .empty).channel ch = (s.channel ch).setBuf b .empty := State.channel_setChannel s ch _ hc
  have hw : (s.setBuf ch b .empty).writing ch r = s.writing ch r := rfl
  have hpage : ((s.setBuf ch b .empty).channel ch).page = some r := by simp [hset, hp]
  rw [State.channel_giveUp (by simpa [State.setBuf] using hc) hpage, hset, hw]
  simp

theorem State.store_giveUp_setBuf {s : State} {ch r : Nat} (b : BufId) (hc : ch < s.calls.channels.length)
    (hp : (s.channel ch).page = some r) :
    (s.writing ch r = true → ((s.setBuf ch b .empty).giveUp ch).store = s.store)
    ∧ (s.writing ch r = false → ((s.setBuf ch b .empty).giveUp ch).store.records = tableDel r s.store.records
        ∧ ((s.setBuf ch b .empty).giveUp ch).store.free = s.store.free ++ s.blocksOf r) := by
  have hpage : ((s.setBuf ch b .empty).channel ch).page = some r := by
    simp [State.setBuf, State.channel_setChannel _ _ _ hc, hp]
  refine ⟨fun hw => ?_, fun hw => ?_⟩
  · rw [State.giveUp_held hpage hw]
    rfl
  · rw [State.giveUp_discard hpage hw, State.store_discardPage]
    exact ⟨rfl, rfl⟩

theorem Channel.buf_setBuf (c : Channel) (b : BufId) (x : Buffer) : (c.setBuf b x).buf b = x := by
  cases b <;> rfl

/-- R41, R47: the channel after the drop with STORE_FULL. -/
theorem State.channel_storeFull {s : State} {ch slot r : Nat} {d : Doc} (b : BufId) (hc : ch < s.calls.channels.length)
    (hp : (s.channel ch).page = some r) (hdoc : (s.channel ch).doc = some slot) (hd : s.doc slot = some d) :
    (s.storeFull ch b).channel ch = { (s.channel ch).setBuf b .empty with
      page := none, ended := none, mark := false
      discards := if s.writing ch r then (s.channel ch).discards ++ [r] else (s.channel ch).discards
      state := .releasing, drop := some .storeFull, silence := none, release := some (s.mgmt.uptime + 3000) } := by
  have hlen : ch < ((s.setBuf ch b .empty).giveUp ch).calls.channels.length := by simpa [State.setBuf] using hc
  have hset : (((s.setBuf ch b .empty).giveUp ch).setDoc slot { d with incomplete := true }).channel ch
      = ((s.setBuf ch b .empty).giveUp ch).channel ch := State.channel_congr _ _ ch rfl
  have hup : ((s.setBuf ch b .empty).giveUp ch).mgmt.uptime = s.mgmt.uptime := by simp
  rw [State.storeFull_eq b hc hp hdoc hd, State.channel_dropped (by simpa using hlen), hset,
    State.channel_giveUp_setBuf b hc hp, State.setDoc_mgmt, hup]

/-- Settles O20: the payload that fits is placed by placeBytes, whose hand-over finds a block or none; what storeFull
leaves is read off State.storeFull_eq. -/
theorem fullBufferIsHandedOver : Obligations.FullBufferIsHandedOver := by
  refine ⟨?_, ?_⟩
  · intro s ch seq r payload b held x hq hok hst he hp hr g c room kept bytes filled run hroom hf hfits hfull
    obtain ⟨hgst, -, hgpage, hgend, -⟩ := s.frameTaken_keeps hq.inRange
    have hrange : ch < g.calls.channels.length := by simpa [g] using hq.inRange
    have hgr : g.record r = some x := (s.record_frameTaken ch r).trans hr
    have hfree : g.store.free = s.store.free := by simp [g]
    have hrun : run = .next ((g.setChannel ch (c.sequenced seq (decide (room < payload.length)))).placeBytes ch b held
        kept) := by
      rw [← State.takePayload_placed hrange hroom hf hfits, ← State.pageData_taken (hgst.trans hst) (hgend.trans he)]
      exact exec_pageData_quiet hq hok
    have hpage : filled.page = some r := hgpage.trans hp
    have hsequenced : (c.sequenced seq (decide (room < payload.length))).page = some r := hpage
    refine ⟨fun block rest hcons => ?_, fun hnil => ?_⟩
    · rw [hrun, State.placeBytes_allocated hrange hsequenced hgr (hfree.trans hcons) b hfull,
        ← State.allocated_frameTaken]
      rfl
    · have hhand := State.handOver_setChannel_full hrange hpage hgr (hfree.trans hnil) b (bytes.take 4096)
      rw [hrun, State.placeBytes_noBlock hrange hfull hhand]
      rfl
  · intro s ch slot r b d hc hp hdoc hd t
    have ht : t = (((s.setBuf ch b .empty).giveUp ch).setDoc slot { d with incomplete := true }).dropped ch d.receipt
        .storeFull := State.storeFull_eq b hc hp hdoc hd
    have hdocs : t.doc slot = some { d with incomplete := true } := by
      rw [ht, State.doc_congr (State.dropped_frame _ ch d.receipt .storeFull).1, State.doc_setDoc]
    have hqueue : t.line.queue = if s.line.link = .up then s.line.queue ++ [⟨ch, .drop .storeFull⟩]
        else s.line.queue := by
      have hline : ((s.setBuf ch b .empty).giveUp ch).line = s.line := by simp
      rw [ht, State.line_dropped, State.setDoc_line, hline]
    have hstore : t.store = ((s.setBuf ch b .empty).giveUp ch).store := by rw [ht]; simp
    have hraised : t.waiting.occurrences.getLast? = some (.callController, .callDropped ch d.receipt .storeFull) := by
      rw [ht, State.occurrence_dropped]
    obtain ⟨hheld, hfreed⟩ := State.store_giveUp_setBuf b hc hp
    rw [State.channel_storeFull b hc hp hdoc hd, hstore]
    exact ⟨rfl, rfl, rfl, Channel.buf_setBuf _ b _, rfl, rfl, rfl, hdocs, hqueue, hraised, hheld, hfreed⟩

/-! ### The end of a page (R42) -/

section End

variable {s : State} {ch r : Nat} {e : PageEnd}

theorem State.finalizeIfDone_eq (hp : (s.channel ch).page = some r) :
    s.finalizeIfDone ch = if s.writing ch r then s else s.finalize ch := by
  simp only [State.finalizeIfDone, hp]

/-- R42: a page whose write has just been made waits for it. -/
theorem State.writing_allocated (s : State) (ch : Nat) (b : BufId) (r : Nat) (x : PageRecord) (block : Nat)
    (rest : List Nat) : (s.allocated ch b r x block rest).evaluate.writing ch r = true := by
  simp [State.writing, State.allocated]

/-- The end of a page, taken, leaves the buffers as they are. -/
theorem State.filling_ended (hc : ch < s.calls.channels.length) :
    ((s.setChannel ch { s.channel ch with ended := some e }).channel ch).filling = (s.channel ch).filling := by
  rw [State.channel_setChannel _ _ _ hc]
  rfl

variable (hc : ch < s.calls.channels.length) (hst : (s.channel ch).state = .receivingPage)
  (he : (s.channel ch).ended = none)
include hc hst he

theorem State.pageEnd_handed {b : BufId} {bytes : List Byte} {t : State} (hf : (s.channel ch).filling = some (b, bytes))
    (hne : bytes ≠ [])
    (hhand : (s.setChannel ch { s.channel ch with ended := some e }).handOver ch b bytes = some t) :
    s.pageEnd ch e = t.finalizeIfDone ch := by
  obtain ⟨y, ys, rfl⟩ := List.exists_cons_of_ne_nil hne
  simp only [State.pageEnd, if_pos (And.intro hst he), State.filling_ended hc, hf, hhand]

theorem State.pageEnd_noBlock {b : BufId} {bytes : List Byte} (hf : (s.channel ch).filling = some (b, bytes))
    (hne : bytes ≠ [])
    (hhand : (s.setChannel ch { s.channel ch with ended := some e }).handOver ch b bytes = none) :
    s.pageEnd ch e = (s.setChannel ch { s.channel ch with ended := some e }).storeFull ch b := by
  obtain ⟨y, ys, rfl⟩ := List.exists_cons_of_ne_nil hne
  simp only [State.pageEnd, if_pos (And.intro hst he), State.filling_ended hc, hf, hhand]

/-- R42: no partial buffer is left to hand over. -/
theorem State.pageEnd_nothingHeld (hf : (s.channel ch).filling = none ∨ ∃ b, (s.channel ch).filling = some (b, [])) :
    s.pageEnd ch e = (s.setChannel ch { s.channel ch with ended := some e }).finalizeIfDone ch := by
  rcases hf with hf | ⟨b, hf⟩
  · simp only [State.pageEnd, if_pos (And.intro hst he), State.filling_ended hc, hf]
  · simp only [State.pageEnd, if_pos (And.intro hst he), State.filling_ended hc, hf]

end End

/-- Settles O21: the three cases of the page's end; a hand-over leaves its write in flight, so the page waits. -/
theorem pageEndTaken : Obligations.PageEndTaken := by
  intro s ch lines errs r verdict x hq hok hst he hp hr g c run
  obtain ⟨hgst, -, hgpage, hgend, hgfill⟩ := s.frameTaken_keeps hq.inRange
  have hrange : ch < g.calls.channels.length := by simpa [g] using hq.inRange
  have hgr : g.record r = some x := (s.record_frameTaken ch r).trans hr
  have hfree : g.store.free = s.store.free := by simp [g]
  have hst' : (g.channel ch).state = .receivingPage := hgst.trans hst
  have he' : (g.channel ch).ended = none := hgend.trans he
  have hpage : c.page = some r := hgpage.trans hp
  have hrun : run = .next (g.pageEnd ch ⟨lines, errs, verdict⟩) := exec_pageEnd_quiet hq hok verdict
  refine ⟨fun b bytes block rest hf hne hcons => ?_, fun b bytes hf hne hnil => ?_, fun hf => ?_⟩
  · have hhand := State.handOver_setChannel hrange hpage hgr (hfree.trans hcons) b bytes
    have hlen : ch < (g.allocated ch b r x block rest).evaluate.calls.channels.length := by
      simpa [State.allocated] using hrange
    have hset : (((g.allocated ch b r x block rest).evaluate.setChannel ch (c.setBuf b (.writing bytes))).channel ch).page
        = some r := by
      rw [State.channel_setChannel _ _ _ hlen]
      simpa using hpage
    rw [hrun, State.pageEnd_handed hrange hst' he' (hgfill.trans hf) hne hhand, State.finalizeIfDone_eq hset,
      State.allocated_frameTaken]
    exact congrArg _ (if_pos (State.writing_allocated g ch b r x block rest))
  · rw [hrun, State.pageEnd_noBlock hrange hst' he' (hgfill.trans hf) hne
      (State.handOver_setChannel_full hrange hpage hgr (hfree.trans hnil) b bytes)]
  · have hset : ((g.setChannel ch c).channel ch).page = some r := by rwa [State.channel_setChannel _ _ _ hrange]
    have hw : (g.setChannel ch c).writing ch r = s.writing ch r := by simp [State.writing, g]
    have hdone : run = .next (if s.writing ch r then g.setChannel ch c else (g.setChannel ch c).finalize ch) := by
      rw [hrun, State.pageEnd_nothingHeld hrange hst' he' (by rwa [hgfill]), State.finalizeIfDone_eq hset, hw]
    exact ⟨fun h => by rw [hdone, if_pos h], fun h => by rw [hdone, h, if_neg Bool.false_ne_true]⟩

end Sys2Proof.Machine
end

section
/-! PROOFS. The events that end a call: what a close, a loss of the link and a decision carried on keep of their
channel (R29, R46 to R51). -/

namespace Sys2Proof.Machine

open Sys2Proof.Config

/-! ### What a loss taken, and a decision, keep of the channel -/

theorem State.channel_idleReport (s : State) (ch : Nat) : s.idleReport.channel ch = s.channel ch :=
  State.channel_congr _ _ ch (by simp)

/-- R45: the channel at the end of a close. -/
theorem State.channel_closeCall {s : State} {ch : Nat} (hc : ch < s.calls.channels.length) (cause : Cause) :
    (s.closeCall ch cause).channel ch = ((s.giveUp ch).channel ch).closed := by
  have ends : ∀ x : State, x.calls = (s.giveUp ch).calls →
      (x.setChannel ch (x.channel ch).closed).idleReport.channel ch = ((s.giveUp ch).channel ch).closed := by
    intro x hx
    rw [State.channel_idleReport, State.channel_setChannel _ _ _ (by rw [hx]; simpa using hc),
      State.channel_congr _ _ ch hx]
  unfold State.closeCall
  dsimp only
  split
  · exact ends _ rfl
  · split
    · exact ends _ rfl
    · exact ends _ (by simp)

/-- R50: a loss taken is gone; the decision and the aborts of the channel stay. -/
theorem State.takeLoss_channel {s : State} {ch : Nat} (hc : ch < s.calls.channels.length) :
    ((s.takeLoss ch).channel ch).loss = false
    ∧ ((s.takeLoss ch).channel ch).decision = (s.channel ch).decision
    ∧ ((s.takeLoss ch).channel ch).aborts = (s.channel ch).aborts := by
  cases hl : (s.channel ch).loss with
  | false =>
    rw [State.takeLoss_none s ch hl]
    exact ⟨hl, rfl, rfl⟩
  | true =>
    have hset : (s.setChannel ch { s.channel ch with loss := false }).channel ch = { s.channel ch with loss := false } :=
      State.channel_setChannel s ch _ hc
    simp only [State.takeLoss, hl, if_true, State.loseLink]
    split
    · rw [hset]
      exact ⟨rfl, rfl, rfl⟩
    · have hlen : ch < (s.setChannel ch { s.channel ch with loss := false }).calls.channels.length := by simpa using hc
      obtain ⟨ended, mark, discards, hu⟩ := State.giveUp_channel _ hlen
      rw [State.channel_closeCall hlen, hu, hset]
      exact ⟨rfl, rfl, rfl⟩

/-- R33, R53: a decision run to its end leaves no decision, and the loss and the aborts of the channel as they are. -/
theorem State.decideOn_channel {s : State} {ch : Nat} (hc : ch < s.calls.channels.length) :
    ((s.decideOn ch .done).channel ch).decision = none
    ∧ ((s.decideOn ch .done).channel ch).loss = (s.channel ch).loss
    ∧ ((s.decideOn ch .done).channel ch).aborts = (s.channel ch).aborts
    ∧ (s.decideOn ch .done).calls.channels.length = s.calls.channels.length := by
  cases hd : (s.channel ch).decision with
  | none =>
    rw [State.decideOn_none s ch _ hd]
    exact ⟨hd, rfl, rfl, rfl⟩
  | some d =>
    obtain ⟨cause, hcalls, -⟩ | ⟨slot, receipt, due, hcalls, -⟩ := State.decideOn_ends s ch d hc hd
    · rw [State.channel_congr _ _ ch hcalls, hcalls, State.channel_setDecision s ch none hc]
      exact ⟨rfl, rfl, rfl, by simp⟩
    · rw [State.channel_congr _ _ ch hcalls, hcalls, State.channel_setChannel s ch _ hc]
      exact ⟨rfl, rfl, rfl, by simp⟩

/-- R29, R50: a settled channel has no decision under way and no loss to take. -/
theorem State.settle_channel {s : State} {ch : Nat} (hc : ch < s.calls.channels.length) :
    ((s.settle ch).channel ch).decision = none ∧ ((s.settle ch).channel ch).loss = false := by
  obtain ⟨hdecided, -, -, hlen⟩ := State.decideOn_channel hc
  obtain ⟨hloss, hdecision, -⟩ := State.takeLoss_channel (s := s.decideOn ch .done) (hlen ▸ hc)
  exact ⟨hdecision.trans hdecided, hloss⟩

theorem State.settle_settle {s : State} {ch : Nat} (hc : ch < s.calls.channels.length) :
    (s.settle ch).settle ch = s.settle ch :=
  State.settle_quiet (State.settle_channel hc).1 (State.settle_channel hc).2

/-- R29, R50: with no loss that waits, a decision carried on to its end settles the channel. -/
theorem State.carryOn_lossless {s : State} {ch : Nat} (hc : ch < s.calls.channels.length)
    (hl : (s.channel ch).loss = false) : s.carryOn ch .done = s.settle ch := by
  obtain ⟨-, hloss, -⟩ := State.decideOn_channel hc
  have hnone : (s.decideOn ch .done).takeLoss ch = s.decideOn ch .done := State.takeLoss_none _ ch (hloss.trans hl)
  simp only [State.carryOn, State.settle, hnone, ite_self]

/-- R50: a decision carried on to its end leaves no decision, and the aborts of the channel as they are. -/
theorem State.carryOn_channel {s : State} {ch : Nat} (hc : ch < s.calls.channels.length) :
    ((s.carryOn ch .done).channel ch).decision = none
    ∧ ((s.carryOn ch .done).channel ch).aborts = (s.channel ch).aborts := by
  obtain ⟨hdecided, -, haborts, hlen⟩ := State.decideOn_channel hc
  obtain ⟨-, hdecision, hkept⟩ := State.takeLoss_channel (s := s.decideOn ch .done) (hlen ▸ hc)
  unfold State.carryOn
  dsimp only
  split
  · exact ⟨hdecision.trans hdecided, hkept.trans haborts⟩
  · exact ⟨hdecided, haborts⟩

/-! ### A good frame before its channel takes it (R27, R29) -/

theorem State.lineGood_line (s : State) :
    s.lineGood.line.link = .up ∧ s.lineGood.line.silence = some (s.mgmt.uptime + 3000) := by
  cases h : s.line.link with
  | up => rw [State.lineGood_up h]; exact ⟨rfl, rfl⟩
  | down => rw [State.lineGood_down h]; exact ⟨rfl, rfl⟩

/-- R27: a good frame at the instant of another changes nothing more. -/
theorem State.lineGood_fresh {s : State} (hl : s.line.link = .up) (hs : s.line.silence = some (s.mgmt.uptime + 3000)) :
    s.lineGood = s := by
  rw [State.lineGood_up hl, ← hs, ← hl]

theorem State.sendLine_link (s : State) (ch : Nat) (body : LineBody) :
    (s.sendLine ch body).line.link = s.line.link ∧ (s.sendLine ch body).line.silence = s.line.silence := by
  cases h : s.lineDiscards ch body with
  | true => rw [State.sendLine_discarded s ch body h]; exact ⟨rfl, rfl⟩
  | false => rw [State.sendLine_sent s ch body h]; exact ⟨rfl, rfl⟩

/-- A settled channel changes nothing of the Line Port but the outgoing frames. -/
theorem State.settle_link {s : State} {ch : Nat} (hc : ch < s.calls.channels.length) :
    (s.settle ch).line.link = s.line.link ∧ (s.settle ch).line.silence = s.line.silence := by
  have hline : (s.settle ch).line = (s.decideOn ch .done).line := by simp [State.settle]
  rw [hline]
  cases hd : (s.channel ch).decision with
  | none => rw [State.decideOn_none s ch _ hd]; exact ⟨rfl, rfl⟩
  | some d =>
    obtain ⟨cause, -, hsent⟩ | ⟨slot, receipt, due, -, hsent⟩ := State.decideOn_ends s ch d hc hd
    · rw [hsent]; exact State.sendLine_link s ch _
    · rw [hsent]; exact State.sendLine_link s ch _

/-- R29: what a good frame does, it does to its channel settled. -/
theorem exec_frame_settles {i : Instr} {ch : Nat} (hi : frameChannel i = some ch) (hw : i.wellFormed = true) :
    ∃ f : State → State, ∀ s : State, s.awake → exec i s = .next (f ((s.lineGood.settle ch).restartSilence ch)) := by
  have good : ∀ (ok : Bool) (f : State → State), ok = true →
      ∃ g : State → State, ∀ s : State, s.awake →
        act (fun s => s.lineFrame ok ch f) s = .next (g ((s.lineGood.settle ch).restartSilence ch)) := by
    rintro _ f rfl
    exact ⟨f, fun s ha => act_awake _ s ha⟩
  cases i with
  | callOpen k part =>
    cases part with
    | frame called caller stop => cases hi; exact good _ (fun s => s.callOpen ch called caller stop) hw
    | onward stop => cases hi
  | senderInfo k ident => cases hi; exact good _ (fun s => s.senderInfo ch ident) hw
  | pageStart k page res width => cases hi; exact good _ (fun s => s.pageStart ch page res width) hw
  | pageData k seq payload => cases hi; exact good _ (fun s => s.pageData ch seq payload) hw
  | pageEnd k lines errs verdict => cases hi; exact good _ (fun s => s.pageEnd ch ⟨lines, errs, verdict⟩) hw
  | callClose k cause => cases hi; exact good _ (fun s => s.callClose ch cause) hw
  | _ => cases hi

/-- R29: a good frame acts as it does once its channel has been settled in the state in which the link has taken it. -/
theorem exec_frame_settled {i : Instr} {ch : Nat} {s : State} (ha : s.awake) (hc : ch < s.calls.channels.length)
    (hi : frameChannel i = some ch) (hw : i.wellFormed = true) : exec i s = exec i (s.lineGood.settle ch) := by
  have hlen : ch < s.lineGood.calls.channels.length := by simpa using hc
  have hreset : (s.lineGood.settle ch).heldReset = s.heldReset := by simp
  have hmgmt : (s.lineGood.settle ch).mgmt.uptime = s.mgmt.uptime := by simp
  obtain ⟨hlink, hsilence⟩ := State.settle_link hlen
  obtain ⟨hup, hdue⟩ := s.lineGood_line
  have hfresh : (s.lineGood.settle ch).lineGood = s.lineGood.settle ch :=
    State.lineGood_fresh (hlink.trans hup) (by rw [hsilence, hdue, hmgmt])
  obtain ⟨f, hf⟩ := exec_frame_settles hi hw
  rw [hf s ha, hf _ (hreset.trans ha), hfresh, State.settle_settle hlen]

end Sys2Proof.Machine
end

section
/-! PROOFS. Which event ends a call or drops it, and with which cause (R29, R30, R46 to R51). -/

namespace Sys2Proof.Machine

open Sys2Proof.Config

section Events

variable {s : State} {ch : Nat}

theorem State.callClose_live (h : ChannelState.live (s.channel ch).state = true) (cause : ShelfCause) :
    s.callClose ch cause = s.closeCall ch (ShelfCause.cause cause) := by
  cases hst : (s.channel ch).state with
  | idle | releasing => rw [hst] at h; cases h
  | answered | receivingPage | betweenPages => simp only [State.callClose, hst]

theorem State.callClose_releasing (h : (s.channel ch).state = .releasing) {was : Cause}
    (hw : (s.channel ch).drop = some was) (cause : ShelfCause) : s.callClose ch cause = s.closeCall ch was := by
  simp only [State.callClose, h, hw, Option.getD_some]

theorem exec_channelSilenceExpiry_eq {due : Nat} (ha : s.awake) (hs : (s.channel ch).silence = some due)
    (hd : due ≤ 281474976710655) : exec (.channelSilenceExpiry ch) s = .next ((s.advanceTo due).drop ch .timeout) := by
  change execChannelSilenceExpiry ch s = _
  rw [execChannelSilenceExpiry, act_awake _ s ha, hs, expiring_some hd]

theorem exec_releaseTimerExpiry_eq {due : Nat} (ha : s.awake) (hr : (s.channel ch).release = some due)
    (hd : due ≤ 281474976710655) :
    exec (.releaseTimerExpiry ch) s = .next (((s.advanceTo due).closeCall ch .noRelease).raise .callController
      (.channelUnresponsive ch (s.receiptOf ch))) := by
  change execReleaseTimerExpiry ch s = _
  rw [execReleaseTimerExpiry, act_awake _ s ha, hr, expiring_some hd]

theorem exec_channelLinkLoss_settles (ha : s.awake) (hl : (s.channel ch).loss = true) :
    exec (.channelLinkLoss ch) s = .next (s.settle ch) :=
  (act_awake _ s ha).trans (congrArg _ (if_pos hl))

/-- R50: with no decision under way the channel takes the loss, if there is one. -/
theorem exec_channelLinkLoss_takes (ha : s.awake) (hd : (s.channel ch).decision = none) :
    exec (.channelLinkLoss ch) s = .next (s.takeLoss ch) := by
  cases hl : (s.channel ch).loss with
  | true => rw [exec_channelLinkLoss_settles ha hl, State.settle, State.decideOn_none s ch _ hd]
  | false =>
    rw [State.takeLoss_none s ch hl]
    exact (act_awake _ s ha).trans (congrArg _ (if_neg (by simp [hl])))

theorem exec_onward_eq (ha : s.awake) (stop : DecisionStop) :
    exec (.callOpen ch (.onward stop)) s = .next (s.carryOn ch stop) := by
  change execCallOpen ch (.onward stop) s = _
  rw [execCallOpen, act_awake _ s ha]

/-- R50, log 5: a decision that ends where a loss waits ends the call it has answered. -/
theorem State.carryOn_ended {stop : DecisionStop} (hd : (s.channel ch).decision ≠ none)
    (hu : ((s.decideOn ch stop).channel ch).decision = none) : s.carryOn ch stop = (s.decideOn ch stop).takeLoss ch := by
  simp [State.carryOn, Option.isSome_iff_ne_none.2 hd, hu]

theorem State.carryOn_underWay {stop : DecisionStop} (hu : ((s.decideOn ch stop).channel ch).decision ≠ none) :
    s.carryOn ch stop = s.decideOn ch stop := by
  simp [State.carryOn, hu]

theorem State.takeLoss_idle (hc : ch < s.calls.channels.length) (hl : (s.channel ch).loss = true)
    (hst : (s.channel ch).state = .idle) : s.takeLoss ch = s.setChannel ch { s.channel ch with loss := false } := by
  simp [State.takeLoss, hl, State.loseLink, State.channel_setChannel _ _ _ hc, hst]

theorem State.takeLoss_busy (hc : ch < s.calls.channels.length) (hl : (s.channel ch).loss = true)
    (hst : (s.channel ch).state ≠ .idle) :
    s.takeLoss ch = (s.setChannel ch { s.channel ch with loss := false }).closeCall ch .linkLost := by
  simp [State.takeLoss, hl, State.loseLink, State.channel_setChannel _ _ _ hc, hst]

/-- R30, R50: the frame of a decision that ends where a loss of the link waits: the ANSWER is discarded, and so is
the REFUSE while the link is DOWN. -/
theorem State.decideOn_behindLoss {d : Decision} (hc : ch < s.calls.channels.length)
    (hl : (s.channel ch).loss = true) (hd : (s.channel ch).decision = some d) :
    (s.line.link = .down → (s.decideOn ch .done).line = s.line)
    ∧ (s.line.link = .up → (s.channel ch).state = .idle →
        (((s.decideOn ch .done).channel ch).state = .answered ∧ (s.decideOn ch .done).line = s.line)
        ∨ (((s.decideOn ch .done).channel ch).state = .idle ∧ ∃ cause,
            (s.decideOn ch .done).line = { s.line with queue := s.line.queue ++ [⟨ch, .refuse cause⟩] })) := by
  obtain ⟨cause, hcalls, hline⟩ | ⟨slot, receipt, due, hcalls, hline⟩ := State.decideOn_ends s ch d hc hd
  · refine ⟨fun hlink => ?_, fun hlink hst => .inr ⟨?_, cause, ?_⟩⟩
    · rw [hline, State.sendLine_discarded s ch _ (State.lineDiscards_down s ch _ hlink)]
    · rw [State.channel_congr _ _ ch hcalls, State.channel_setDecision s ch none hc]
      exact hst
    · rw [hline, State.sendLine_sent s ch _ (State.lineDiscards_refuse s ch cause hlink)]
  · have hnone : (s.decideOn ch .done).line = s.line := by
      rw [hline, State.sendLine_discarded s ch _ (State.lineDiscards_answer s ch receipt hl)]
    refine ⟨fun _ => hnone, fun _ _ => .inl ⟨?_, hnone⟩⟩
    rw [State.channel_congr _ _ ch hcalls, State.channel_setChannel s ch _ hc]
    rfl

/-! ### An abort (R51, R181) -/

/-- R51: an abort taken by a channel with no decision under way. -/
def State.takeAbort (s : State) (ch : Nat) : State :=
  let t := s.setChannel ch { s.channel ch with aborts := (s.channel ch).aborts - 1 }
  if ChannelState.live (t.channel ch).state then t.drop ch .engineClosed else t

theorem exec_channelIntakeAbort_eq (ha : s.awake) {n : Nat} (hn : (s.channel ch).aborts = n + 1) :
    exec (.channelIntakeAbort ch) s = .next ((s.carryOn ch .done).takeAbort ch) := by
  have hsome : (s.channel ch).aborts ≠ 0 := by omega
  change execChannelIntakeAbort ch s = _
  rw [execChannelIntakeAbort, act_awake _ s ha, if_neg hsome]
  rfl

theorem State.takeAbort_eq (hc : ch < s.calls.channels.length) {n : Nat} (hn : (s.channel ch).aborts = n + 1) :
    s.takeAbort ch = if ChannelState.live (s.channel ch).state
      then (s.setChannel ch { s.channel ch with aborts := n }).drop ch .engineClosed
      else s.setChannel ch { s.channel ch with aborts := n } := by
  simp only [State.takeAbort, hn, Nat.add_sub_cancel, State.channel_setChannel _ _ _ hc]

end Events

theorem ChannelState.live_iff (st : ChannelState) : ChannelState.live st = true ↔ st ≠ .idle ∧ st ≠ .releasing := by
  cases st <;> simp [live]

/-- Settles O24: each event's equation above, with the channel settled first (exec_frame_settled) where one waits. -/
theorem eventsThatEndACall : Obligations.EventsThatEndACall := by
  intro s ch
  refine ⟨fun cause hq => ⟨fun hst => ?_, fun was hst hw => ?_⟩, fun due => exec_channelSilenceExpiry_eq,
    fun due => exec_releaseTimerExpiry_eq, fun ha hc hl hd => ⟨fun hst => ?_, fun hst => ?_⟩, ?_, ?_,
    fun i w ha hc hi hw => ⟨fun hl hexec => ?_, fun hl hexec => ?_⟩, fun n w ha hc hn hexec => ?_,
    fun n ha hc hn hd => ?_⟩
  · have hlive : ChannelState.live ((s.frameTaken ch).channel ch).state = true := by
      rw [(s.frameTaken_keeps hq.inRange).1]
      rcases hst with h | h | h <;> rw [h] <;> rfl
    rw [exec_callClose_quiet hq, State.callClose_live hlive]
  · have hch : s.lineGood.channel ch = s.channel ch := State.channel_congr _ _ ch (by simp)
    rw [exec_callClose_quiet hq, State.frameTaken_still (by rw [hst]; rfl),
      State.callClose_releasing (by rw [hch, hst]) (by rw [hch, hw])]
  · rw [exec_channelLinkLoss_takes ha hd, State.takeLoss_idle hc hl hst]
  · rw [exec_channelLinkLoss_takes ha hd, State.takeLoss_busy hc hl hst]
  · intro d ha hc hl hd u
    obtain ⟨hdecided, hloss, -, -⟩ := State.decideOn_channel hc
    have hreset : u.heldReset = s.heldReset := by simp [u]
    obtain ⟨hdown, hup⟩ := State.decideOn_behindLoss hc hl hd
    refine ⟨hloss.trans hl, hdecided, ?_, hdown, hup⟩
    rw [exec_channelLinkLoss_settles ha hl, exec_channelLinkLoss_takes (hreset.trans ha) hdecided]
    rfl
  · intro d stop ha hc hl hd u
    have hreset : u.heldReset = s.heldReset := by simp [u]
    have hsome : (s.channel ch).decision ≠ none := by simp [hd]
    refine ⟨fun hu => ?_, fun hu => ?_⟩
    · rw [exec_onward_eq ha, State.carryOn_underWay hu]
    · rw [exec_onward_eq ha, State.carryOn_ended hsome hu, exec_channelLinkLoss_takes (hreset.trans ha) hu]
  · have hlen : (s.lineGood.channel ch).loss = true := by rwa [State.channel_congr s s.lineGood ch (by simp)]
    have hgood : s.lineGood.heldReset = s.heldReset := by simp
    rw [exec_channelLinkLoss_settles (hgood.trans ha) hlen] at hexec
    cases hexec
    exact exec_frame_settled ha hc hi hw
  · have hlen : (s.lineGood.channel ch).loss = false := by rwa [State.channel_congr s s.lineGood ch (by simp)]
    have hgood : s.lineGood.heldReset = s.heldReset := by simp
    rw [exec_onward_eq (hgood.trans ha), State.carryOn_lossless (by simpa using hc) hlen] at hexec
    cases hexec
    exact exec_frame_settled ha hc hi hw
  · rw [exec_onward_eq ha] at hexec
    cases hexec
    obtain ⟨hdecided, haborts⟩ := State.carryOn_channel hc
    have hreset : (s.carryOn ch .done).heldReset = s.heldReset := by simp
    rw [exec_channelIntakeAbort_eq ha hn, exec_channelIntakeAbort_eq (hreset.trans ha) (haborts.trans hn),
      State.carryOn_none _ ch .done hdecided]
  · rw [exec_channelIntakeAbort_eq ha hn, State.carryOn_none s ch .done hd, State.takeAbort_eq hc hn]
    refine ⟨fun hst => ?_, fun hidle hrel => ?_⟩
    · rw [if_neg]
      rcases hst with h | h <;> simp [h, ChannelState.live]
    · rw [if_pos ((ChannelState.live_iff _).2 ⟨hidle, hrel⟩)]

end Sys2Proof.Machine
end

section
/-! PROOFS. An answered call, and the answer decision act by act (R33, R53 to R67). -/

namespace Sys2Proof.Machine

open Sys2Proof.Config

/-! ### What one act leaves to be made, and the acts a run has to make (R53, log 4) -/

section Run

variable {s : State} {ch : Nat}

theorem State.channel_inRange {d : Decision} (h : (s.channel ch).decision = some d) : ch < s.calls.channels.length := by
  by_contra hout
  have hinit : s.channel ch = Channel.initial := by simp [State.channel, List.getD, Nat.not_lt.1 hout]
  rw [hinit] at h
  cases h

/-- An act leaves a decision with one act fewer, or none; it keeps the number of the channels, and a loss that waits. -/
theorem State.decisionAct_channel (hc : ch < s.calls.channels.length) (d : Decision) :
    (∀ e, ((s.decisionAct ch d).channel ch).decision = some e → actsLeft e.next + 1 = actsLeft d.next)
    ∧ (s.decisionAct ch d).calls.channels.length = s.calls.channels.length
    ∧ ((s.decisionAct ch d).channel ch).loss = (s.channel ch).loss := by
  obtain ⟨e, hcalls, -, hleft⟩ | ⟨cause, hcalls, -⟩ | ⟨slot, receipt, due, hcalls, -⟩ := State.decisionAct_cases s ch d hc
  · rw [State.channel_congr _ _ ch hcalls, hcalls, State.channel_setDecision s ch _ hc]
    refine ⟨fun f hf => ?_, by simp, rfl⟩
    cases hf
    exact hleft
  · rw [State.channel_congr _ _ ch hcalls, hcalls, State.channel_setDecision s ch _ hc]
    exact ⟨fun f hf => (by cases hf), by simp, rfl⟩
  · rw [State.channel_congr _ _ ch hcalls, hcalls, State.channel_setChannel s ch _ hc]
    exact ⟨fun f hf => (by cases hf), by simp, rfl⟩

theorem State.decisionRun_stopped {d : Decision} (hd : (s.channel ch).decision = some d) (n : Nat) :
    s.decisionRun ch (.before d.next) n = s := by
  cases n with
  | zero => rfl
  | succ n => simp [State.decisionRun, hd]

theorem actsLeft_pos (a : DecisionAct) : 0 < actsLeft a := by
  cases a <;> decide

/-- A run is not cut short once it is allowed the acts that its decision has left. -/
theorem State.decisionRun_enough (stop : DecisionStop) {n : Nat}
    (hn : ∀ d, (s.channel ch).decision = some d → actsLeft d.next ≤ n) :
    s.decisionRun ch stop (n + 1) = s.decisionRun ch stop n := by
  induction n generalizing s with
  | zero =>
    cases hd : (s.channel ch).decision with
    | none => rw [State.decisionRun_none s ch stop _ hd, State.decisionRun_none s ch stop _ hd]
    | some d => exact absurd (hn d hd) (Nat.not_le.2 (actsLeft_pos d.next))
  | succ n ih =>
    cases hd : (s.channel ch).decision with
    | none => rw [State.decisionRun_none s ch stop _ hd, State.decisionRun_none s ch stop _ hd]
    | some d =>
      by_cases hs : stop = .before d.next
      · rw [hs, State.decisionRun_stopped hd, State.decisionRun_stopped hd]
      · rw [State.decisionRun_succ s ch stop _ d hd hs, State.decisionRun_succ s ch stop _ d hd hs]
        refine ih fun e he => ?_
        have hleft := (State.decisionAct_channel (State.channel_inRange hd) d).1 e he
        have := hn d hd
        omega

/-- R53, log 4: a decision carried on makes its next act, and is carried on from there. -/
theorem State.decideOn_act {stop : DecisionStop} {d : Decision} (hd : (s.channel ch).decision = some d)
    (hs : stop ≠ .before d.next) : s.decideOn ch stop = (s.decisionAct ch d).decideOn ch stop := by
  rw [State.decideOn, State.decisionRun_succ s ch stop 7 d hd hs]
  refine (State.decisionRun_enough stop fun e he => ?_).symm
  have hleft := (State.decisionAct_channel (State.channel_inRange hd) d).1 e he
  have hmost : actsLeft d.next ≤ 8 := by cases d.next <;> decide
  omega

theorem State.decisionRun_loss (stop : DecisionStop) (n : Nat) :
    ((s.decisionRun ch stop n).channel ch).loss = (s.channel ch).loss := by
  induction n generalizing s with
  | zero => rfl
  | succ n ih =>
    cases hd : (s.channel ch).decision with
    | none => rw [State.decisionRun_none s ch stop _ hd]
    | some d =>
      by_cases hs : stop = .before d.next
      · rw [hs, State.decisionRun_stopped hd]
      · rw [State.decisionRun_succ s ch stop _ d hd hs, ih]
        exact (State.decisionAct_channel (State.channel_inRange hd) d).2.2

/-- R50: with no loss that waits, a decision carried on is that and nothing more. -/
theorem State.carryOn_eq {stop : DecisionStop} (hl : (s.channel ch).loss = false) :
    s.carryOn ch stop = s.decideOn ch stop := by
  have hnone : (s.decideOn ch stop).takeLoss ch = s.decideOn ch stop :=
    State.takeLoss_none _ ch ((State.decisionRun_loss stop 8).trans hl)
  simp only [State.carryOn, hnone, ite_self]

end Run

/-! ### The refusal and the answer as the statement writes them -/

/-- R33, R67: an answered call, whose ANSWER is sent. -/
theorem State.answerCall_sent {s : State} {ch : Nat} (hc : ch < s.calls.channels.length) (hl : s.line.link = .up)
    (hloss : (s.channel ch).loss = false) (slot receipt : Nat) (d : Decision) (p : Placement) :
    s.answerCall ch slot receipt d p = { s with
      docs := { slots := tablePut slot (.inUse (createdDoc ch receipt d p)) s.docs.slots, counter := nextNumber receipt }
      calls := { s.calls with channels := s.calls.channels.set ch { s.channel ch with
        state := .answered, doc := some slot, resends := 0, decision := none, silence := some s.silenceDue } }
      line := { s.line with queue := s.line.queue ++ [⟨ch, .answer receipt⟩] } } := by
  rw [State.answerCall, State.sendLine_sent]
  · rfl
  · exact State.lineDiscards_up hl (.inl ((congrArg Channel.loss (State.channel_setChannel _ ch _ hc)).trans hloss))

theorem State.decideOn_held {g : State} {ch : Nat} (hc : ch < g.calls.channels.length) (d : Decision) :
    (g.setDecision ch (some d)).decideOn ch .done = ((g.setDecision ch (some d)).decisionAct ch d).decideOn ch .done :=
  State.decideOn_act (by rw [State.channel_setDecision g ch _ hc]) (by simp)

/-- R67: the answering step of a call that nothing refuses. -/
theorem State.decisionAct_answers {s : State} {ch slot receipt : Nat} {d : Decision} {p : Placement}
    (hn : d.next = .answer) (hclaim : d.claim = some slot) (hp : d.placement = some p) (hin : s.mgmt.intake = .opened)
    (hlevel : s.pressure.level ≠ .critical) (hcount : s.docs.counter = some receipt) :
    s.decisionAct ch d = s.answerCall ch slot receipt d p := by
  simp only [State.decisionAct, hn, hclaim, hp, State.answeringStep, hin, if_neg hlevel, hcount]

/-- R33, R67: the call answered, the decision has ended. -/
theorem State.decideOn_answered {s : State} {ch : Nat} (hc : ch < s.calls.channels.length) (slot receipt : Nat)
    (d : Decision) (p : Placement) (stop : DecisionStop) :
    (s.answerCall ch slot receipt d p).decideOn ch stop = s.answerCall ch slot receipt d p := by
  refine State.decideOn_none _ ch stop ?_
  rw [State.answerCall, State.channel_sendLine]
  exact congrArg Channel.decision (State.channel_setChannel _ ch _ hc)

/-- R88: whether a reservation is granted. -/
theorem Journal.roomy_iff (j : Journal) : j.roomy = true ↔ j.log.length + j.reserved < 2048 :=
  decide_eq_true_iff

/-- R13: a slot claimed by a channel. -/
def State.slotClaimed (s : State) (ch slot : Nat) : State :=
  { s with docs := { s.docs with slots := tablePut slot (.claimed ch) s.docs.slots } }

theorem State.claimSlot_eq {s : State} {slot : Nat} (h : lowestFree 1024 0 s.docs.slots = some slot) (ch : Nat) :
    s.claimSlot ch = some (slot, s.slotClaimed ch slot) := by
  simp only [State.claimSlot, slotCount, h, State.slotClaimed]

/-- R33, R53 to R67: the acts of a CALL_OPEN that passes every check, up to the answering step. -/
theorem State.decideOn_toAnswer {g : State} {ch slot receipt : Nat} {called : Str} {caller : Option Str} {p : Placement}
    (now : TimeOfDay) (hc : ch < g.calls.channels.length) (hen : (g.channel ch).enabled = true)
    (hin : g.mgmt.intake = .opened) (hroom : g.journal.roomy = true) (hlevel : g.pressure.level ≠ .critical)
    (hslot : lowestFree 1024 0 g.docs.slots = some slot) (hplaced : g.resolve called caller = .placed p)
    (hcount : g.docs.counter = some receipt) :
    (g.setDecision ch (some (Decision.start called caller now))).decideOn ch .done =
      ((g.reserve.slotClaimed ch slot).setDecision ch
        (some ⟨called, caller, now, .answer, true, some slot, some p⟩)).answerCall ch slot receipt
          ⟨called, caller, now, .answer, true, some slot, some p⟩ p := by
  have hlen : ch < g.reserve.calls.channels.length := by simpa using hc
  have hheld : ch < (g.reserve.slotClaimed ch slot).calls.channels.length := hlen
  have hfree : lowestFree 1024 0 g.reserve.docs.slots = some slot := by simpa using hslot
  have hin' : (g.reserve.slotClaimed ch slot).mgmt.intake = .opened := by simpa [State.slotClaimed] using hin
  have hlevel' : (g.reserve.slotClaimed ch slot).pressure.level ≠ .critical := by simpa [State.slotClaimed] using hlevel
  have hcount' : (g.reserve.slotClaimed ch slot).docs.counter = some receipt := by simpa [State.slotClaimed] using hcount
  have hres : (g.reserve.slotClaimed ch slot).resolve called caller = .placed p :=
    (State.resolve_congr _ g called caller (by simp [State.slotClaimed]) (by simp [State.slotClaimed])
      (by simp [State.slotClaimed])).trans hplaced
  have hclaims := fun d hn => State.act_claim g.reserve ch slot d hlen hn hfree
  change ∀ d, _ → _ = (g.reserve.slotClaimed ch slot).setDecision ch _ at hclaims
  have hanswers : ∀ d : Decision, d.next = .answer → d.claim = some slot → d.placement = some p →
      ((g.reserve.slotClaimed ch slot).setDecision ch (some d)).decisionAct ch d
        = ((g.reserve.slotClaimed ch slot).setDecision ch (some d)).answerCall ch slot receipt d p :=
    fun d hn hclaim hp => State.decisionAct_answers hn hclaim hp hin' hlevel' hcount'
  rw [Decision.start, State.decideOn_held hc, State.act_enabled g ch _ hc rfl hen, State.decideOn_held hc,
    State.act_intake g ch _ hc rfl hin, State.decideOn_held hc, State.act_numbers g ch _ hc rfl (by simp [hcount]),
    State.decideOn_held hc, State.act_reserve g ch _ hc rfl hroom, State.decideOn_held hlen,
    State.act_pressure g.reserve ch _ hlen rfl (by simpa using hlevel), State.decideOn_held hlen,
    hclaims _ rfl, State.decideOn_held hheld, State.act_resolve _ ch _ p hheld rfl hres, State.decideOn_held hheld,
    hanswers _ rfl rfl rfl, State.decideOn_answered (by simpa using hheld)]

/-! ### The refusal of a decision (R33, R54, R66) -/

/-- R66: what a refusal leaves of the claim and of the reservation. -/
def State.refused (x : State) (ch : Nat) (d : Decision) (cause : Cause) (gen : Option Nat) (res : ScreenResult) : State :=
  let a : State := match d.claim with
    | none => x
    | some slot => { x with docs := { x.docs with slots := tableDel slot x.docs.slots } }
  let b : State := if d.reserved = true then a.writeEntry
      { receipt := none, channel := ch, openTime := d.openTime, closeTime := x.mgmt.tod, called := d.called,
        caller := d.caller, station := none, outcome := .refused, cause := cause, pages := 0, damaged := 0,
        mailbox := none, routeGen := gen, screening := res }
    else a
  ((b.setChannel ch { b.channel ch with decision := none }).sendLine ch (.refuse cause)).raise
    .callController (.callRefused ch d.called cause)

theorem State.refuse_eq_refused (x : State) (ch : Nat) (d : Decision) (cause : Cause) (gen : Option Nat)
    (res : ScreenResult) : x.refuse ch d cause gen res = x.refused ch d cause gen res := by
  cases hclaim : d.claim with
  | none => simp only [State.refuse, State.refused, hclaim, State.dropClaim]; rfl
  | some slot => simp only [State.refuse, State.refused, hclaim, State.dropClaim]; rfl

/-- R33: a CALL_OPEN in IDLE starts the decision. -/
theorem exec_callOpen_idle {s : State} {ch : Nat} {called : Str} {caller : Option Str} {stop : DecisionStop}
    (hq : s.quiet ch) (hst : (s.channel ch).state = .idle)
    (hok : callOpenOk ch (.frame called caller stop) = true) :
    exec (.callOpen ch (.frame called caller stop)) s
      = .next ((s.lineGood.setDecision ch (some (Decision.start called caller s.mgmt.tod))).decideOn ch stop) := by
  have hch : s.lineGood.channel ch = s.channel ch := State.channel_congr _ _ ch (by simp)
  have hidle : (s.lineGood.channel ch).state = .idle := by rw [hch, hst]
  have htod : s.lineGood.mgmt.tod = s.mgmt.tod := by simp
  rw [exec_callOpen_quiet hq hok, State.frameTaken_still (by rw [hst]; rfl), State.callOpen, if_pos hidle, htod]

/-- R33, R67: a CALL_OPEN that passes every check, run through its acts to the answer. -/
theorem exec_callOpen_answered {s : State} {ch slot receipt : Nat} {called : Str} {caller : Option Str} {p : Placement}
    (had : s.admitted ch) (hok : callOpenOk ch (.frame called caller .done) = true)
    (hlevel : s.pressure.level ≠ .critical) (hslot : lowestFree 1024 0 s.docs.slots = some slot)
    (hplaced : s.resolve called caller = .placed p) (hcount : s.docs.counter = some receipt) :
    exec (.callOpen ch (.frame called caller .done)) s = .next { s.lineGood.reserve with
      docs := {
        slots := tablePut slot (.inUse (createdDoc ch receipt
          ⟨called, caller, s.mgmt.tod, .answer, true, some slot, some p⟩ p)) s.docs.slots
        counter := nextNumber receipt }
      calls := { s.calls with channels := s.calls.channels.set ch { s.channel ch with
        state := .answered, doc := some slot, resends := 0, silence := some s.silenceDue } }
      line := { s.lineGood.reserve.line with queue := s.lineGood.reserve.line.queue ++ [⟨ch, .answer receipt⟩] } } := by
  obtain ⟨hq, hst, hen, hin, -, hroom⟩ := had
  obtain ⟨-, -, -, hdec, hloss⟩ := id hq
  have hc : ch < s.lineGood.calls.channels.length := by simpa using hq.inRange
  have hch : s.lineGood.channel ch = s.channel ch := State.channel_congr _ _ ch (by simp)
  have hroomy : s.lineGood.journal.roomy = true := (Journal.roomy_iff _).2 (by simpa using hroom)
  have hres : s.lineGood.resolve called caller = .placed p :=
    (State.resolve_congr _ s called caller (by simp) (by simp) (by simp)).trans hplaced
  rw [exec_callOpen_idle hq hst hok, State.decideOn_toAnswer s.mgmt.tod hc (by rwa [hch]) (by simpa using hin) hroomy
    (by simpa using hlevel) (by simpa using hslot) hres (by simpa using hcount)]
  generalize hd : (⟨called, caller, s.mgmt.tod, .answer, true, some slot, some p⟩ : Decision) = d
  have hlen : ch < (s.lineGood.reserve.slotClaimed ch slot).calls.channels.length := by simpa [State.slotClaimed] using hc
  have hheld : ((s.lineGood.reserve.slotClaimed ch slot).setDecision ch (some d)).channel ch
      = { s.channel ch with decision := some d } := by
    rw [State.channel_setDecision _ ch _ hlen, State.channel_congr s _ ch (by simp [State.slotClaimed])]
  have hup : ((s.lineGood.reserve.slotClaimed ch slot).setDecision ch (some d)).line.link = .up := by
    simp [State.slotClaimed, s.lineGood_line.1]
  rw [State.answerCall_sent (by simpa using hlen) hup (by rw [hheld]; exact hloss), hheld]
  simp [State.slotClaimed, State.setDecision, tablePut_tablePut, State.silenceDue, State.after, hdec]

/-! ### The acts of a decision (R53 to R58, R67) -/

section Acts

variable {s : State} {d : Decision} {ch : Nat}

theorem State.decisionAct_enabled (h : d.next = .enabled) : s.decisionAct ch d =
    if (s.channel ch).enabled = true then s.setDecision ch (some { d with next := .intake })
    else s.refuse ch d .channelDisabled none .none := by
  simp only [State.decisionAct, h]

theorem State.decisionAct_numbers (h : d.next = .numbers) : s.decisionAct ch d =
    if s.docs.counter.isSome = true then s.setDecision ch (some { d with next := .reserve })
    else s.refuse ch d .numbersExhausted none .none := by
  simp only [State.decisionAct, h]

theorem State.decisionAct_reserve (h : d.next = .reserve) : s.decisionAct ch d =
    if s.journal.roomy = true then s.reserve.setDecision ch (some { d with next := .pressure, reserved := true })
    else s.countUnrecorded.refuse ch d .journalFull none .none := by
  simp only [State.decisionAct, h]

theorem State.decisionAct_pressure (h : d.next = .pressure) : s.decisionAct ch d =
    if s.pressure.level = .critical then s.refuse ch d .storeCritical none .none
    else s.setDecision ch (some { d with next := .claim }) := by
  simp only [State.decisionAct, h]

end Acts

/-- Settles O15: an answered call by exec_callOpen_answered; a decision carried on by State.carryOn_eq and
State.decideOn_act; each act by the branches of decisionAct. -/
theorem callAnswered : Obligations.CallAnswered := by
  refine ⟨fun s ch called caller slot receipt p had hok hlevel hslot hplaced hcount =>
      exec_callOpen_answered had hok hlevel hslot hplaced hcount,
    fun s ch called caller stop hq hst hok => ?_, fun s ch stop ha => ⟨fun hd => ?_, fun hl => ?_⟩,
    fun s ch stop => ⟨State.decideOn_none s ch stop, fun d hd hs => ?_, fun d => State.decideOn_act⟩, ?_⟩
  · exact exec_callOpen_idle hq hst hok
  · rw [exec_onward_eq ha, State.carryOn_none s ch stop hd]
  · rw [exec_onward_eq ha, State.carryOn_eq hl]
  · rw [hs, State.decideOn, State.decisionRun_stopped hd]
  · intro s ch d set refused act
    have hno : ∀ (x : State) cause gen res, x.refuse ch d cause gen res = refused x cause gen res := fun x cause gen res =>
      State.refuse_eq_refused x ch d cause gen res
    refine ⟨fun hn => ⟨fun h => ?_, fun h => ?_⟩, fun hn => ⟨fun h => ?_, fun h => ?_, fun h => ?_⟩,
      fun hn => ⟨fun h => ?_, fun h => ?_⟩, fun hn => ⟨fun h => ?_, fun h => ?_⟩, fun hn => ⟨fun h => ?_, fun h => ?_⟩,
      fun hn => ⟨fun slot h => ?_, fun h => ?_⟩, fun hn => ⟨fun p h => ?_, fun cause gen res h => ?_⟩,
      fun slot p hn hclaim hp => ?_⟩
    · exact (State.decisionAct_enabled hn).trans (if_pos h)
    · exact ((State.decisionAct_enabled hn).trans (if_neg (by simp [h]))).trans (hno ..)
    · simp only [act, State.decisionAct, hn, h]; rfl
    · simp only [act, State.decisionAct, hn, h, hno]
    · simp only [act, State.decisionAct, hn, h, hno]
    · exact (State.decisionAct_numbers hn).trans (if_pos (Option.isSome_iff_ne_none.2 h))
    · exact ((State.decisionAct_numbers hn).trans (if_neg (by simp [h]))).trans (hno ..)
    · exact (State.decisionAct_reserve hn).trans (if_pos ((Journal.roomy_iff _).2 h))
    · exact ((State.decisionAct_reserve hn).trans (if_neg (mt (Journal.roomy_iff _).1 (Nat.not_lt.2 h)))).trans (hno ..)
    · exact (State.decisionAct_pressure hn).trans (if_neg h)
    · exact ((State.decisionAct_pressure hn).trans (if_pos h)).trans (hno ..)
    · simp only [act, State.decisionAct, hn, State.claimSlot_eq h]; rfl
    · simp only [act, State.decisionAct, hn, State.claimSlot, slotCount, h, hno]
    · simp only [act, State.decisionAct, hn, h]; rfl
    · simp only [act, State.decisionAct, hn, h, hno]
    · have hact : act = s.answeringStep ch slot d p := by simp only [act, State.decisionAct, hn, hclaim, hp]
      refine ⟨fun h => ?_, fun h => ?_, fun h hl => ?_, fun h hl hc => ?_, fun receipt h hl hc => ?_⟩
      · simp only [hact, State.answeringStep, h, hno]
      · simp only [hact, State.answeringStep, h, hno]
      · simp only [hact, State.answeringStep, h, hl, if_true, hno]
      · simp only [hact, State.answeringStep, h, if_neg hl, hc, hno]
      · simp only [hact, State.answeringStep, h, if_neg hl, hc]
        rfl

end Sys2Proof.Machine
end

section
/-! PROOFS. The parts that the owners take: timeouts, counts, idle reports and the low mark of the journal (R28, R49,
R88, R89, R95, R96, R180, R183, R189). -/

namespace Sys2Proof.Machine

open Sys2Proof.Config

/-! ### The low mark (R95, R96) -/

/-- R95: JOURNAL_LOW stays silent at or below free entries, and while it is not armed. -/
theorem State.lowTest_silent {s : State} (h : s.journal.lowMark ≤ s.journal.free ∨ s.journal.lowArmed = false) :
    s.lowTest = s := by
  have hoff : (decide (s.journal.free < s.journal.lowMark) && s.journal.lowArmed) = false := by
    rcases h with h | h <;> simp [h]
  simp only [State.lowTest, hoff, Bool.false_eq_true, if_false]

theorem State.lowTest_raises {s : State} (hfree : s.journal.free < s.journal.lowMark)
    (harmed : s.journal.lowArmed = true) :
    s.lowTest = ({ s with journal := { s.journal with lowArmed := false } } : State).raise .journal
      (.journalLow s.journal.free s.journal.lowMark s.journal.log.length s.journal.reserved) := by
  have hon : (decide (s.journal.free < s.journal.lowMark) && s.journal.lowArmed) = true := by simp [hfree, harmed]
  simp only [State.lowTest, hon, if_true]

theorem State.installLowMark_above {s : State} {mark : Nat} (h : mark ≤ s.journal.free) :
    s.installLowMark mark = { s with journal := { s.journal with lowMark := mark, lowArmed := true } } :=
  if_pos h

/-- R96: a mark above free entries is installed and tested. -/
theorem State.installLowMark_below {s : State} {mark : Nat} (h : s.journal.free < mark) :
    s.installLowMark mark = ({ s with journal := { s.journal with lowMark := mark } } : State).lowTest :=
  if_neg (Nat.not_le.2 h)

theorem exec_lowMarkInstall_eq {s : State} {mark : Nat} {rest : List Nat} (ha : s.awake)
    (hm : s.waiting.lowMarks = mark :: rest) :
    exec .lowMarkInstall s
      = .next (({ s with waiting := { s.waiting with lowMarks := rest } } : State).installLowMark mark) := by
  change execLowMarkInstall s = _
  rw [execLowMarkInstall, act_awake _ s ha, hm]

/-! ### Timeouts, counts and idle reports (R49, R180, R189) -/

theorem eraseFirst_eq_erase {α : Type} [DecidableEq α] (a : α) (l : List α) : eraseFirst a l = l.erase a := by
  induction l with
  | nil => rfl
  | cons b t ih =>
    by_cases h : b = a
    · simp [eraseFirst, h]
    · simp [eraseFirst, h, ih]

theorem exec_silenceTimeoutInstall_eq {s : State} {t : Nat} {rest : List Nat} (ha : s.awake)
    (hs : s.waiting.silences = t :: rest) :
    exec .silenceTimeoutInstall s = .next { s with
      waiting := { s.waiting with silences := rest }, calls := { s.calls with silenceTimeout := t } } := by
  change execSilenceTimeoutInstall s = _
  rw [execSilenceTimeoutInstall, act_awake _ s ha, hs]

theorem exec_countClear_eq {s : State} {name : CountName} (ha : s.awake) (hn : name ∈ s.waiting.clears) :
    exec (.countClear name) s = .next (({ s with
      waiting := { s.waiting with clears := s.waiting.clears.erase name } } : State).clearCount name) := by
  change execCountClear name s = _
  rw [execCountClear, act_awake _ s ha, if_pos (List.contains_iff_mem.2 hn), eraseFirst_eq_erase]

/-- R180: a report that all channels are idle ends DRAINING. -/
theorem exec_allIdleReport_eq {s : State} {n : Nat} (ha : s.awake) (hn : s.waiting.idleReports = n + 1) :
    exec .allIdleReport s = .next (if s.mgmt.intake = .draining
      then ({ s with waiting := { s.waiting with idleReports := n } } : State).setIntake .closed
      else { s with waiting := { s.waiting with idleReports := n } }) := by
  change execAllIdleReport s = _
  rw [execAllIdleReport, act_awake _ s ha, hn, if_neg (Nat.succ_ne_zero n)]
  rfl

theorem State.setIntake_closed {s : State} (h : s.mgmt.intake = .draining) :
    s.setIntake .closed = ({ s with mgmt := { s.mgmt with intake := .closed } } : State).raise .management
      (.intakeChanged .draining .closed) := by
  simp [State.setIntake, h]

/-- Settles O29: each owner's equation above; the low mark and the reservation by the two cases of lowTest. -/
theorem ownersTakeTheirParts : Obligations.OwnersTakeTheirParts := by
  refine ⟨fun s ha => ⟨fun t rest => exec_silenceTimeoutInstall_eq ha, ?_, ?_⟩, ?_, ?_⟩
  · intro name hn u
    rw [exec_countClear_eq ha hn]
    cases name <;> rfl
  · intro n hn u
    refine ⟨fun h => ?_, fun h => ?_⟩
    · have hdraining : u.mgmt.intake = .draining := h
      rw [exec_allIdleReport_eq ha hn, if_pos h, State.setIntake_closed hdraining]
      rfl
    · rw [exec_allIdleReport_eq ha hn, if_neg h]
  · intro s mark rest ha hm j free u run
    let v : State := { s with waiting := { s.waiting with lowMarks := rest } }
    have hrun : run = .next (v.installLowMark mark) := exec_lowMarkInstall_eq ha hm
    refine ⟨fun h => ?_, fun h harmed => ?_, fun h harmed => ?_⟩
    · exact hrun.trans (congrArg _ (State.installLowMark_above (s := v) h))
    · rw [hrun, State.installLowMark_below (s := v) h]
      exact congrArg _ (State.lowTest_silent (s := u) (.inr harmed))
    · rw [hrun, State.installLowMark_below (s := v) h]
      exact congrArg _ (State.lowTest_raises (s := u) h harmed)
  · intro s n free
    let u : State := { s with journal := { s.journal with reserved := n } }
    exact ⟨fun h => State.lowTest_silent (s := u) h, fun hfree harmed => State.lowTest_raises (s := u) hfree harmed⟩

end Sys2Proof.Machine
end

section
/-! PROOFS. CHANNEL_CONTROL and POINT_READ, their images and the bytes of the images (R52, R141, section 11.1). -/

namespace Sys2Proof.Machine

open Sys2Proof.Config

/-! ### CHANNEL_CONTROL (R52) -/

theorem State.calls_taking (s : State) (src : Nat) : (s.taking src).calls = s.calls := by
  simp [State.taking, State.noteTaken]

theorem channelOk_iff (ch : Nat) : channelOk ch = true ↔ ch < 24 := decide_eq_true_iff

section ChannelControl

variable {s : State} {h : ReqHead} {ch : Nat}

theorem State.channelControl_unknown (ht : s.requestTaken h) (hch : 24 ≤ ch) (f : Channel → Channel) :
    s.channelControl h ch f = (s.taking h.src).reply h .channelControl .badArgument .none := by
  have hno : ¬ channelOk ch = true := mt (channelOk_iff ch).1 (Nat.not_lt.2 hch)
  rw [State.channelControl, State.request_taken s h _ _ ht, if_neg hno]

theorem State.channelControl_known (ht : s.requestTaken h) (hch : ch < 24) (f : Channel → Channel) :
    s.channelControl h ch f =
      ((s.taking h.src).setChannel ch (f ((s.taking h.src).channel ch))).reply h .channelControl .ok
        (.channel (((s.taking h.src).setChannel ch (f ((s.taking h.src).channel ch))).channelImage ch)) := by
  have hok : channelOk ch = true := (channelOk_iff ch).2 hch
  rw [State.channelControl, State.request_taken s h _ _ ht, if_pos hok]

/-- R52: the image of a channel with what its record shows of its document. -/
def Channel.image (c : Channel) (d : Option Doc) : ChannelImage :=
  { state := c.state, enabled := c.enabled, receipt := d.map Doc.receipt, expected := d.map (fun d => d.pages.length + 1)
    resends := c.resends, received := if c.page = none then 0 else c.received
    mark := if c.page = none then false else c.mark, discards := c.discards.length
    drop := if c.state = .releasing then c.drop else none, errors := c.errors }

theorem State.channelImage_eq (s : State) (ch : Nat) :
    s.channelImage ch = Channel.image (s.channel ch) ((s.channel ch).doc.bind s.doc) := by
  cases hp : (s.channel ch).page <;> simp [State.channelImage, State.expectedPage, Channel.image, hp]

/-- R52: the reply to an action on a channel shows the channel as it stands after it. -/
theorem State.channelControl_image (ht : s.requestTaken h) (hch : ch < 24) (hc : ch < s.calls.channels.length)
    (f : Channel → Channel) (hdoc : ∀ c : Channel, (f c).doc = c.doc) :
    s.channelControl h ch f =
      ((s.taking h.src).setChannel ch (f ((s.taking h.src).channel ch))).reply h .channelControl .ok (.channel
        (Channel.image (f ((s.taking h.src).channel ch))
          (((s.taking h.src).channel ch).doc.bind (s.taking h.src).doc))) := by
  have hlen : ch < (s.taking h.src).calls.channels.length := by rwa [State.calls_taking]
  have hset : ∀ x : Channel, ((s.taking h.src).setChannel ch x).doc = (s.taking h.src).doc := fun x =>
    funext (State.doc_congr rfl)
  rw [State.channelControl_known ht hch, State.channelImage_eq, State.channel_setChannel _ _ _ hlen, hset, hdoc]

end ChannelControl

/-! ### POINT_READ (R141) -/

theorem State.laneImage_eq (s : State) (i : Nat) :
    s.laneImage i = { state := (s.lane i).state, receipt := ((s.laneDoc i).map (fun e => e.2.receipt)).getD 0
                      buffers := [(s.lane i).buf0, (s.lane i).buf1].filterMap PageBuf.sent
                      ackThrough := ((s.laneDoc i).map (fun e => e.2.ackThrough)).getD 0 } := by
  simp [State.laneImage, List.filterMap_cons]

theorem exec_pointRead_eq {s : State} {h : ReqHead} (ht : s.requestTaken h) (p clear : Nat) :
    exec (.pointRead h p clear) s = .next (if (pointOk p && decide (clear ≤ 1)) = true
      then ((s.taking h.src).clearPoint p clear).reply h .pointRead .ok (.point ((s.taking h.src).pointImage p))
      else (s.taking h.src).reply h .pointRead .badArgument .none) := by
  change execPointRead h p clear s = _
  rw [execPointRead, act_awake _ s ht.1, State.request_taken s h _ _ ht]

theorem pointReadOk_iff (p clear : Nat) :
    (pointOk p && decide (clear ≤ 1)) = true ↔ 1 ≤ p ∧ p ≤ 30 ∧ clear ≤ 1 := by
  simp only [pointOk, within, Bool.and_eq_true, decide_eq_true_iff, and_assoc]
  rfl

/-! ### The bytes of the two images (sections 11.1 and 11.5) -/

theorem laneFields_none : laneFields none = [0, 0, 0, 0, 0, 0, 0, 0] := rfl

theorem laneFields_some (l : LaneImage) : laneFields (some l) = be 1 (laneStateCode l.state) ++ be 4 l.receipt
    ++ be 1 l.buffers.length ++ l.buffers.flatMap (fun b => be 2 b.1 ++ be 1 b.2) ++ be 2 l.ackThrough := by
  simp only [laneFields, listBytes, List.append_assoc]

/-- The row fields of the point image: zeros where the point has no row. -/
def pointRowFields (o : Option PointRow) : List Byte :=
  match o with
  | none => [0, 0, 0, 0, 0]
  | some r => flagByte r.manage ++ be 1 r.accept ++ be 1 r.ack ++ be 1 r.wait ++ be 1 r.maxSlots

/-- R141: the bytes of the point image in one run. -/
theorem pointBytes_flat (p : PointImage) :
    pointBytes p = be 1 p.point ++ flagByte p.row.isSome ++ pointRowFields p.row ++ be 1 (pointStateCode p.state)
      ++ be 1 p.intake.length ++ p.intake.flatMap slotBytes ++ be 1 (p.lane.getD 255) ++ laneFields p.laneImage
      ++ be 1 p.failures ++ be 2 p.errors ++ be 1 p.unsent := by
  cases hrow : p.row with
  | none => simp only [pointBytes, hrow, pointRowFields, List.replicate, listBytes, List.append_assoc]
  | some r => simp only [pointBytes, hrow, pointRowFields, listBytes, List.append_assoc]

/-- Settles O50: the known and the unknown channel and point by the equations above; the bytes by the row and the
serving lane that a point image has or lacks. -/
theorem channelAndPointRequests : Obligations.ChannelAndPointRequests := by
  refine ⟨fun s h ht => ⟨?_, ?_⟩, fun c => rfl, fun p => ?_⟩
  · intro ch c d image done bad
    have hexec : ∀ f, act (fun s => s.channelControl h ch f) s = .next (s.channelControl h ch f) := fun f => act_awake _ s ht.1
    refine ⟨fun hch => ?_, fun hch hc => ?_⟩
    · have hbad : ∀ f, act (fun s => s.channelControl h ch f) s = bad := fun f => by
        rw [hexec, State.channelControl_unknown ht hch]
      exact ⟨hbad _, hbad _, hbad _, hbad _⟩
    · have hdone : ∀ f : Channel → Channel, (∀ c, (f c).doc = c.doc) →
          act (fun s => s.channelControl h ch f) s = done (f c) (Channel.image (f c) d) := fun f hf => by
        rw [hexec, State.channelControl_image ht hch hc f hf]
      exact ⟨hdone _ fun _ => rfl, hdone _ fun _ => rfl, hdone _ fun _ => rfl, hdone _ fun _ => rfl⟩
  · intro p clear x image
    have himage : (s.taking h.src).pointImage p = image := by
      simp only [State.pointImage, image, funext (State.laneImage_eq (s.taking h.src))]
      rfl
    refine ⟨fun hbad => ?_, fun h1 h30 hclear => ?_, fun h1 h30 hclear => ?_⟩
    · rw [exec_pointRead_eq ht, if_neg]
      rw [pointReadOk_iff]
      omega
    · rw [exec_pointRead_eq ht, if_pos ((pointReadOk_iff p clear).2 ⟨h1, h30, by omega⟩), himage, hclear]
      rfl
    · rw [exec_pointRead_eq ht, if_pos ((pointReadOk_iff p clear).2 ⟨h1, h30, by omega⟩), himage, hclear]
      rfl
  · change pointBytes p = _
    rw [pointBytes_flat]
    cases p.row with
    | none => cases p.laneImage with
      | none => rfl
      | some l => rw [laneFields_some]; rfl
    | some r => cases p.laneImage with
      | none => rfl
      | some l => rw [laneFields_some]; rfl

end Sys2Proof.Machine
end

section
/-! PROOFS. The two screenings and the routing as searches (R59, R61, R69). -/

namespace Sys2Proof.Machine

/-! ### The longest leading key (R59, R61) -/

theorem leads_iff (stem s : Str) : leads stem s = true ↔ stem <+: s := by
  induction stem generalizing s with
  | nil => simp [leads]
  | cons a t ih =>
    cases s with
    | nil => simp [leads]
    | cons b u => simp [leads, ih, List.cons_prefix_cons]

/-- The search is the library's first maximum, by the length of the key, among the entries whose key leads. -/
theorem bestLead_eq_argmax {α : Type} (key : α → Str) (s : Str) (l : List α) :
    bestLead key s l = (l.filter (fun e => leads (key e) s)).argmax (fun e => (key e).length) := by
  have hstep : longer key = List.argAux (fun b c => (key c).length < (key b).length) := by
    funext best e
    cases best <;> rfl
  rw [bestLead, hstep, List.argmax]

theorem bestLead_wins {α : Type} {key : α → Str} {s : Str} {l : List α} {e : α} (h : bestLead key s l = some e) :
    e ∈ l ∧ key e <+: s ∧ ∀ x ∈ l, key x <+: s → (key x).length ≤ (key e).length := by
  rw [bestLead_eq_argmax] at h
  obtain ⟨hmem, hleads⟩ := List.mem_filter.1 (List.argmax_mem h)
  exact ⟨hmem, (leads_iff _ s).1 hleads,
    fun x hx hk => List.le_of_mem_argmax (f := fun e => (key e).length)
      (List.mem_filter.2 ⟨hx, (leads_iff _ s).2 hk⟩) h⟩

theorem bestLead_none_iff {α : Type} (key : α → Str) (s : Str) (l : List α) :
    bestLead key s l = none ↔ ∀ x ∈ l, ¬ key x <+: s := by
  simp [bestLead_eq_argmax, List.argmax_eq_none, List.filter_eq_nil_iff, leads_iff]

/-! ### Strings without their trailing spaces (R69) -/

theorem trim_eq_rdropWhile (s : Str) : trim s = s.rdropWhile (fun c => c == 32) := rfl

theorem eq_trim_append_spaces (s : Str) : ∃ n, s = trim s ++ List.replicate n 32 := by
  have hspaces : s.rtakeWhile (fun c => c == 32) = List.replicate (s.rtakeWhile (fun c => c == 32)).length 32 :=
    List.eq_replicate_length.2 fun c hc => by simpa using List.mem_rtakeWhile_imp hc
  exact ⟨_, by rw [← hspaces, trim_eq_rdropWhile, List.rdropWhile_append_rtakeWhile]⟩

theorem getLast?_trim_ne_space (s : Str) : (trim s).getLast? ≠ some 32 := by
  intro h
  obtain ⟨hne, hlast⟩ := List.mem_getLast?_eq_getLast h
  exact List.rdropWhile_last_not (fun c => c == 32) s hne (beq_iff_eq.2 hlast.symm)

/-! ### The two screenings (R59, R69) -/

theorem callerMatch_wins {l : List ScreenEntry} {caller : Str} {e : ScreenEntry}
    (h : callerMatch l (some caller) = some e) :
    e ∈ l ∧ e.kind = .caller ∧ e.str <+: caller
      ∧ ∀ x ∈ l, x.kind = .caller → x.str <+: caller → x.str.length ≤ e.str.length := by
  obtain ⟨hmem, hleads, hlongest⟩ := bestLead_wins h
  obtain ⟨hl, hkind⟩ := List.mem_filter.1 hmem
  exact ⟨hl, eq_of_beq hkind, hleads, fun x hx hk => hlongest x (List.mem_filter.2 ⟨hx, beq_iff_eq.2 hk⟩)⟩

theorem callerMatch_none_iff (l : List ScreenEntry) (caller : Str) :
    callerMatch l (some caller) = none ↔ ∀ x ∈ l, x.kind = .caller → ¬ x.str <+: caller := by
  simp [callerMatch, bestLead_none_iff]

theorem stationMatch_matches {l : List ScreenEntry} {id : Str} {e : ScreenEntry} (h : stationMatch l id = some e) :
    e ∈ l ∧ e.kind = .station ∧ trim e.str = trim id := by
  have hfits := List.find?_some h
  simp only [Bool.and_eq_true, beq_iff_eq] at hfits
  exact ⟨List.mem_of_find?_eq_some h, hfits⟩

theorem stationMatch_none_iff (l : List ScreenEntry) (id : Str) :
    stationMatch l id = none ↔ ∀ x ∈ l, x.kind = .station → trim x.str ≠ trim id := by
  simp [stationMatch]

/-- Settles O12: routing and caller screening as one search for the longest leading key, station screening as the
first exact match. -/
theorem matchingFindsTheWinner : Obligations.MatchingFindsTheWinner :=
  ⟨⟨fun l called => ⟨fun _ => bestLead_wins, bestLead_none_iff RouteEntry.stem called l⟩,
      fun l caller => ⟨fun _ => callerMatch_wins, callerMatch_none_iff l caller⟩, fun _ => rfl⟩,
    fun l id => ⟨fun _ => stationMatch_matches, stationMatch_none_iff l id, fun s =>
      (eq_trim_append_spaces s).imp fun _ h => ⟨h, getLast?_trim_ne_space s⟩⟩⟩

end Sys2Proof.Machine
end

section
/-! PROOFS. The resolution of a call, and the mailbox that takes it (R58 to R64). -/

namespace Sys2Proof.Machine

open Sys2Proof.Config

/-! ### The mailbox that takes a call (R63, R64) -/

section Place

variable {s : State} {m : Nat}

theorem State.takes_quarantine (s : State) : s.takes 64 = true := if_pos rfl

theorem State.takes_department (h : m ≠ 64) : s.takes m = true ↔
    ∃ row, s.mailRow m = some row ∧ (s.box m).accepting = true ∧ (s.box m).held < row.quota := by
  cases hrow : s.mailRow m <;> simp [State.takes, quarantine, h, hrow]

theorem State.boxCause_eq (s : State) (m : Nat) : s.boxCause m =
    if (s.mailRow m).isSome ∧ (s.box m).accepting = true then .mailboxFull else .mailboxClosed := by
  simp [State.boxCause]

theorem State.overflowBox_eq {row : MailRow} {target : Option Nat} (hrow : s.mailRow m = some row)
    (hover : row.overflow = target) : s.overflowBox m = target := by
  simp [State.overflowBox, hrow, hover]

theorem State.place_taken (h : s.takes m = true) : s.place m = .ok m := if_pos h

/-- R64: a candidate that does not take the call and has no overflow mailbox. -/
theorem State.place_noOverflow (h : s.takes m = false) (ho : s.overflowBox m = none) :
    s.place m = .error (s.boxCause m) := by
  simp [State.place, h, ho]

/-- R64: the one step to the overflow mailbox, from which there is no other. -/
theorem State.place_overflow {o : Nat} (h : s.takes m = false) (ho : s.overflowBox m = some o) :
    s.place m = if s.takes o = true then .ok o else .error (s.boxCause o) := by
  simp [State.place, h, ho]

end Place

/-! ### The caller stage (R59, R60) -/

theorem callerStage_eq {e : Option ScreenEntry} {res : ScreenResult} {goal : Option Nat}
    (h : (e = none ∧ res = .none ∧ goal = none)
      ∨ (∃ x, e = some x ∧ ((x.action = .accept ∧ res = .accept ∧ goal = none)
          ∨ (x.action = .quarantine ∧ res = .quarantine ∧ goal = some 64)
          ∨ (x.action = .redirect ∧ res = .redirect ∧ x.target.isSome ∧ goal = x.target)))) :
    e.any (fun x => x.action == .refuse) = false ∧ callerResult e = res
      ∧ ∀ routed, candidateBox e routed = goal.getD routed := by
  obtain ⟨rfl, rfl, rfl⟩ | ⟨x, rfl, ⟨hx, rfl, rfl⟩ | ⟨hx, rfl, rfl⟩ | ⟨hx, rfl, -, rfl⟩⟩ := h
  · exact ⟨rfl, rfl, fun _ => rfl⟩
  all_goals simp [callerResult, candidateBox, hx, quarantine]

/-! ### Steps 7 to 10 as one event (R58, R62) -/

section Resolve

variable {s : State} {called : Str} {caller : Option Str}

theorem State.resolve_screened
    (h : (callerMatch s.tables.screening.live caller).any (fun x => x.action == .refuse) = true) :
    s.resolve called caller = .refused .screened none .none := if_pos h

theorem State.resolve_unrouted
    (h : (callerMatch s.tables.screening.live caller).any (fun x => x.action == .refuse) = false)
    (hr : routeMatch s.tables.routing.live called = none) :
    s.resolve called caller = .refused .noRoute (some s.tables.routing.generation)
      (callerResult (callerMatch s.tables.screening.live caller)) := by
  simp [State.resolve, h, hr]

theorem State.resolve_shed {r : RouteEntry}
    (h : (callerMatch s.tables.screening.live caller).any (fun x => x.action == .refuse) = false)
    (hr : routeMatch s.tables.routing.live called = some r) (ht : s.pressure.level = .tight ∧ r.shed = true) :
    s.resolve called caller = .refused .storeTight (some s.tables.routing.generation)
      (callerResult (callerMatch s.tables.screening.live caller)) := by
  simp [State.resolve, h, hr, ht]

/-- R64: a call that no mailbox takes. -/
theorem State.resolve_unplaced {r : RouteEntry} {cause : Cause}
    (h : (callerMatch s.tables.screening.live caller).any (fun x => x.action == .refuse) = false)
    (hr : routeMatch s.tables.routing.live called = some r) (ht : ¬ (s.pressure.level = .tight ∧ r.shed = true))
    (hp : s.place (candidateBox (callerMatch s.tables.screening.live caller) r.mailbox) = .error cause) :
    s.resolve called caller = .refused cause (some s.tables.routing.generation)
      (callerResult (callerMatch s.tables.screening.live caller)) := by
  simp [State.resolve, h, hr, ht, hp]

theorem State.resolve_placed {r : RouteEntry} {m : Nat}
    (h : (callerMatch s.tables.screening.live caller).any (fun x => x.action == .refuse) = false)
    (hr : routeMatch s.tables.routing.live called = some r) (ht : ¬ (s.pressure.level = .tight ∧ r.shed = true))
    (hp : s.place (candidateBox (callerMatch s.tables.screening.live caller) r.mailbox) = .ok m) :
    s.resolve called caller = .placed
      { routed := r.mailbox, final := m, cls := r.cls, hours := r.hours, routeGen := s.tables.routing.generation,
        screening := callerResult (callerMatch s.tables.screening.live caller) } := by
  simp [State.resolve, h, hr, ht, hp]

end Resolve

/-- Settles O13: the resolution by the caller stage (callerStage_eq) and then by the step that ends it; the placement
by what takes the call, the candidate or its overflow mailbox. -/
theorem resolutionOutcomes : Obligations.ResolutionOutcomes := by
  refine ⟨fun s called caller => ⟨?_, fun res goal hstage => ?_⟩, fun s m => ⟨s.takes_quarantine,
    fun hm => State.takes_department hm, State.place_taken, ?_, ?_, ?_, ?_⟩⟩
  · rintro ⟨x, hx, hrefuse⟩
    exact State.resolve_screened (by simp [hx, hrefuse])
  · obtain ⟨hpass, hres, hgoal⟩ := callerStage_eq hstage
    refine ⟨fun hr => ?_, fun r hr => ⟨fun ht => ?_, fun ht => ⟨fun cause hp => ?_, fun m hp => ?_⟩⟩⟩
    · rw [State.resolve_unrouted hpass hr, hres]
    · rw [State.resolve_shed hpass hr ht, hres]
    · rw [State.resolve_unplaced hpass hr ht (by rw [hgoal, hp]), hres]
    · rw [State.resolve_placed hpass hr ht (by rw [hgoal, hp]), hres]
  · intro row o hm hrow hover ho
    rw [State.place_overflow hm (State.overflowBox_eq hrow hover), if_pos ho]
  · intro row o hm hrow hover ho
    rw [State.place_overflow hm (State.overflowBox_eq hrow hover), if_neg (by simp [ho]), State.boxCause_eq]
  · intro row hm hrow hover
    rw [State.place_noOverflow hm (State.overflowBox_eq hrow hover), State.boxCause_eq, hrow]
    simp
  · intro hm hrow
    rw [State.place_noOverflow hm (by simp [State.overflowBox, hrow]), State.boxCause_eq, hrow]
    simp

end Sys2Proof.Machine
end

section
/-! PROOFS. A CALL_OPEN refused at a step of the answer decision, and what the refusal leaves (R53 to R57, R62, R66). -/

namespace Sys2Proof.Machine

open Sys2Proof.Config

/-! ### A claim dropped (R13, R66) -/

theorem tableDel_tablePut {α : Type} (k : Nat) (v : α) (l : List (Nat × α)) :
    tableDel k (tablePut k v l) = tableDel k l := by
  induction l with
  | nil => simp [tablePut, tableDel]
  | cons e t ih =>
    simp only [tableDel] at ih
    rcases Nat.lt_trichotomy k e.1 with h | h | h
    · simp [tablePut, tableDel, h]
    · simp [tablePut, tableDel, h]
    · simp [tablePut, tableDel, Nat.not_lt_of_gt h, Nat.ne_of_gt h, List.filter_cons, ih]

theorem le_of_mem_rising {α : Type} {lo : Nat} {l : List (Nat × α)} (hl : rising lo l = true) :
    ∀ e ∈ l, lo ≤ e.1 := by
  induction l generalizing lo with
  | nil => simp
  | cons a t ih =>
    simp only [rising, Bool.and_eq_true, decide_eq_true_eq] at hl
    obtain ⟨hlo, ht⟩ := hl
    intro e he
    rcases List.mem_cons.1 he with rfl | he
    · exact hlo
    · exact hlo.trans ((Nat.le_succ _).trans (ih ht e he))

/-- The lowest free number of a table with rising keys is no key of it. -/
theorem lowestFree_fresh {α : Type} {limit lo k : Nat} {l : List (Nat × α)} (hl : rising lo l = true)
    (h : lowestFree limit lo l = some k) : lo ≤ k ∧ ∀ e ∈ l, e.1 ≠ k := by
  induction l generalizing lo with
  | nil =>
    obtain ⟨-, rfl⟩ := by simpa [lowestFree] using h
    simp
  | cons a t ih =>
    simp only [rising, Bool.and_eq_true, decide_eq_true_eq] at hl
    obtain ⟨hlo, ht⟩ := hl
    simp only [lowestFree] at h
    split at h
    · next hgap =>
      obtain ⟨-, rfl⟩ := by simpa using h
      have hkeys : ∀ e ∈ a :: t, lo + 1 ≤ e.1 := le_of_mem_rising (by simp [rising, ht]; omega)
      exact ⟨le_rfl, fun e he => (Nat.lt_of_succ_le (hkeys e he)).ne'⟩
    · next hnogap =>
      have hlow : a.1 = lo := by omega
      obtain ⟨hlt, hne⟩ := ih (hlow ▸ ht) h
      refine ⟨by omega, fun e he => ?_⟩
      rcases List.mem_cons.1 he with rfl | he
      · omega
      · exact hne e he

/-- R13: a claim of the lowest free slot, dropped, leaves the document table as it was. -/
theorem tableDel_claim {α : Type} {limit k : Nat} {l : List (Nat × α)} (v : α) (hl : rising 0 l = true)
    (h : lowestFree limit 0 l = some k) : tableDel k (tablePut k v l) = l := by
  rw [tableDel_tablePut]
  exact List.filter_eq_self.2 fun e he => bne_iff_ne.2 ((lowestFree_fresh hl h).2 e he)

/-! ### What a refusal leaves (R54, R66) -/

/-- R54, R66: REFUSE handed to the Line Port while the link is UP, and CALL_REFUSED raised. -/
def State.refusalSent (x : State) (ch : Nat) (called : Str) (cause : Cause) : State :=
  { x with
    line := { x.line with queue := x.line.queue ++ [⟨ch, .refuse cause⟩] }
    waiting := { x.waiting with
      occurrences := x.waiting.occurrences ++ [(.callController, .callRefused ch called cause)] } }

/-- R66: the claim of a refused decision dropped, and its entry written where it holds a reservation. -/
def State.refusalRecorded (x : State) (ch : Nat) (d : Decision) (cause : Cause) (gen : Option Nat)
    (res : ScreenResult) : State :=
  if d.reserved = true then (x.dropClaim d.claim).writeEntry (refusedEntry ch d x.mgmt.tod cause gen res)
  else x.dropClaim d.claim

theorem State.refusalRecorded_setDecision (x : State) (ch : Nat) (held : Option Decision) (d : Decision) (cause : Cause)
    (gen : Option Nat) (res : ScreenResult) :
    (x.setDecision ch held).refusalRecorded ch d cause gen res
      = (x.refusalRecorded ch d cause gen res).setDecision ch held := by
  unfold State.refusalRecorded
  cases d.claim <;> cases d.reserved <;> rfl

@[simp] theorem State.refusalRecorded_frame (x : State) (ch : Nat) (d : Decision) (cause : Cause) (gen : Option Nat)
    (res : ScreenResult) :
    (x.refusalRecorded ch d cause gen res).calls = x.calls ∧ (x.refusalRecorded ch d cause gen res).line = x.line := by
  unfold State.refusalRecorded
  split <;> simp

theorem State.sendLine_refuse {s : State} {ch : Nat} {called : Str} {cause : Cause} (hl : s.line.link = .up) :
    (s.sendLine ch (.refuse cause)).raise .callController (.callRefused ch called cause)
      = s.refusalSent ch called cause := by
  rw [State.sendLine_sent s ch _ (State.lineDiscards_refuse s ch cause hl)]
  rfl

/-- Where a decision is made: a channel of the shelf that holds none yet, with the link UP. -/
def State.deciding (g : State) (ch : Nat) : Prop :=
  ch < g.calls.channels.length ∧ (g.channel ch).decision = none ∧ g.line.link = .up

/-- Whether a decision can be made is read from the channels and the Line Port alone. -/
theorem State.deciding.congr {g x : State} {ch : Nat} (hg : g.deciding ch) (hcalls : x.calls = g.calls)
    (hline : x.line = g.line) : x.deciding ch := by
  rw [State.deciding, State.channel_congr g x ch hcalls, hcalls, hline]
  exact hg

section Held

variable {g x : State} {ch : Nat} {d : Decision} {cause : Cause} {gen : Option Nat} {res : ScreenResult}

/-- R66: a refusal takes the decision from its channel and leaves nothing else of it. -/
theorem State.refuse_held (hx : x.deciding ch) : (x.setDecision ch (some d)).refuse ch d cause gen res
    = (x.refusalRecorded ch d cause gen res).refusalSent ch d.called cause := by
  obtain ⟨hcalls, hline⟩ := x.refusalRecorded_frame ch d cause gen res
  obtain ⟨hc, hd, hl⟩ := hx.congr hcalls hline
  have hgone : ((x.setDecision ch (some d)).refusalRecorded ch d cause gen res).setDecision ch none
      = x.refusalRecorded ch d cause gen res := by
    rw [State.refusalRecorded_setDecision, State.setDecision_setDecision _ ch _ _ hc, State.setDecision_none _ ch hc hd]
  rw [State.refuse_eq]
  change ((((x.setDecision ch (some d)).refusalRecorded ch d cause gen res).setDecision ch none).sendLine ch _).raise _ _ = _
  rw [hgone, State.sendLine_refuse hl]

/-- R53, R66: a decision whose next act refuses the call is at its end. -/
theorem State.decideOn_refused (hg : g.deciding ch) (hx : x.deciding ch)
    (hact : (g.setDecision ch (some d)).decisionAct ch d = (x.setDecision ch (some d)).refuse ch d cause gen res) :
    (g.setDecision ch (some d)).decideOn ch .done
      = (x.refusalRecorded ch d cause gen res).refusalSent ch d.called cause := by
  have hended := State.channel_refuse (x.setDecision ch (some d)) ch d cause gen res (by simpa using hx.1)
  rw [State.decideOn_held hg.1, hact, State.decideOn_none _ ch _ hended, State.refuse_held hx]

end Held

/-! ### The acts of a decision from step to step (R53) -/

section Steps

variable {g : State} {ch : Nat} {called : Str} {caller : Option Str} {now : TimeOfDay}

theorem State.decideOn_toIntake (hc : ch < g.calls.channels.length) (hen : (g.channel ch).enabled = true) :
    (g.setDecision ch (some (Decision.start called caller now))).decideOn ch .done
      = (g.setDecision ch (some ⟨called, caller, now, .intake, false, none, none⟩)).decideOn ch .done := by
  rw [Decision.start, State.decideOn_held hc, State.act_enabled g ch _ hc rfl hen]

theorem State.decideOn_toNumbers (hc : ch < g.calls.channels.length) (hen : (g.channel ch).enabled = true)
    (hin : g.mgmt.intake = .opened) :
    (g.setDecision ch (some (Decision.start called caller now))).decideOn ch .done
      = (g.setDecision ch (some ⟨called, caller, now, .numbers, false, none, none⟩)).decideOn ch .done := by
  rw [State.decideOn_toIntake hc hen, State.decideOn_held hc, State.act_intake g ch _ hc rfl hin]

theorem State.decideOn_toReserve (hc : ch < g.calls.channels.length) (hen : (g.channel ch).enabled = true)
    (hin : g.mgmt.intake = .opened) (hcount : g.docs.counter.isSome = true) :
    (g.setDecision ch (some (Decision.start called caller now))).decideOn ch .done
      = (g.setDecision ch (some ⟨called, caller, now, .reserve, false, none, none⟩)).decideOn ch .done := by
  rw [State.decideOn_toNumbers hc hen hin, State.decideOn_held hc, State.act_numbers g ch _ hc rfl hcount]

theorem State.decideOn_toPressure (hc : ch < g.calls.channels.length) (hen : (g.channel ch).enabled = true)
    (hin : g.mgmt.intake = .opened) (hcount : g.docs.counter.isSome = true) (hroom : g.journal.roomy = true) :
    (g.setDecision ch (some (Decision.start called caller now))).decideOn ch .done
      = (g.reserve.setDecision ch (some ⟨called, caller, now, .pressure, true, none, none⟩)).decideOn ch .done := by
  rw [State.decideOn_toReserve hc hen hin hcount, State.decideOn_held hc, State.act_reserve g ch _ hc rfl hroom]

theorem State.decideOn_toClaim (hc : ch < g.calls.channels.length) (hlevel : g.pressure.level ≠ .critical) :
    (g.setDecision ch (some ⟨called, caller, now, .pressure, true, none, none⟩)).decideOn ch .done
      = (g.setDecision ch (some ⟨called, caller, now, .claim, true, none, none⟩)).decideOn ch .done := by
  rw [State.decideOn_held hc, State.act_pressure g ch _ hc rfl hlevel]

theorem State.decideOn_toResolve {slot : Nat} (hc : ch < g.calls.channels.length) (hlevel : g.pressure.level ≠ .critical)
    (hslot : lowestFree 1024 0 g.docs.slots = some slot) :
    (g.setDecision ch (some ⟨called, caller, now, .pressure, true, none, none⟩)).decideOn ch .done
      = ((g.slotClaimed ch slot).setDecision ch
          (some ⟨called, caller, now, .resolve, true, some slot, none⟩)).decideOn ch .done := by
  rw [State.decideOn_toClaim hc hlevel, State.decideOn_held hc, State.act_claim g ch slot _ hc rfl hslot]
  rfl

end Steps

/-! ### The steps that refuse (R53 to R57, R62) -/

section Refusals

variable {g : State} {ch : Nat} {d : Decision}

theorem State.act_disabled (hc : ch < g.calls.channels.length) (hn : d.next = .enabled)
    (hx : (g.channel ch).enabled = false) : (g.setDecision ch (some d)).decisionAct ch d
      = (g.setDecision ch (some d)).refuse ch d .channelDisabled none .none := by
  rw [State.decisionAct_enabled hn, State.channel_setDecision g ch _ hc, if_neg (by simp [hx])]

theorem State.act_intakeClosed (hn : d.next = .intake) (hx : g.mgmt.intake = .closed) :
    (g.setDecision ch (some d)).decisionAct ch d
      = (g.setDecision ch (some d)).refuse ch d .intakeClosed none .none := by
  simp [State.decisionAct, hn, hx]

theorem State.act_draining (hn : d.next = .intake) (hx : g.mgmt.intake = .draining) :
    (g.setDecision ch (some d)).decisionAct ch d
      = (g.setDecision ch (some d)).refuse ch d .draining none .none := by
  simp [State.decisionAct, hn, hx]

theorem State.act_numbersExhausted (hn : d.next = .numbers) (hx : g.docs.counter = none) :
    (g.setDecision ch (some d)).decisionAct ch d
      = (g.setDecision ch (some d)).refuse ch d .numbersExhausted none .none := by
  simp [State.decisionAct, hn, hx]

theorem State.act_journalFull (hn : d.next = .reserve) (hx : g.journal.roomy = false) :
    (g.setDecision ch (some d)).decisionAct ch d
      = (g.countUnrecorded.setDecision ch (some d)).refuse ch d .journalFull none .none := by
  simp [State.decisionAct, hn, hx, State.countUnrecorded_setDecision]

theorem State.act_critical (hn : d.next = .pressure) (hx : g.pressure.level = .critical) :
    (g.setDecision ch (some d)).decisionAct ch d
      = (g.setDecision ch (some d)).refuse ch d .storeCritical none .none := by
  simp [State.decisionAct, hn, hx]

theorem State.act_noSlot (hn : d.next = .claim) (hx : lowestFree 1024 0 g.docs.slots = none) :
    (g.setDecision ch (some d)).decisionAct ch d
      = (g.setDecision ch (some d)).refuse ch d .noDocumentSlot none .none := by
  simp [State.decisionAct, hn, State.claimSlot, slotCount, hx]

theorem State.act_unresolved {cause : Cause} {gen : Option Nat} {res : ScreenResult} (hn : d.next = .resolve)
    (hx : g.resolve d.called d.caller = .refused cause gen res) :
    (g.setDecision ch (some d)).decisionAct ch d = (g.setDecision ch (some d)).refuse ch d cause gen res := by
  have hr := State.resolve_congr (g.setDecision ch (some d)) g d.called d.caller (by simp) (by simp) (by simp)
  simp [State.decisionAct, hn, hr, hx]

end Refusals

/-! ### The entry of a refused call (R66, R88, R95) -/

theorem State.journal_lowTest (s : State) :
    s.lowTest.journal.log = s.journal.log ∧ s.lowTest.journal.reserved = s.journal.reserved := by
  unfold State.lowTest
  dsimp only
  split <;> exact ⟨rfl, rfl⟩

theorem State.journal_reserve (s : State) :
    s.reserve.journal.log = s.journal.log ∧ s.reserve.journal.reserved = s.journal.reserved + 1 :=
  State.journal_lowTest _

/-- R66, R90: the reservation of a refused call is spent on its entry. -/
def State.refusedWith (g : State) (ch : Nat) (called : Str) (caller : Option Str) (opened : TimeOfDay) (cause : Cause)
    (gen : Option Nat) (res : ScreenResult) : State :=
  { g.reserve with journal := { g.reserve.journal with
      reserved := g.journal.reserved
      log := g.journal.log ++
        [{ receipt := none, channel := ch, openTime := opened, closeTime := g.mgmt.tod, called := called,
           caller := caller, station := none, outcome := .refused, cause := cause, pages := 0, damaged := 0,
           mailbox := none, routeGen := gen, screening := res }] } }

theorem State.refusalRecorded_reserved (g : State) (ch : Nat) (called : Str) (caller : Option Str) (now : TimeOfDay)
    (next : DecisionAct) (cause : Cause) (gen : Option Nat) (res : ScreenResult) :
    g.reserve.refusalRecorded ch ⟨called, caller, now, next, true, none, none⟩ cause gen res
      = g.refusedWith ch called caller now cause gen res := by
  obtain ⟨hlog, hreserved⟩ := g.journal_reserve
  have htod : g.reserve.mgmt.tod = g.mgmt.tod := by simp
  simp only [State.refusalRecorded, if_true, State.dropClaim, State.writeEntry, refusedEntry, hlog, hreserved, htod,
    Nat.add_sub_cancel]
  rfl

/-- R13, R66: with the claim dropped, the entry is all that is left of the refused call. -/
theorem State.refusalRecorded_claimed {g : State} {ch slot : Nat} (called : Str) (caller : Option Str) (now : TimeOfDay)
    (next : DecisionAct) (cause : Cause) (gen : Option Nat) (res : ScreenResult)
    (hrising : rising 0 g.docs.slots = true) (hslot : lowestFree 1024 0 g.docs.slots = some slot) :
    (g.reserve.slotClaimed ch slot).refusalRecorded ch ⟨called, caller, now, next, true, some slot, none⟩ cause gen res
      = g.refusedWith ch called caller now cause gen res := by
  have hdocs : g.reserve.docs = g.docs := by simp
  have hfreed : (g.reserve.slotClaimed ch slot).freeSlot slot = g.reserve := by
    simp only [State.slotClaimed, State.freeSlot, tableDel_claim _ (hdocs ▸ hrising) (hdocs ▸ hslot)]
  rw [← State.refusalRecorded_reserved g ch called caller now next]
  simp only [State.refusalRecorded, if_true, State.dropClaim, hfreed]
  rfl

/-! ### A decision that holds its reservation, refused (R56 to R66) -/

section Reserved

variable {g : State} {ch : Nat} {called : Str} {caller : Option Str} {now : TimeOfDay}

theorem State.deciding.reserve (hg : g.deciding ch) : g.reserve.deciding ch := hg.congr (by simp) (by simp)

theorem State.decideOn_critical (hg : g.deciding ch) (hlevel : g.pressure.level = .critical) :
    (g.reserve.setDecision ch (some ⟨called, caller, now, .pressure, true, none, none⟩)).decideOn ch .done
      = (g.refusedWith ch called caller now .storeCritical none .none).refusalSent ch called .storeCritical := by
  rw [State.decideOn_refused hg.reserve hg.reserve (State.act_critical rfl (by simpa using hlevel)),
    State.refusalRecorded_reserved]

theorem State.decideOn_noSlot (hg : g.deciding ch) (hlevel : g.pressure.level ≠ .critical)
    (hslot : lowestFree 1024 0 g.docs.slots = none) :
    (g.reserve.setDecision ch (some ⟨called, caller, now, .pressure, true, none, none⟩)).decideOn ch .done
      = (g.refusedWith ch called caller now .noDocumentSlot none .none).refusalSent ch called .noDocumentSlot := by
  rw [State.decideOn_toClaim hg.reserve.1 (by simpa using hlevel),
    State.decideOn_refused hg.reserve hg.reserve (State.act_noSlot rfl (by simpa using hslot)),
    State.refusalRecorded_reserved]

theorem State.decideOn_unresolved {slot : Nat} {cause : Cause} {gen : Option Nat} {res : ScreenResult}
    (hg : g.deciding ch) (hrising : rising 0 g.docs.slots = true) (hlevel : g.pressure.level ≠ .critical)
    (hslot : lowestFree 1024 0 g.docs.slots = some slot) (hresolve : g.resolve called caller = .refused cause gen res) :
    (g.reserve.setDecision ch (some ⟨called, caller, now, .pressure, true, none, none⟩)).decideOn ch .done
      = (g.refusedWith ch called caller now cause gen res).refusalSent ch called cause := by
  have hclaimed : (g.reserve.slotClaimed ch slot).deciding ch := hg.reserve.congr rfl rfl
  have hres : (g.reserve.slotClaimed ch slot).resolve called caller = .refused cause gen res :=
    (State.resolve_congr _ g called caller (by simp [State.slotClaimed]) (by simp [State.slotClaimed])
      (by simp [State.slotClaimed])).trans hresolve
  rw [State.decideOn_toResolve hg.reserve.1 (by simpa using hlevel) (by simpa using hslot),
    State.decideOn_refused hclaimed hclaimed (State.act_unresolved rfl hres),
    State.refusalRecorded_claimed called caller _ _ _ _ _ hrising hslot]

end Reserved

/-! ### A refused CALL_OPEN -/

/-- R27: a quiet channel decides on a CALL_OPEN in the state in which the Line Port has taken the frame. -/
theorem State.quiet.deciding {s : State} {ch : Nat} (hq : s.quiet ch) : s.lineGood.deciding ch := by
  obtain ⟨-, -, -, hd, -⟩ := id hq
  exact ⟨by simpa using hq.inRange, (congrArg Channel.decision (State.channel_congr s _ ch (by simp))).trans hd,
    s.lineGood_line.1⟩

/-- R53: an admitted CALL_OPEN stands at step 5 with its reservation. -/
theorem exec_callOpen_admitted {s : State} {ch : Nat} {called : Str} {caller : Option Str} (had : s.admitted ch)
    (hok : callOpenOk ch (.frame called caller .done) = true) :
    exec (.callOpen ch (.frame called caller .done)) s = .next ((s.lineGood.reserve.setDecision ch
      (some ⟨called, caller, s.mgmt.tod, .pressure, true, none, none⟩)).decideOn ch .done) := by
  obtain ⟨hq, hst, hen, hin, hcount, hroom⟩ := had
  have hch : s.lineGood.channel ch = s.channel ch := State.channel_congr _ _ ch (by simp)
  rw [exec_callOpen_idle hq hst hok, State.decideOn_toPressure hq.deciding.1 (hch ▸ hen) (by simpa using hin)
    (by simpa using hcount) ((Journal.roomy_iff _).2 (by simpa using hroom))]

/-- Settles O14: a refusal at steps 1 to 4 by State.decideOn_refused from the step it stands at; one from step 5 on by
State.decideOn_critical, State.decideOn_noSlot and State.decideOn_unresolved. -/
theorem refusalsOfACall : Obligations.RefusalsOfACall := by
  constructor
  · intro s ch called caller hq hst hok g refused run
    have hg := hq.deciding
    have hch : s.lineGood.channel ch = s.channel ch := State.channel_congr _ _ ch (by simp)
    have hrun : run = _ := exec_callOpen_idle hq hst hok
    have hmgmt : s.lineGood.mgmt = s.mgmt := by simp
    have hdocs : s.lineGood.docs = s.docs := by simp
    refine ⟨fun hen => ?_, fun hen hi => ?_, fun hen hi => ?_, fun hen hi hn => ?_, fun hen hi hn hroom => ?_⟩
    · rw [hrun, Decision.start, State.decideOn_refused hg hg (State.act_disabled hg.1 rfl (hch ▸ hen))]
      rfl
    · rw [hrun, State.decideOn_toIntake hg.1 (hch ▸ hen),
        State.decideOn_refused hg hg (State.act_intakeClosed rfl (hmgmt ▸ hi))]
      rfl
    · rw [hrun, State.decideOn_toIntake hg.1 (hch ▸ hen),
        State.decideOn_refused hg hg (State.act_draining rfl (hmgmt ▸ hi))]
      rfl
    · rw [hrun, State.decideOn_toNumbers hg.1 (hch ▸ hen) (hmgmt ▸ hi),
        State.decideOn_refused hg hg (State.act_numbersExhausted rfl (hdocs ▸ hn))]
      rfl
    · have hfull : s.lineGood.journal.roomy = false :=
        Bool.eq_false_iff.2 (mt (Journal.roomy_iff _).1 (by simpa using hroom))
      rw [hrun, State.decideOn_toReserve hg.1 (hch ▸ hen) (hmgmt ▸ hi) (hdocs ▸ hn),
        State.decideOn_refused hg (hg.congr (by simp) (by simp)) (State.act_journalFull rfl hfull)]
      rfl
  · intro s ch called caller had ht hok g refused run
    have hg := had.1.deciding
    have hrun : run = _ := exec_callOpen_admitted had hok
    have hrefused : ∀ cause gen res, (s.lineGood.refusedWith ch called caller s.mgmt.tod cause gen res).refusalSent ch
        called cause = refused cause gen res := by
      intro cause gen res
      have hjournal : s.lineGood.journal = s.journal := by simp
      have hmgmt : s.lineGood.mgmt = s.mgmt := by simp
      simp only [State.refusedWith, hjournal, hmgmt]
      rfl
    refine ⟨fun hlevel => ?_, fun hlevel hslot => ?_, fun cause gen res hlevel hslot hresolve => ?_⟩
    · rw [hrun, State.decideOn_critical hg (by simpa using hlevel), hrefused]
    · rw [hrun, State.decideOn_noSlot hg (by simpa using hlevel) (by simpa using hslot), hrefused]
    · obtain ⟨slot, hslot⟩ := Option.isSome_iff_exists.1 hslot
      obtain ⟨-, -, hrising, -⟩ := ht
      have hres : s.lineGood.resolve called caller = .refused cause gen res :=
        (State.resolve_congr _ s called caller (by simp) (by simp) (by simp)).trans hresolve
      rw [hrun, State.decideOn_unresolved hg (by simpa using hrising) (by simpa using hlevel) (by simpa using hslot) hres,
        hrefused]

end Sys2Proof.Machine
end

section
/-! PROOFS. One evaluation of the Pressure Monitor: the conditions, the two counters and the level (R76 to R80, R83). -/

namespace Sys2Proof.Machine

/-! ### The conditions of a level (R77) -/

theorem enterHolds_normal (p : PressureParams) (free : Nat) : enterHolds p .normal free = true ↔ free < p.tight :=
  decide_eq_true_iff

theorem enterHolds_tight (p : PressureParams) (free : Nat) : enterHolds p .tight free = true ↔ free < p.critical :=
  decide_eq_true_iff

theorem exitHolds_tight (p : PressureParams) (free : Nat) :
    exitHolds p .tight free = true ↔ p.tight + p.hysteresis ≤ free :=
  decide_eq_true_iff

theorem exitHolds_critical (p : PressureParams) (free : Nat) :
    exitHolds p .critical free = true ↔ p.critical + p.hysteresis ≤ free :=
  decide_eq_true_iff

/-- R77: with the thresholds in their order, TIGHT is never left both ways by one count. -/
theorem tight_conditions_exclude {p : PressureParams} (h : p.critical < p.tight) (free : Nat) :
    ¬ (enterHolds p .tight free = true ∧ exitHolds p .tight free = true) := by
  rw [enterHolds_tight, exitHolds_tight]
  omega

/-! ### The counters (R78) -/

/-- R78: the enter counter an evaluation arrives at, before it is held against its debounce. -/
def Pressure.enterCount (p : Pressure) (free : Nat) : Nat :=
  if enterHolds p.params p.level free = true then p.enter + 1 else 0

/-- R78: the exit counter an evaluation arrives at, before it is held against its debounce. -/
def Pressure.exitCount (p : Pressure) (free : Nat) : Nat :=
  if exitHolds p.params p.level free = true then p.exit + 1 else 0

section Counters

variable {p : Pressure} {free : Nat}

theorem Pressure.evaluate_up (h : p.params.enterDebounce + 1 ≤ p.enterCount free) :
    p.evaluate free = { p with level := Level.up p.level, enter := 0, exit := 0 } :=
  if_pos h

theorem Pressure.evaluate_down (he : p.enterCount free < p.params.enterDebounce + 1)
    (hx : p.params.exitDebounce + 1 ≤ p.exitCount free) :
    p.evaluate free = { p with level := Level.down p.level, enter := 0, exit := 0 } :=
  (if_neg (Nat.not_le.2 he)).trans (if_pos hx)

theorem Pressure.evaluate_stays (he : p.enterCount free < p.params.enterDebounce + 1)
    (hx : p.exitCount free < p.params.exitDebounce + 1) :
    p.evaluate free = { p with enter := p.enterCount free, exit := p.exitCount free } :=
  (if_neg (Nat.not_le.2 he)).trans (if_neg (Nat.not_le.2 hx))

/-- R77: CRITICAL has no enter condition, so its enter counter stays 0. -/
theorem Pressure.enterCount_critical (h : p.level = .critical) : p.enterCount free = 0 := by
  simp [Pressure.enterCount, h, enterHolds]

end Counters

/-! ### The state after an evaluation (R76, R80, R83) -/

section Evaluation

variable {s : State}

/-- R80, R83: the state after a move of the level: both counters 0, PRESSURE_CHANGED with the count read, and the
release request of a move to CRITICAL. -/
def State.levelMoved (s : State) (to_ : Level) : State :=
  { s with
    pressure := { s.pressure with level := to_, enter := 0, exit := 0 }
    waiting := { s.waiting with
      occurrences := s.waiting.occurrences
        ++ [(.pressureMonitor, .pressureChanged s.pressure.level to_ s.store.free.length)]
      releases := s.waiting.releases + (if to_ = .critical then 1 else 0) } }

theorem State.releaseAsked_eq (s : State) (level : Level) :
    s.releaseAsked level = { s with waiting := { s.waiting with
      releases := s.waiting.releases + (if level = .critical then 1 else 0) } } := by
  cases level <;> rfl

theorem State.evaluate_moves {to_ : Level} (hne : s.pressure.level ≠ to_)
    (h : s.pressure.evaluate s.store.free.length = { s.pressure with level := to_, enter := 0, exit := 0 }) :
    s.evaluate = s.levelMoved to_ := by
  simp only [State.evaluate, h, State.pressureMoved, if_neg hne, State.releaseAsked_eq]
  rfl

theorem State.evaluate_stays {enter exit : Nat}
    (h : s.pressure.evaluate s.store.free.length = { s.pressure with enter := enter, exit := exit }) :
    s.evaluate = { s with
      pressure := { s.pressure with enter := enter, exit := exit }
      waiting := { s.waiting with
        releases := s.waiting.releases + (if s.pressure.level = .critical then 1 else 0) } } := by
  simp only [State.evaluate, h, State.pressureMoved, if_true, State.releaseAsked_eq]

theorem State.evaluate_up {to_ : Level} (hup : Level.up s.pressure.level = to_) (hne : s.pressure.level ≠ to_)
    (he : s.pressure.params.enterDebounce + 1 ≤ s.pressure.enterCount s.store.free.length) :
    s.evaluate = s.levelMoved to_ :=
  State.evaluate_moves hne (hup ▸ Pressure.evaluate_up he)

theorem State.evaluate_down {to_ : Level} (hdown : Level.down s.pressure.level = to_) (hne : s.pressure.level ≠ to_)
    (he : s.pressure.enterCount s.store.free.length < s.pressure.params.enterDebounce + 1)
    (hx : s.pressure.params.exitDebounce + 1 ≤ s.pressure.exitCount s.store.free.length) :
    s.evaluate = s.levelMoved to_ :=
  State.evaluate_moves hne (hdown ▸ Pressure.evaluate_down he hx)

end Evaluation

/-- Settles O27: the conditions level by level; an evaluation by the counter that reaches its debounce, CRITICAL having
no way up. -/
theorem evaluationMovesTheLevel : Obligations.EvaluationMovesTheLevel := by
  refine ⟨fun p free => ⟨enterHolds_normal p free, rfl, enterHolds_tight p free, exitHolds_tight p free, rfl,
    exitHolds_critical p free, fun h => tight_conditions_exclude h free⟩, ?_⟩
  intro s p free enter exit moved
  refine ⟨fun he hx => State.evaluate_stays (Pressure.evaluate_stays he hx), fun hl he => ?_, fun hl he => ?_,
    fun hl he hx => ?_, fun hl hx => ?_⟩
  · exact State.evaluate_up (congrArg Level.up hl) (hl.trans_ne (by decide)) he
  · exact State.evaluate_up (congrArg Level.up hl) (hl.trans_ne (by decide)) he
  · exact State.evaluate_down (congrArg Level.down hl) (hl.trans_ne (by decide)) he hx
  · have he : s.pressure.enterCount s.store.free.length < s.pressure.params.enterDebounce + 1 := by
      rw [Pressure.enterCount_critical hl]
      exact Nat.succ_pos _
    exact State.evaluate_down (congrArg Level.down hl) (hl.trans_ne (by decide)) he hx

end Sys2Proof.Machine
end

section
/-! PROOFS. Release under pressure, retention expiry, and the freeing of a document (R19 to R21, R81, R83, R85). -/

namespace Sys2Proof.Machine

/-! ### The RETAINED document that goes first (R20) -/

/-- R20: the order of release, the earliest expiry and of equals the lowest receipt number. -/
def releaseKey (e : Nat × Doc) : Nat ×ₗ Nat := toLex (e.2.expiry.getD 0, e.2.receipt)

theorem earlier_eq (a b : Nat × Doc) : earlier a b = if releaseKey b < releaseKey a then b else a := by
  simp [earlier, releaseKey, Prod.Lex.toLex_lt_toLex]

theorem State.mem_retained (s : State) (e : Nat × Doc) : e ∈ s.retained ↔ e ∈ s.docList ∧ e.2.state = .retained := by
  simp [State.retained]

/-- The model's search is the library's first minimum of the RETAINED documents in the order of release. -/
theorem State.firstRetained_eq_argmin (s : State) : s.firstRetained = s.retained.argmin releaseKey := by
  have hstep : ∀ a b : Nat × Doc,
      List.argAux (fun x y => releaseKey x < releaseKey y) (some a) b = some (earlier a b) := fun a b => by
    rw [earlier_eq]
    exact (apply_ite some _ b a).symm
  cases hl : s.retained with
  | nil => simp only [State.firstRetained, hl, List.argmin_nil]
  | cons e t => simp only [State.firstRetained, hl]; exact (List.foldl_hom some hstep).symm

theorem State.firstRetained_none_iff (s : State) :
    s.firstRetained = none ↔ ∀ e ∈ s.docList, e.2.state ≠ .retained := by
  rw [State.firstRetained_eq_argmin, List.argmin_eq_none, List.eq_nil_iff_forall_not_mem]
  simp only [State.mem_retained, not_and, ne_eq]

theorem State.firstRetained_wins {s : State} {e : Nat × Doc} (h : s.firstRetained = some e) :
    (e ∈ s.docList ∧ e.2.state = .retained)
      ∧ ∀ x ∈ s.docList, x.2.state = .retained → releaseKey e ≤ releaseKey x := by
  rw [State.firstRetained_eq_argmin] at h
  exact ⟨(s.mem_retained e).1 (List.argmin_mem h),
    fun x hx hr => List.le_of_mem_argmin ((s.mem_retained x).2 ⟨hx, hr⟩) h⟩

/-! ### What freeing a document does (R2, R21) -/

theorem State.releaseBlocks_eq (s : State) (blocks : List Nat) :
    s.releaseBlocks blocks = if blocks = [] then s
      else ({ s with store := { s.store with free := s.store.free ++ blocks } } : State).evaluate := by
  simp only [State.releaseBlocks, List.isEmpty_iff]

section LeaveMailbox

variable {d : Doc} (s : State) (slot : Nat) (purged : Bool)

theorem State.leaveMailbox_retained (h : d.state = .retained) : s.leaveMailbox slot d purged = s := by
  simp only [State.leaveMailbox, h]

theorem State.leaveMailbox_held (h : d.state = .receiving ∨ d.state = .held) :
    s.leaveMailbox slot d purged = s.heldDown d.current d.pages.length := by
  rcases h with h | h <;> simp only [State.leaveMailbox, h]

theorem State.leaveMailbox_queued (h : d.state = .queued) :
    s.leaveMailbox slot d purged = (s.heldDown d.current d.pages.length).unqueue d.current slot := by
  simp only [State.leaveMailbox, h]

theorem State.leaveMailbox_delivering (h : d.state = .delivering) :
    s.leaveMailbox slot d purged = if purged = true then s.heldDown d.current d.pages.length else s := by
  simp only [State.leaveMailbox, h]

end LeaveMailbox

/-! ### The three commands (R19, R20, R81) -/

section Commands

variable {s : State}

theorem exec_pressureParameterChange_eq {p : PressureParams} {rest : List PressureParams} (ha : s.awake)
    (hp : s.waiting.pressureParts = p :: rest) :
    exec .pressureParameterChange s
      = .next (({ s with waiting := { s.waiting with pressureParts := rest } } : State).pressureChange p) := by
  change execPressureParameterChange s = _
  rw [execPressureParameterChange, act_awake _ s ha, hp]

theorem exec_pressureReleaseRequest_eq {n : Nat} (ha : s.awake) (hn : s.waiting.releases = n + 1) :
    exec .pressureReleaseRequest s
      = .next ({ s with waiting := { s.waiting with releases := n } } : State).releaseRetained := by
  change execPressureReleaseRequest s = _
  rw [execPressureReleaseRequest, act_awake _ s ha, hn, if_neg (Nat.succ_ne_zero n)]
  rfl

theorem State.releaseRetained_none (h : s.firstRetained = none) : s.releaseRetained = s := by
  simp only [State.releaseRetained, h]

theorem State.releaseRetained_some {e : Nat × Doc} (h : s.firstRetained = some e) :
    s.releaseRetained = s.freeDoc e.1 e.2 false := by
  simp only [State.releaseRetained, h]

theorem exec_retentionExpiry_eq {receipt slot due : Nat} {d : Doc} (ha : s.awake)
    (hd : s.docOf receipt = some (slot, d)) (hr : d.state = .retained) (he : d.expiry = some due)
    (hdue : due ≤ 281474976710655) :
    exec (.retentionExpiry receipt) s = .next ((s.advanceTo due).freeDoc slot d false) := by
  change execRetentionExpiry receipt s = _
  rw [execRetentionExpiry, act_awake _ s ha, hd]
  simp only [hr, he, expiring_some hdue]

end Commands

/-- Settles O28: the commands by their equations above, the choice as the first minimum in the order of release, and
freeing by the state the document leaves its mailbox in. -/
theorem documentsAreFreed : Obligations.DocumentsAreFreed := by
  refine ⟨fun s ha => ⟨fun p rest hp => exec_pressureParameterChange_eq ha hp, ?_, s.firstRetained_none_iff, ?_⟩,
    fun s receipt slot due d ha => exec_retentionExpiry_eq ha, ?_⟩
  · intro n hn u
    rw [exec_pressureReleaseRequest_eq ha hn]
    exact ⟨fun hnone => congrArg _ (State.releaseRetained_none (s := u) (u.firstRetained_none_iff.2 hnone)),
      fun e he => congrArg _ (State.releaseRetained_some (s := u) he)⟩
  · intro e he
    obtain ⟨⟨hmem, hstate⟩, hleast⟩ := State.firstRetained_wins he
    exact ⟨hmem, hstate, fun x hx hr => Prod.Lex.toLex_le_toLex.1 (hleast x hx hr)⟩
  · intro s slot d purged blocks left
    have hleft : ∀ x, s.leaveMailbox slot d purged = x → s.freeDoc slot d purged = left x := by
      rintro x rfl
      rw [State.freeDoc, State.releaseBlocks_eq]
      rfl
    refine ⟨fun h => ?_, fun h => ?_, fun h => ?_, fun h hp => ?_, fun h hp => ?_⟩
    · exact hleft _ (s.leaveMailbox_retained slot purged h)
    · exact hleft _ (s.leaveMailbox_held slot purged h)
    · exact hleft _ (s.leaveMailbox_queued slot purged h)
    · exact hleft _ ((s.leaveMailbox_delivering slot purged h).trans (if_neg (by simp [hp])))
    · exact hleft _ ((s.leaveMailbox_delivering slot purged h).trans (if_pos hp))

end Sys2Proof.Machine
end

section
/-! PROOFS. The requests on the receipt journal: JOURNAL_READ and JOURNAL_RELEASE (R97, R98; log 36). -/

namespace Sys2Proof.Machine

open Sys2Proof.Config

/-! ### A stretch of the log (R97) -/

theorem positioned_length {α : Type} (i c : Nat) (l : List α) : (positioned i c l).length = min c (l.length - i) := by
  simp [positioned]

theorem positioned_getElem? {α : Type} (i c : Nat) (l : List α) {k : Nat} (hk : k < c) :
    (positioned i c l)[k]? = (l[i + k]?).map (fun e => (i + k, e)) := by
  have htake : ((l.drop i).take c)[k]? = l[i + k]? := by rw [List.getElem?_take_of_lt hk, List.getElem?_drop]
  rw [positioned, List.getElem?_map, List.getElem?_zipIdx, htake, Option.map_map, Nat.zero_add, Nat.add_comm i k]
  rfl

/-! ### The operands -/

/-- R97: an operand of JOURNAL_READ out of its range. -/
theorem journalReadBad_iff (o c : Nat) :
    (!decide (o < journalRoom) || !within 1 8 c) = true ↔ 2047 < o ∨ c < 1 ∨ 8 < c := by
  simp only [within, Bool.or_eq_true, Bool.not_eq_true', Bool.and_eq_false_iff, decide_eq_false_iff_not, not_le, not_lt]
  rfl

/-- R98: the number of a JOURNAL_RELEASE out of its range. -/
theorem journalReleaseBad_iff (n : Nat) : (!within 1 journalRoom n) = true ↔ n < 1 ∨ 2048 < n := by
  simp only [within, Bool.not_eq_true', Bool.and_eq_false_iff, decide_eq_false_iff_not, not_le]
  rfl

/-! ### What a release leaves (R98) -/

theorem Journal.free_eq (j : Journal) : j.free = 2048 - (j.log.length + j.reserved) := rfl

theorem Journal.release_log (j : Journal) (n : Nat) : (j.release n).log = j.log.drop n := by
  simp only [Journal.release]
  split <;> rfl

theorem Journal.release_reserved (j : Journal) (n : Nat) : (j.release n).reserved = j.reserved := by
  simp only [Journal.release]
  split <;> rfl

/-- R98: the log without its oldest entries, the condition armed again where free entries reaches the mark. -/
theorem Journal.release_eq (j : Journal) (n : Nat) : j.release n = { j with
    log := j.log.drop n
    lowArmed := if j.lowMark ≤ 2048 - (j.log.length - n + j.reserved) then true else j.lowArmed } := by
  simp only [Journal.release, Journal.free_eq, List.length_drop]
  split <;> rfl

theorem Journal.counts_release (j : Journal) (n : Nat) : (j.release n).counts =
    { written := j.log.length - n, reserved := j.reserved, free := 2048 - (j.log.length - n + j.reserved) } := by
  simp only [Journal.counts, Journal.free_eq, Journal.release_log, Journal.release_reserved, List.length_drop]

/-! ### The requests, once taken -/

section Taken

variable {s : State} {h : ReqHead}

theorem exec_journalRead_eq (ht : s.requestTaken h) (o c : Nat) :
    exec (.journalRead h o c) s = .next (
      if !decide (o < journalRoom) || !within 1 8 c then (s.taking h.src).reply h .journalRead .badArgument .none
      else if (s.taking h.src).journal.log.length ≤ o then (s.taking h.src).reply h .journalRead .range .none
      else (s.taking h.src).reply h .journalRead .ok (.entries (positioned o c (s.taking h.src).journal.log)
        (s.taking h.src).journal.counts (s.taking h.src).journal.unrecorded)) := by
  change execJournalRead h o c s = _
  rw [execJournalRead, act_awake _ s ht.1, State.request_taken s h .journalRead _ ht]

theorem exec_journalRelease_eq (ht : s.requestTaken h) (n : Release) :
    exec (.journalRelease h n) s = .next (
      if !within 1 journalRoom n.count then (s.taking h.src).reply h .journalRelease .badArgument .none
      else if (s.taking h.src).journal.log.length - n.beside < n.count
      then (s.taking h.src).reply h .journalRelease .range .none
      else ({ s.taking h.src with journal := (s.taking h.src).journal.release n.count } : State).reply h
        .journalRelease .ok (.journalCounts ((s.taking h.src).journal.release n.count).counts)) := by
  change execJournalRelease h n s = _
  rw [execJournalRelease, act_awake _ s ht.1, State.request_taken s h .journalRelease _ ht]

end Taken

/-- Settles O60: the two requests by their equations above, the operands out of range first, then a log too short for
the request; the stretch is read entry by entry, and a release is the journal it leaves with its counts. -/
theorem journalRequests : Obligations.JournalRequests := by
  intro s h ht a j counts
  refine ⟨fun o c => ⟨fun hbad => ?_, fun ho hc hcm hshort => ?_, fun ho hc hcm hlong => ?_⟩,
    fun n beside => ⟨fun hbad => ?_, fun hn hnm hshort => ?_, fun hn hnm hlong => ?_⟩⟩
  · rw [exec_journalRead_eq ht, if_pos ((journalReadBad_iff o c).2 hbad)]
  · rw [exec_journalRead_eq ht, if_neg (mt (journalReadBad_iff o c).1 (by omega)), if_pos hshort]
  · have hlen : (positioned o c j.log).length = min c (j.log.length - o) := positioned_length o c j.log
    refine ⟨positioned o c j.log, hlen, fun k hk => positioned_getElem? o c j.log (by omega), ?_⟩
    rw [exec_journalRead_eq ht, if_neg (mt (journalReadBad_iff o c).1 (by omega)), if_neg (Nat.not_le.2 hlong)]
    rfl
  · rw [exec_journalRelease_eq ht, if_pos ((journalReleaseBad_iff n).2 hbad)]
  · have hfew : j.log.length - beside < n := by omega
    rw [exec_journalRelease_eq ht, if_neg (mt (journalReleaseBad_iff n).1 (by omega)), if_pos hfew]
  · have hmany : ¬ j.log.length - beside < n := by omega
    rw [exec_journalRelease_eq ht, if_neg (mt (journalReleaseBad_iff n).1 (by omega)), if_neg hmany,
      Journal.counts_release, Journal.release_eq]

end Sys2Proof.Machine
end

section
/-! PROOFS. The class segments of a queue, candidate reports and pages held (R102 to R107; logs 3, 19). -/

namespace Sys2Proof.Machine

open Sys2Proof.Config

/-! ### The class segments (R103 to R105) -/

theorem State.urgent_iff {s : State} {slot : Nat} {d : Doc} (hd : s.doc slot = some d) :
    s.urgent slot = true ↔ d.cls = .urgent := by
  simp [State.urgent, hd]

section Segments

variable {s : State} {slot : Nat} (queue : List Nat)

theorem State.atTail_urgent (h : s.urgent slot = true) :
    s.atTail slot queue = queue.takeWhile s.urgent ++ [slot] ++ queue.dropWhile s.urgent := by
  simp [State.atTail, h]

theorem State.atTail_routine (h : ¬ s.urgent slot = true) : s.atTail slot queue = queue ++ [slot] := by
  simp [State.atTail, h]

theorem State.atHead_urgent (h : s.urgent slot = true) : s.atHead slot queue = [slot] ++ queue := by
  simp [State.atHead, h]

theorem State.atHead_routine (h : ¬ s.urgent slot = true) :
    s.atHead slot queue = queue.takeWhile s.urgent ++ [slot] ++ queue.dropWhile s.urgent := by
  simp [State.atHead, h]

end Segments

/-! ### Candidate reports (R107) -/

/-- R107: a candidate report is made of a head that is new and exists, in a department mailbox. -/
theorem State.headReport_eq (s : State) (m : Nat) (before : Option Nat) (queue : List Nat) :
    s.headReport m before queue.head? =
      if m < 64 ∧ queue ≠ [] ∧ queue.head? ≠ before then s.trigger (.candidate m) else s := by
  have hguard : (decide (m < mailboxCount) && queue.head?.isSome && queue.head? != before) = true
      ↔ m < 64 ∧ queue ≠ [] ∧ queue.head? ≠ before := by
    simp only [Bool.and_eq_true, decide_eq_true_eq, bne_iff_ne, List.isSome_head?, ne_eq, and_assoc]
    exact Iff.rfl
  exact if_congr hguard rfl rfl

/-- R107, log 19: the report of a not-before that lay ahead when its document became the head. -/
theorem exec_notBeforeReached_ahead {s : State} {m slot due : Nat} {d : Doc} (ha : s.awake) (hm : m < 64)
    (hahead : (s.box m).ahead = true) (hhead : (s.box m).queue.head? = some slot) (hd : s.doc slot = some d)
    (hdue : d.notBefore = some due) (hmax : due ≤ 281474976710655) :
    exec (.notBeforeReached m) s
      = .next (((s.advanceTo due).setBox m { s.box m with ahead := false }).trigger (.candidate m)) := by
  have hguard : (decide (m < mailboxCount) && (s.box m).ahead) = true := by simp [mailboxCount, hm, hahead]
  have hreach : ((s.box m).queue.head?.bind s.doc).bind (fun d => expiring d.notBefore) = some due := by
    simp [hhead, hd, hdue, expiring_some hmax]
  change execNotBeforeReached m s = _
  rw [execNotBeforeReached, act_awake _ s ha, if_pos hguard, hreach]

/-- Log 19: no report where the record tells that it has been made, or that none is due. -/
theorem exec_notBeforeReached_reported {s : State} {m : Nat} (ha : s.awake) (hahead : (s.box m).ahead = false) :
    exec (.notBeforeReached m) s = .next s := by
  change execNotBeforeReached m s = _
  simp [execNotBeforeReached, act_awake _ s ha, hahead]

/-! ### Pages held (R102) -/

theorem State.heldUp_department (s : State) {m : Nat} (n : Nat) (hm : m < 64) :
    s.heldUp m n = s.setBox m { s.box m with held := (s.box m).held + n } := if_pos hm

theorem State.heldDown_department (s : State) {m : Nat} (n : Nat) (hm : m < 64) :
    s.heldDown m n = s.setBox m { s.box m with held := (s.box m).held - n } := if_pos hm

theorem State.heldUp_quarantine (s : State) {m : Nat} (n : Nat) (hm : 64 ≤ m) : s.heldUp m n = s :=
  if_neg (Nat.not_lt.2 hm)

theorem State.heldDown_quarantine (s : State) {m : Nat} (n : Nat) (hm : 64 ≤ m) : s.heldDown m n = s :=
  if_neg (Nat.not_lt.2 hm)

/-- Settles O43: every change of a queue is a setQueue, whose report is headReport_eq; where the document enters is
read off the two segments by its class. -/
theorem queueOrder : Obligations.QueueOrder := by
  refine ⟨fun s m slot d hd => ?_, fun s m n =>
    ⟨fun hm => ⟨s.heldUp_department n hm, s.heldDown_department n hm⟩,
      fun hm => ⟨s.heldUp_quarantine n hm, s.heldDown_quarantine n hm⟩⟩⟩
  intro q urgent routine moved
  have hmoved : ∀ l, s.setQueue m l = moved l := fun l => State.headReport_eq _ m q.head? l
  have hcls := State.urgent_iff hd
  refine ⟨hcls, fun hu => ?_, fun hr => ?_, fun hu => ?_, fun hr => ?_, hmoved _, fun due ha hm hhead hdue hmax => ?_⟩
  · rw [State.queueTail, State.atTail_urgent _ (hcls.2 hu), hmoved]
  · rw [State.queueTail, State.atTail_routine _ (mt hcls.1 hr), hmoved]
  · rw [State.queueHead, State.atHead_urgent _ (hcls.2 hu), hmoved]
  · rw [State.queueHead, State.atHead_routine _ (mt hcls.1 hr), hmoved]
  · exact ⟨fun hahead => exec_notBeforeReached_ahead ha hm hahead hhead hd hdue hmax,
      exec_notBeforeReached_reported ha⟩

end Sys2Proof.Machine
end

section
/-! PROOFS. The arbiter's choice: target points, candidates, and the grants of a round (R107, R131, R132). -/

namespace Sys2Proof.Machine

open Sys2Proof.Config

/-! ### The target point of a head (R131) -/

theorem State.readyPoint_iff (s : State) (p : Nat) : s.readyPoint p = true ↔ (s.point p).state = .ready := by
  simp [State.readyPoint]

/-- R131: a resume point that a row still names and that is READY. -/
def State.resumesAt (s : State) (row : MailRow) (d : Doc) (r : Nat) : Prop :=
  d.resume = some r ∧ (row.primary = r ∨ row.alternate = some r) ∧ (s.point r).state = .ready

section Target

variable {s : State} {row : MailRow} {d : Doc}

theorem State.filter_resume_iff (r : Nat) :
    d.resume.filter (fun r => (r == row.primary || row.alternate == some r) && s.readyPoint r) = some r
      ↔ s.resumesAt row d r := by
  simp [Option.filter_eq_some_iff, State.resumesAt, State.readyPoint_iff, eq_comm (a := r)]

theorem State.target_resume {r : Nat} (h : s.resumesAt row d r) : s.target row d = some r := by
  simp only [State.target, (State.filter_resume_iff r).2 h]

theorem State.target_of_no_resume (h : ∀ r, ¬ s.resumesAt row d r) :
    s.target row d = if s.readyPoint row.primary then some row.primary else row.alternate.filter s.readyPoint := by
  have hnone := Option.eq_none_iff_forall_ne_some.2 fun r => mt (State.filter_resume_iff r).1 (h r)
  simp only [State.target, hnone]

end Target

/-! ### Candidates (R107, R131) -/

theorem State.candidate_eq (s : State) (m : Nat) : s.candidate m =
    (s.box m).queue.head?.bind fun slot => (s.mailRow m).bind fun row => (s.doc slot).bind fun d =>
      (s.target row d).bind fun p =>
        if s.mgmt.run = .running ∧ (s.box m).delivering = true ∧ d.notBefore.getD 0 ≤ s.now ∧ (s.point p).lane = none
        then some { box := m, slot := slot, doc := d, point := p } else none := by
  unfold State.candidate
  cases (s.box m).queue.head? with
  | none => rfl
  | some slot =>
    cases s.mailRow m with
    | none => rfl
    | some row =>
      cases hd : s.doc slot with
      | none => simp [hd]
      | some d => cases ht : s.target row d <;> simp [hd, ht]

/-- R107: an absent not-before holds nothing back. -/
theorem notBefore_le_iff (o : Option Nat) (now : Nat) : o.getD 0 ≤ now ↔ ∀ due, o = some due → due ≤ now := by
  cases o <;> simp

theorem State.candidate_iff (s : State) (m : Nat) (g : Grant) : s.candidate m = some g ↔
    g.box = m ∧ (s.box m).queue.head? = some g.slot ∧ s.doc g.slot = some g.doc ∧ s.mgmt.run = .running
      ∧ (s.box m).delivering = true ∧ (∀ due, g.doc.notBefore = some due → due ≤ s.mgmt.uptime)
      ∧ (∃ row, s.mailRow m = some row ∧ s.target row g.doc = some g.point) ∧ (s.point g.point).lane = none := by
  simp only [State.candidate_eq, Option.bind_eq_some_iff, Option.ite_none_right_eq_some, Option.some.injEq,
    ← notBefore_le_iff]
  constructor
  · rintro ⟨slot, hhead, row, hrow, d, hd, p, hp, ⟨hrun, hflag, hdue, hlane⟩, rfl⟩
    exact ⟨rfl, hhead, hd, hrun, hflag, hdue, ⟨row, hrow, hp⟩, hlane⟩
  · rintro ⟨rfl, hhead, hd, hrun, hflag, hdue, ⟨row, hrow, hp⟩, hlane⟩
    exact ⟨g.slot, hhead, row, hrow, g.doc, hd, g.point, hp, ⟨hrun, hflag, hdue, hlane⟩, rfl⟩

theorem State.candidate_box {s : State} {m : Nat} {g : Grant} (h : s.candidate m = some g) : g.box = m :=
  ((s.candidate_iff m g).1 h).1

/-! ### The order of service (R132 step 2) -/

/-- R132: how many mailboxes come between the one last served and mailbox `m`. -/
def turnAfter (last m : Nat) : Nat := (m + 64 - (last + 1) % 64) % 64

theorem turnAfter_add_mod (last : Nat) {k : Nat} (hk : k < 64) : turnAfter last ((last + 1 + k) % 64) = k := by
  unfold turnAfter
  omega

theorem add_turnAfter_mod (last : Nat) {m : Nat} (hm : m < 64) : (last + 1 + turnAfter last m) % 64 = m := by
  unfold turnAfter
  omega

theorem mem_servingOrder (last m : Nat) : m ∈ servingOrder last ↔ m < 64 := by
  simp only [servingOrder, mailboxCount, List.mem_map, List.mem_range]
  constructor
  · rintro ⟨k, -, rfl⟩
    exact Nat.mod_lt _ (by omega)
  · exact fun hm => ⟨turnAfter last m, Nat.mod_lt _ (by omega), add_turnAfter_mod last hm⟩

theorem servingOrder_pairwise (last : Nat) :
    (servingOrder last).Pairwise (fun x y => turnAfter last x ≤ turnAfter last y) := by
  rw [servingOrder, List.pairwise_map]
  refine List.pairwise_lt_range.imp_of_mem fun {j k} hj hk hlt => ?_
  have hj : j < 64 := List.mem_range.1 hj
  have hk : k < 64 := List.mem_range.1 hk
  change turnAfter last ((last + 1 + j) % 64) ≤ turnAfter last ((last + 1 + k) % 64)
  rw [turnAfter_add_mod last hj, turnAfter_add_mod last hk]
  exact hlt.le

/-! ### The grant of a round (R132) -/

/-- The candidates of a round, in the order of service. -/
def State.candidates (s : State) : List Grant := (servingOrder s.mail.lastServed).filterMap s.candidate

theorem State.mem_candidates (s : State) (g : Grant) : g ∈ s.candidates ↔ ∃ m, m < 64 ∧ s.candidate m = some g := by
  simp only [State.candidates, List.mem_filterMap, mem_servingOrder]

theorem State.candidates_pairwise (s : State) :
    s.candidates.Pairwise (fun x y => turnAfter s.mail.lastServed x.box ≤ turnAfter s.mail.lastServed y.box) := by
  refine List.pairwise_filterMap.2 ((servingOrder_pairwise s.mail.lastServed).imp fun hle x hx y hy => ?_)
  rwa [State.candidate_box hx, State.candidate_box hy]

/-- What a search finds in a list that rises by a key comes before everything else that it could find. -/
theorem find?_le_of_pairwise {α : Type} (key : α → Nat) {p : α → Bool} {l : List α} {a : α}
    (hl : l.Pairwise (fun x y => key x ≤ key y)) (hfind : l.find? p = some a) :
    ∀ x ∈ l, p x = true → key a ≤ key x := by
  obtain ⟨-, before, rest, rfl, hbefore⟩ := List.find?_eq_some_iff_append.1 hfind
  intro x hx hp
  rcases List.mem_append.1 hx with hx | hx
  · exact absurd hp (by simpa using hbefore x hx)
  · rcases List.mem_cons.1 hx with rfl | hx
    · exact le_rfl
    · exact (List.pairwise_cons.1 (List.pairwise_append.1 hl).2.1).1 x hx

section Choose

variable {s : State}

theorem State.choose_urgent {g : Grant} (h : s.candidates.find? (fun g => g.doc.cls == .urgent) = some g) :
    s.choose = some g := by
  rw [State.candidates] at h
  simp only [State.choose, h]

theorem State.choose_routine (h : s.candidates.find? (fun g => g.doc.cls == .urgent) = none) :
    s.choose = s.candidates.head? := by
  rw [State.candidates] at h
  simp only [State.choose, h, State.candidates]

theorem State.choose_none_iff (s : State) : s.choose = none ↔ ∀ m, m < 64 → s.candidate m = none := by
  have hempty : s.choose = none ↔ s.candidates = [] := by
    cases hf : s.candidates.find? (fun g => g.doc.cls == .urgent) with
    | none => rw [State.choose_routine hf, List.head?_eq_none_iff]
    | some g => simp [State.choose_urgent hf, List.ne_nil_of_mem (List.mem_of_find?_eq_some hf)]
  rw [hempty, List.eq_nil_iff_forall_not_mem]
  simp only [State.mem_candidates, not_exists, not_and, Option.eq_none_iff_forall_ne_some]
  exact ⟨fun h m hm g => h g m hm, fun h g m hm => h m hm g⟩

/-- R132: the grant chosen is a candidate, URGENT where one is, and first in the order of service of its class. -/
theorem State.choose_wins {g : Grant} (h : s.choose = some g) : g ∈ s.candidates ∧ ∀ x ∈ s.candidates,
    (x.doc.cls = .urgent → g.doc.cls = .urgent)
      ∧ (x.doc.cls = g.doc.cls → turnAfter s.mail.lastServed g.box ≤ turnAfter s.mail.lastServed x.box) := by
  cases hf : s.candidates.find? (fun g => g.doc.cls == .urgent) with
  | some u =>
    obtain rfl : u = g := Option.some.inj ((State.choose_urgent hf).symm.trans h)
    have hurgent : u.doc.cls = .urgent := by simpa using List.find?_some hf
    refine ⟨List.mem_of_find?_eq_some hf, fun x hx => ⟨fun _ => hurgent, fun hcls => ?_⟩⟩
    exact find?_le_of_pairwise (fun x => turnAfter s.mail.lastServed x.box) s.candidates_pairwise hf x hx
      (by simp [hcls, hurgent])
  | none =>
    have hhead : s.candidates.head? = some g := (State.choose_routine hf).symm.trans h
    have hroutine : ∀ x ∈ s.candidates, x.doc.cls ≠ .urgent := by simpa using hf
    have hfirst : s.candidates.find? (fun _ => true) = some g := by
      obtain ⟨rest, hl⟩ := List.head?_eq_some_iff.1 hhead
      rw [hl, List.find?_cons_of_pos rfl]
    exact ⟨List.mem_of_mem_head? hhead, fun x hx => ⟨fun hu => absurd hu (hroutine x hx),
      fun _ => find?_le_of_pairwise (fun x => turnAfter s.mail.lastServed x.box) s.candidates_pairwise hfirst x hx
        rfl⟩⟩

end Choose

/-! ### The rounds (R132) -/

theorem State.idleLane_iff (s : State) (i : Nat) : s.idleLane = some i ↔
    i < s.delivery.lanes.length ∧ (s.lane i).state = .idle ∧ ∀ k, k < i → (s.lane k).state ≠ .idle := by
  rw [State.idleLane, List.findIdx?_eq_some_iff_getElem]
  have hidle : ∀ k (hk : k < s.delivery.lanes.length),
      (s.delivery.lanes[k].state == .idle) = true ↔ (s.lane k).state = .idle := fun k hk => by simp [State.lane, hk]
  constructor
  · rintro ⟨hi, h, hbefore⟩
    exact ⟨hi, (hidle i hi).1 h, fun k hk => mt (hidle k (hk.trans hi)).2 (hbefore k hk)⟩
  · rintro ⟨hi, h, hbefore⟩
    exact ⟨hi, (hidle i hi).2 h, fun k hk => mt (hidle k (hk.trans hi)).1 (hbefore k hk)⟩

theorem State.grants_stop {s : State} (n : Nat) (h : s.idleLane = none ∨ s.choose = none) : s.grants (n + 1) = s := by
  rcases h with h | h
  · simp only [State.grants, h]
  · cases hi : s.idleLane <;> simp only [State.grants, h, hi]

theorem State.grants_succ {s : State} {i : Nat} {g : Grant} (n : Nat) (hi : s.idleLane = some i)
    (hg : s.choose = some g) : s.grants (n + 1) = (s.grant i g).grants n := by
  simp only [State.grants, hi, hg]

theorem exec_arbiterRound_eq {s : State} {t : Trigger} {rest : List Trigger} (ha : s.awake)
    (ht : s.waiting.triggers = t :: rest) :
    exec .arbiterRound s = .next (({ s with waiting := { s.waiting with triggers := rest } } : State).grants 4) := by
  change execArbiterRound s = _
  rw [execArbiterRound, act_awake _ s ha, ht]
  rfl

/-- Settles O44: the target by whether the resume point still stands, a candidate by candidate_iff, the grant of a
round as the first of its class in the order of service (choose_wins). -/
theorem arbiterChooses : Obligations.ArbiterChooses := by
  refine ⟨fun s => ?_, fun s => ?_⟩
  · intro ready
    refine ⟨fun row d => ?_, s.candidate_iff⟩
    intro resumes
    refine ⟨fun r => State.target_resume, fun hno => ?_⟩
    have htarget := State.target_of_no_resume hno
    refine ⟨fun hp => ?_, fun p hp halt hready => ?_, fun hp halt => ?_⟩
    · rw [htarget, if_pos ((s.readyPoint_iff _).2 hp)]
    · rw [htarget, if_neg (mt (s.readyPoint_iff _).1 hp), halt, Option.filter_some_pos ((s.readyPoint_iff p).2 hready)]
    · rw [htarget, if_neg (mt (s.readyPoint_iff _).1 hp), Option.filter_eq_none_iff]
      exact fun p hrow => mt (s.readyPoint_iff p).1 (halt p hrow)
  · intro after
    refine ⟨fun t rest => exec_arbiterRound_eq, fun n => ⟨State.grants_stop n, fun i g => State.grants_succ n⟩, rfl,
      s.idleLane_iff, s.choose_none_iff, fun g hg => ?_⟩
    obtain ⟨hmem, hwins⟩ := State.choose_wins hg
    obtain ⟨m, hm, hcand⟩ := (s.mem_candidates g).1 hmem
    obtain rfl := State.candidate_box hcand
    refine ⟨hm, hcand, fun m x hm hx => ?_⟩
    obtain ⟨hclass, hturn⟩ := hwins x ((s.mem_candidates x).2 ⟨m, hm, hx⟩)
    obtain rfl := State.candidate_box hx
    exact ⟨hclass, hturn⟩

end Sys2Proof.Machine
end

section
/-! PROOFS. The requests on a mailbox: MAILBOX_CONTROL and MAILBOX_READ (R111, R112; log 50). -/

namespace Sys2Proof.Machine

open Sys2Proof.Config

/-! ### The mailbox image (R112) -/

/-- R112: the image of a mailbox with the contents given, in what a state says of its row, its documents and the round
of service. -/
def State.imageWith (s : State) (m : Nat) (b : Mailbox) : MailboxImage :=
  { number := m, inUse := m == 64 || (s.mailRow m).isSome, accepting := b.accepting, delivering := b.delivering
    held := b.held, quota := (s.mailRow m).map MailRow.quota, length := b.queue.length
    urgent := b.queue.countP s.urgent
    heldDocs := s.docList.countP (fun e => e.2.current == m && e.2.state == .held)
    deliveringDocs := s.docList.countP (fun e => e.2.current == m && e.2.state == .delivering)
    lastServed := s.mail.lastServed }

theorem State.mailboxImage_eq (s : State) (m : Nat) : s.mailboxImage m = s.imageWith m (s.box m) := rfl

theorem State.mailboxImage_setBox (s : State) {m : Nat} (b : Mailbox) (hm : m < s.mail.boxes.length) :
    (s.setBox m b).mailboxImage m = s.imageWith m b := by
  rw [State.mailboxImage_eq, State.box_setBox s m b hm]
  rfl

/-! ### MAILBOX_CONTROL (R111) -/

theorem State.mail_taking (s : State) (src : Nat) : (s.taking src).mail = s.mail := by
  simp [State.taking, State.noteTaken]

/-- R107: a delivering flag that was no is reported where it becomes yes. -/
theorem State.flagReport_department (s : State) {m : Nat} (hm : m < 64) :
    s.flagReport m false = s.trigger (.candidate m) := by
  simp [State.flagReport, mailboxCount, hm]

section Control

variable {s : State} {h : ReqHead} {m : Nat} (f : State → State)

theorem State.mailboxControl_badArgument (ht : s.requestTaken h) (hm : 64 < m) :
    s.mailboxControl h m f = (s.taking h.src).reply h .mailboxControl .badArgument .none := by
  have hbad : quarantine < m := hm
  rw [State.mailboxControl, State.request_taken s h _ _ ht, if_pos hbad]

theorem State.mailboxControl_wrongState (ht : s.requestTaken h)
    (hm : m = 64 ∨ (m < 64 ∧ (s.taking h.src).mailRow m = none)) :
    s.mailboxControl h m f = (s.taking h.src).replyMailbox h m .wrongState := by
  have hle : ¬ quarantine < m := by simp only [quarantine]; omega
  have hout : (decide (m = quarantine) || ((s.taking h.src).mailRow m).isNone) = true := by
    rcases hm with rfl | ⟨-, hrow⟩
    · rfl
    · simp [hrow]
  rw [State.mailboxControl, State.request_taken s h _ _ ht, if_neg hle, if_pos hout]

theorem State.mailboxControl_inUse (ht : s.requestTaken h) (hm : m < 64)
    (hrow : ((s.taking h.src).mailRow m).isSome = true) :
    s.mailboxControl h m f = (f (s.taking h.src)).replyMailbox h m .ok := by
  have hle : ¬ quarantine < m := Nat.not_lt.2 hm.le
  have hin : ¬ (decide (m = quarantine) || ((s.taking h.src).mailRow m).isNone) = true := by
    simp [quarantine, hm.ne, Option.isSome_iff_ne_none.1 hrow]
  rw [State.mailboxControl, State.request_taken s h _ _ ht, if_neg hle, if_neg hin]

end Control

theorem exec_mailboxControlRead_eq {s : State} {h : ReqHead} (ht : s.requestTaken h) (m : Nat) :
    exec (.mailboxControlRead h m) s = .next (
      if 64 < m then (s.taking h.src).reply h .mailboxControl .badArgument .none
      else (s.taking h.src).replyMailbox h m .ok) := by
  change execMailboxControlRead h m s = _
  rw [execMailboxControlRead, act_awake _ s ht.1, State.request_taken s h _ _ ht]
  rfl

/-! ### MAILBOX_READ (R112) -/

theorem exec_mailboxRead_eq {s : State} {h : ReqHead} (ht : s.requestTaken h) (m pos count : Nat) :
    exec (.mailboxRead h m pos count) s = .next (
      if m ≤ 64 ∧ pos < 1024 ∧ count ≤ 8 then (s.taking h.src).reply h .mailboxRead .ok
        (.mailboxQueue ((s.taking h.src).mailboxImage m) ((s.taking h.src).queueEntries m pos count))
      else (s.taking h.src).reply h .mailboxRead .badArgument .none) := by
  change execMailboxRead h m pos count s = _
  rw [execMailboxRead, act_awake _ s ht.1, State.request_taken s h _ _ ht]
  rfl

/-- Settles O56: the four actions by the three answers of mailboxControl, the image as the mailbox stands after each;
the two readings by their equations. -/
theorem mailboxRequests : Obligations.MailboxRequests := by
  intro s h m ht a b row image same bad wrong done
  have hexec : ∀ f, act (fun s => s.mailboxControl h m f) s = .next (s.mailboxControl h m f) :=
    fun f => act_awake _ s ht.1
  refine ⟨fun hm => ?_, fun hm => ?_, fun hm => ?_, fun hm hrow hlen => ?_, fun pos count => ⟨fun hbad => ?_, ?_⟩⟩
  · have hbad : ∀ f, act (fun s => s.mailboxControl h m f) s = bad := fun f => by
      rw [hexec, State.mailboxControl_badArgument f ht hm]
    refine ⟨?_, hbad _, hbad _, hbad _, hbad _⟩
    rw [exec_mailboxControlRead_eq ht, if_pos hm]
  · rw [exec_mailboxControlRead_eq ht, if_neg (Nat.not_lt.2 hm)]
    rfl
  · have hwrong : ∀ f, act (fun s => s.mailboxControl h m f) s = wrong := fun f => by
      rw [hexec, State.mailboxControl_wrongState f ht hm]
      rfl
    exact ⟨hwrong _, hwrong _, hwrong _, hwrong _⟩
  · have hbox : m < a.mail.boxes.length := by rwa [State.mail_taking]
    have hdone : ∀ (f : State → State) (x : State) (i : MailboxImage), f a = x → x.mailboxImage m = i →
        act (fun s => s.mailboxControl h m f) s = done x i := by
      rintro f x i rfl rfl
      rw [hexec, State.mailboxControl_inUse f ht hm hrow]
      rfl
    have himage := fun x => a.mailboxImage_setBox x hbox
    refine ⟨hdone _ _ _ rfl (himage _), hdone _ _ _ rfl (himage _), hdone _ _ _ rfl (himage _),
      fun hon => hdone _ a _ (if_pos hon) rfl, fun hoff => ?_⟩
    have hresume : (if b.delivering = true then a else
        (a.setBox m { b with delivering := true }).flagReport m false)
          = (a.setBox m { b with delivering := true }).trigger (.candidate m) := by
      rw [if_neg (by simp [hoff]), State.flagReport_department _ hm]
    exact hdone _ _ _ hresume (himage _)
  · rw [exec_mailboxRead_eq ht, if_neg (by omega)]
  · intro hm hpos hcount
    rw [exec_mailboxRead_eq ht, if_pos ⟨hm, by omega, hcount⟩]
    rfl

end Sys2Proof.Machine
end

section
/-! PROOFS. The requests on one document: DOC_HOLD, DOC_RELEASE, DOC_REROUTE and DOC_PURGE (R25, R113 to R116). -/

namespace Sys2Proof.Machine

open Sys2Proof.Config

/-! ### A reroute of a document that no lane serves (R115) -/

section Reroute

variable {d : Doc} {t : Nat} (s : State) (slot : Nat)

theorem State.rerouteTo_same (ht : d.current = t) : s.rerouteTo slot d t = s := if_pos ht

theorem State.rerouteTo_held (hs : d.state = .held) (ht : d.current ≠ t) :
    s.rerouteTo slot d t = s.rerouteHeld slot d t := by
  simp only [State.rerouteTo, if_neg ht, hs]

theorem State.rerouteTo_queued (hs : d.state = .queued) (ht : d.current ≠ t) :
    s.rerouteTo slot d t = s.rerouteDoc slot d t := by
  simp only [State.rerouteTo, if_neg ht, hs]

/-- R115: a QUEUED document leaves its queue for the tail of the other mailbox, and stays QUEUED. -/
theorem State.rerouteDoc_queued (hs : d.state = .queued) : s.rerouteDoc slot d t =
    ((((((s.unqueue d.current slot).setDoc slot { d with current := t, notBefore := none }).heldDown d.current
      d.pages.length).heldUp t d.pages.length).queueTail t slot).raise .mailboxUnit
        (.docQueued d.receipt t d.pages.length)) := by
  have hdoc : ({ d with state := .queued, current := t, notBefore := none } : Doc)
      = { d with current := t, notBefore := none } := by rw [hs]
  rw [State.rerouteDoc, hdoc]
  rfl

theorem State.rerouteNow_moves (h : ReqHead) {quarantined : Bool} (hq : quarantined = false) :
    s.rerouteNow h slot d t quarantined = (s.rerouteTo slot d t).reply h .docReroute .ok .none := by
  rw [hq]
  rfl

theorem State.rerouteNow_stays (h : ReqHead) {quarantined : Bool} (hq : quarantined = true) :
    s.rerouteNow h slot d t quarantined = s.reply h .docReroute .wrongState .none := by
  rw [hq]
  rfl

end Reroute

section Known

variable {s : State} {h : ReqHead} {r slot : Nat} {d : Doc}

/-! ### DOC_HOLD (R113) -/

theorem exec_docHold_queued (ht : s.requestTaken h) (hr : r ≠ 0) (hd : s.docOf r = some (slot, d))
    (hs : d.state = .queued) :
    exec (.docHold h r) s = .next (((s.taking h.src).holdDoc slot d).reply h .docHold .ok .none) := by
  change execDocHold h r s = _
  rw [execDocHold, act_awake _ s ht.1, State.docRequest_taken s h _ r slot d _ ht hr hd]
  simp only [hs]

theorem exec_docHold_delivering (ht : s.requestTaken h) (hr : r ≠ 0) (hd : s.docOf r = some (slot, d))
    (hs : d.state = .delivering) : exec (.docHold h r) s = .next ((s.taking h.src).defer h .hold r) := by
  change execDocHold h r s = _
  rw [execDocHold, act_awake _ s ht.1, State.docRequest_taken s h _ r slot d _ ht hr hd]
  simp only [hs]

theorem exec_docHold_refused (ht : s.requestTaken h) (hr : r ≠ 0) (hd : s.docOf r = some (slot, d))
    (hs : d.state = .receiving ∨ d.state = .held ∨ d.state = .retained) :
    exec (.docHold h r) s = .next ((s.taking h.src).reply h .docHold .wrongState .none) := by
  change execDocHold h r s = _
  rw [execDocHold, act_awake _ s ht.1, State.docRequest_taken s h _ r slot d _ ht hr hd]
  rcases hs with hs | hs | hs <;> simp only [hs]

/-! ### DOC_RELEASE (R114) -/

theorem exec_docRelease_held (ht : s.requestTaken h) (hr : r ≠ 0) (hd : s.docOf r = some (slot, d))
    (hs : d.state = .held) :
    exec (.docRelease h r) s = .next (
      if d.hold = some .quarantine then ((s.taking h.src).releaseRouted slot d).reply h .docRelease .ok .none
      else ((s.taking h.src).releaseTo slot d d.current).reply h .docRelease .ok .none) := by
  change execDocRelease h r s = _
  rw [execDocRelease, act_awake _ s ht.1, State.docRequest_taken s h _ r slot d _ ht hr hd]
  simp only [hs]

theorem exec_docRelease_queued (ht : s.requestTaken h) (hr : r ≠ 0) (hd : s.docOf r = some (slot, d))
    (hs : d.state = .queued) :
    exec (.docRelease h r) s = .next (
      if d.current = 64 then
        (((s.taking h.src).unqueue 64 slot).releaseRouted slot d).reply h .docRelease .ok .none
      else (s.taking h.src).reply h .docRelease .wrongState .none) := by
  change execDocRelease h r s = _
  rw [execDocRelease, act_awake _ s ht.1, State.docRequest_taken s h _ r slot d _ ht hr hd]
  simp only [hs]
  rfl

theorem exec_docRelease_refused (ht : s.requestTaken h) (hr : r ≠ 0) (hd : s.docOf r = some (slot, d))
    (hs : d.state = .receiving ∨ d.state = .delivering ∨ d.state = .retained) :
    exec (.docRelease h r) s = .next ((s.taking h.src).reply h .docRelease .wrongState .none) := by
  change execDocRelease h r s = _
  rw [execDocRelease, act_awake _ s ht.1, State.docRequest_taken s h _ r slot d _ ht hr hd]
  rcases hs with hs | hs | hs <;> simp only [hs]

/-! ### DOC_REROUTE (R115) -/

/-- R115: an operand of DOC_REROUTE out of its range. -/
theorem docRerouteBad_iff (r t : Nat) : (decide (r = 0) || !decide (t < mailboxCount)) = true ↔ r = 0 ∨ 64 ≤ t := by
  simp only [Bool.or_eq_true, Bool.not_eq_true', decide_eq_true_eq, decide_eq_false_iff_not, Nat.not_lt]
  rfl

theorem docReroute_inRange {t : Nat} (hr : r ≠ 0) (ht : t < 64) : ¬ (decide (r = 0) || !decide (t < mailboxCount)) = true :=
  mt (docRerouteBad_iff r t).1 (by omega)

theorem exec_docReroute_badArgument (ht : s.requestTaken h) {t : Nat} (hbad : r = 0 ∨ 64 ≤ t) :
    exec (.docReroute h r t) s = .next ((s.taking h.src).reply h .docReroute .badArgument .none) := by
  change execDocReroute h r t s = _
  rw [execDocReroute, act_awake _ s ht.1, State.request_taken s h _ _ ht, if_pos ((docRerouteBad_iff r t).2 hbad)]

theorem exec_docReroute_range (ht : s.requestTaken h) (hr : r ≠ 0) {t : Nat} (ht64 : t < 64)
    (hno : (s.taking h.src).docOf r = none ∨ (s.taking h.src).mailRow t = none) :
    exec (.docReroute h r t) s = .next ((s.taking h.src).reply h .docReroute .range .none) := by
  change execDocReroute h r t s = _
  rw [execDocReroute, act_awake _ s ht.1, State.request_taken s h _ _ ht, if_neg (docReroute_inRange hr ht64)]
  rcases hno with hno | hno
  · simp only [hno]
  · cases (s.taking h.src).docOf r <;> simp only [hno]

section Target

variable {t : Nat} (ht : s.requestTaken h) (hr : r ≠ 0) (hd : s.docOf r = some (slot, d)) (ht64 : t < 64)
  (hrow : ((s.taking h.src).mailRow t).isSome = true)

include ht hr hd ht64 hrow

theorem exec_docReroute_queued (hs : d.state = .queued) : exec (.docReroute h r t) s
    = .next ((s.taking h.src).rerouteNow h slot d t (d.current == 64)) := by
  obtain ⟨row, hrow⟩ := Option.isSome_iff_exists.1 hrow
  change execDocReroute h r t s = _
  rw [execDocReroute, act_awake _ s ht.1, State.request_taken s h _ _ ht, if_neg (docReroute_inRange hr ht64)]
  simp only [State.docOf_taking, hd, hrow, hs, quarantine]

theorem exec_docReroute_held (hs : d.state = .held) : exec (.docReroute h r t) s
    = .next ((s.taking h.src).rerouteNow h slot d t (d.hold == some .quarantine)) := by
  obtain ⟨row, hrow⟩ := Option.isSome_iff_exists.1 hrow
  change execDocReroute h r t s = _
  rw [execDocReroute, act_awake _ s ht.1, State.request_taken s h _ _ ht, if_neg (docReroute_inRange hr ht64)]
  simp only [State.docOf_taking, hd, hrow, hs]

theorem exec_docReroute_delivering (hs : d.state = .delivering) :
    exec (.docReroute h r t) s = .next ((s.taking h.src).defer h (.reroute t) r) := by
  obtain ⟨row, hrow⟩ := Option.isSome_iff_exists.1 hrow
  change execDocReroute h r t s = _
  rw [execDocReroute, act_awake _ s ht.1, State.request_taken s h _ _ ht, if_neg (docReroute_inRange hr ht64)]
  simp only [State.docOf_taking, hd, hrow, hs]

theorem exec_docReroute_refused (hs : d.state = .receiving ∨ d.state = .retained) :
    exec (.docReroute h r t) s = .next ((s.taking h.src).reply h .docReroute .wrongState .none) := by
  obtain ⟨row, hrow⟩ := Option.isSome_iff_exists.1 hrow
  change execDocReroute h r t s = _
  rw [execDocReroute, act_awake _ s ht.1, State.request_taken s h _ _ ht, if_neg (docReroute_inRange hr ht64)]
  rcases hs with hs | hs <;> simp only [State.docOf_taking, hd, hrow, hs]

end Target

/-! ### DOC_PURGE (R25) -/

theorem exec_docPurge_receiving (ht : s.requestTaken h) (hr : r ≠ 0) (hd : s.docOf r = some (slot, d))
    (hs : d.state = .receiving) :
    exec (.docPurge h r) s = .next ((s.taking h.src).reply h .docPurge .wrongState .none) := by
  change execDocPurge h r s = _
  rw [execDocPurge, act_awake _ s ht.1, State.docRequest_taken s h _ r slot d _ ht hr hd]
  simp only [hs]

theorem exec_docPurge_delivering (ht : s.requestTaken h) (hr : r ≠ 0) (hd : s.docOf r = some (slot, d))
    (hs : d.state = .delivering) : exec (.docPurge h r) s = .next ((s.taking h.src).defer h .purge r) := by
  change execDocPurge h r s = _
  rw [execDocPurge, act_awake _ s ht.1, State.docRequest_taken s h _ r slot d _ ht hr hd]
  simp only [hs]

theorem exec_docPurge_frees (ht : s.requestTaken h) (hr : r ≠ 0) (hd : s.docOf r = some (slot, d))
    (hs : d.state = .queued ∨ d.state = .held ∨ d.state = .retained) :
    exec (.docPurge h r) s = .next (((s.taking h.src).freeDoc slot d true).reply h .docPurge .ok .none) := by
  change execDocPurge h r s = _
  rw [execDocPurge, act_awake _ s ht.1, State.docRequest_taken s h _ r slot d _ ht hr hd]
  rcases hs with hs | hs | hs <;> simp only [hs]

end Known

/-- Settles O58: each request by the state of the document, as its equations above give it; a number that no record
carries by docRequest, and by the two ranges that DOC_REROUTE tests. -/
theorem documentRequests : Obligations.DocumentRequests := by
  refine ⟨?_, ?_⟩
  · intro s h r slot d ht hr hd a n answer wait why fresh back
    refine ⟨exec_docHold_queued ht hr hd, exec_docHold_delivering ht hr hd, exec_docHold_refused ht hr hd,
      fun hs hq => ?_, fun hs hq => ?_, fun hs h64 => ?_, fun hs => ?_, fun t h64 => ?_, fun t h64 hrow => ?_,
      fun t h64 hrow => ?_,
      exec_docPurge_receiving ht hr hd, exec_docPurge_delivering ht hr hd, exec_docPurge_frees ht hr hd⟩
    · rw [exec_docRelease_held ht hr hd hs, if_neg hq]
      rfl
    · rw [exec_docRelease_held ht hr hd hs, if_pos hq]
      rfl
    · rw [exec_docRelease_queued ht hr hd hs, if_pos h64]
      rfl
    · rcases hs with ⟨hs, h64⟩ | hs
      · rw [exec_docRelease_queued ht hr hd hs, if_neg h64]
      · exact exec_docRelease_refused ht hr hd hs
    · exact exec_docReroute_badArgument ht (.inr h64)
    · exact exec_docReroute_range ht hr h64 (.inr hrow)
    · intro run
      have hqueued : d.state = .queued → run = .next (a.rerouteNow h slot d t (d.current == 64)) :=
        exec_docReroute_queued ht hr hd h64 hrow
      have hheld : d.state = .held → run = .next (a.rerouteNow h slot d t (d.hold == some .quarantine)) :=
        exec_docReroute_held ht hr hd h64 hrow
      refine ⟨fun hs hq hne => ?_, fun hs hq hne => ?_, fun hs heq => ?_, fun hs => ?_,
        exec_docReroute_delivering ht hr hd h64 hrow, exec_docReroute_refused ht hr hd h64 hrow⟩
      · rw [hqueued hs, State.rerouteNow_moves a slot h (by simpa using hq), State.rerouteTo_queued a slot hs hne,
          State.rerouteDoc_queued a slot hs]
      · rw [hheld hs, State.rerouteNow_moves a slot h (by simpa using hq), State.rerouteTo_held a slot hs hne]
        rfl
      · have hmoves : run = answer .docReroute .ok (a.rerouteTo slot d t) := by
          rcases hs with hs | ⟨hs, hq⟩
          · have hne : d.current ≠ 64 := by omega
            rw [hqueued hs, State.rerouteNow_moves a slot h (by simpa using hne)]
          · rw [hheld hs, State.rerouteNow_moves a slot h (by simpa using hq)]
        rw [hmoves, State.rerouteTo_same a slot heq]
      · rcases hs with ⟨hs, hq⟩ | ⟨hs, hq⟩
        · rw [hqueued hs, State.rerouteNow_stays a slot h (by simpa using hq)]
        · rw [hheld hs, State.rerouteNow_stays a slot h (by simpa using hq)]
  · intro s h ht a no
    have hzero : ∀ k f, act (fun s => s.docRequest h k 0 f) s = no k .badArgument := fun k f => by
      rw [act_awake _ s ht.1, State.docRequest_zero ht]
    refine ⟨⟨hzero _ _, hzero _ _, hzero _ _, fun t => exec_docReroute_badArgument ht (.inl rfl)⟩, fun r hr hno => ?_⟩
    have hunknown : ∀ k f, act (fun s => s.docRequest h k r f) s = no k .range := fun k f => by
      rw [act_awake _ s ht.1, State.docRequest_unknown ht k f hr ((State.docOf_taking s h.src r).symm.trans hno)]
    exact ⟨hunknown _ _, hunknown _ _, hunknown _ _, fun t h64 => exec_docReroute_range ht hr h64 (.inl hno)⟩

end Sys2Proof.Machine
end

section
/-! SUPPORT. The part of the state that State.lanesOk reads, in four pieces: how many channels and how many mailboxes
there are, what each lane is to the arbiter, and which lane serves each point. For each operation that reaches one of
the pieces without changing it, one equation for each piece its frame does not give. -/

namespace Sys2Proof.Machine

open Sys2Proof.Config

/-- R128, R129: what a lane is to the arbiter: whether it is IDLE, and what it serves. -/
def Lane.seat (l : Lane) : Bool × Option Job := (l.state == .idle, l.job)

def seatsOf (l : List Lane) : List (Bool × Option Job) := l.map Lane.seat

def serversOf (l : List Point) : List (Option Nat) := l.map Point.lane

theorem seatsOf_set (l : List Lane) (i : Nat) (x : Lane) (h : x.seat = (l.getD i Lane.initial).seat) :
    seatsOf (l.set i x) = seatsOf l := map_set_of_getD Lane.seat l i x Lane.initial h

/-- R129: a write of a lane that leaves its state and what it serves as they are. -/
@[simp] theorem seatsOf_set_same (l : List Lane) (i : Nat) (x : Lane)
    (h : x.state = (l.getD i Lane.initial).state ∧ x.job = (l.getD i Lane.initial).job) :
    seatsOf (l.set i x) = seatsOf l := seatsOf_set l i x (by simp [Lane.seat, h.1, h.2])

@[simp] theorem serversOf_set (l : List Point) (k : Nat) (x : Point) (h : x.lane = (l.getD k Point.initial).lane) :
    serversOf (l.set k x) = serversOf l := map_set_of_getD Point.lane l k x Point.initial h

@[simp] theorem Lane.state_setBuf (l : Lane) (b : BufId) (x : PageBuf) : (l.setBuf b x).state = l.state := by
  cases b <;> rfl

@[simp] theorem Lane.job_setBuf (l : Lane) (b : BufId) (x : PageBuf) : (l.setBuf b x).job = l.job := by
  cases b <;> rfl

theorem State.seat_lane (s : State) (i : Nat) : (s.lane i).seat = (seatsOf s.delivery.lanes).getD i (true, none) := by
  rw [State.lane, List.getD_eq_getElem?_getD, List.getD_eq_getElem?_getD, seatsOf, List.getElem?_map]
  cases s.delivery.lanes[i]? <;> rfl

theorem State.lane_point (s : State) (p : Nat) :
    (s.point p).lane = (serversOf s.delivery.points).getD (p - 1) none := by
  rw [State.point, List.getD_eq_getElem?_getD, List.getD_eq_getElem?_getD, serversOf, List.getElem?_map]
  cases s.delivery.points[p - 1]? <;> rfl

/-! ### Mailboxes -/

@[simp] theorem State.heldUp_boxes (s : State) (m n : Nat) :
    (s.heldUp m n).mail.boxes.length = s.mail.boxes.length := by
  unfold State.heldUp
  split <;> simp

@[simp] theorem State.heldDown_boxes (s : State) (m n : Nat) :
    (s.heldDown m n).mail.boxes.length = s.mail.boxes.length := by
  unfold State.heldDown
  split <;> simp

@[simp] theorem State.setQueue_boxes (s : State) (m : Nat) (queue : List Nat) :
    (s.setQueue m queue).mail.boxes.length = s.mail.boxes.length := by
  simp [State.setQueue]

@[simp] theorem State.queueTail_boxes (s : State) (m slot : Nat) :
    (s.queueTail m slot).mail.boxes.length = s.mail.boxes.length := setQueue_boxes _ _ _

@[simp] theorem State.queueHead_boxes (s : State) (m slot : Nat) :
    (s.queueHead m slot).mail.boxes.length = s.mail.boxes.length := setQueue_boxes _ _ _

@[simp] theorem State.unqueue_boxes (s : State) (m slot : Nat) :
    (s.unqueue m slot).mail.boxes.length = s.mail.boxes.length := setQueue_boxes _ _ _

@[simp] theorem State.openBoxes_boxes (s : State) (ms : List Nat) :
    (s.openBoxes ms).mail.boxes.length = s.mail.boxes.length := by
  induction ms generalizing s with
  | nil => rfl
  | cons m t ih => simp [State.openBoxes, ih]

@[simp] theorem State.freeDoc_boxes (s : State) (slot : Nat) (d : Doc) (purged : Bool) :
    (s.freeDoc slot d purged).mail.boxes.length = s.mail.boxes.length := by
  have hleave : (s.leaveMailbox slot d purged).mail.boxes.length = s.mail.boxes.length := by
    unfold State.leaveMailbox
    repeat' split
    all_goals simp
  simp [State.freeDoc, hleave]

@[simp] theorem State.releaseRetained_boxes (s : State) :
    s.releaseRetained.mail.boxes.length = s.mail.boxes.length := by
  unfold State.releaseRetained
  split <;> simp

/-! ### The answer decision -/

@[simp] theorem State.refuse_channels (s : State) (ch : Nat) (d : Decision) (cause : Cause) (gen : Option Nat)
    (screening : ScreenResult) :
    (s.refuse ch d cause gen screening).calls.channels.length = s.calls.channels.length := by
  rw [State.refuse_eq]
  split <;> simp

@[simp] theorem State.decisionAct_channels (s : State) (ch : Nat) (d : Decision) :
    (s.decisionAct ch d).calls.channels.length = s.calls.channels.length := by
  unfold State.decisionAct State.answeringStep State.answerCall
  split
  case h_6 =>
    split
    · simp
    · next hc => simp [(State.claimSlot_frame _ _ _ _ hc)]
  all_goals
    repeat' split
    all_goals simp

@[simp] theorem State.decideOn_channels (s : State) (ch : Nat) (stop : DecisionStop) :
    (s.decideOn ch stop).calls.channels.length = s.calls.channels.length := by
  unfold State.decideOn
  generalize 8 = n
  induction n generalizing s with
  | zero => rfl
  | succ n ih =>
    unfold State.decisionRun
    repeat' split
    all_goals simp [ih]

/-! ### Channels -/

@[simp] theorem State.setBuf_channels (s : State) (ch : Nat) (b : BufId) (x : Buffer) :
    (s.setBuf ch b x).calls.channels.length = s.calls.channels.length := by
  simp [State.setBuf]

@[simp] theorem State.drop_channels (s : State) (ch : Nat) (cause : Cause) :
    (s.drop ch cause).calls.channels.length = s.calls.channels.length := by
  unfold State.drop
  dsimp only
  split <;> simp

@[simp] theorem State.closeDoc_boxes (s : State) (ch slot : Nat) (d : Doc) (cause : Cause) (cut : Bool) :
    (s.closeDoc ch slot d cause cut).mail.boxes.length = s.mail.boxes.length := by
  unfold State.closeDoc State.queueClosed
  dsimp only
  split <;> simp

@[simp] theorem State.closeCall_shape (s : State) (ch : Nat) (cause : Cause) :
    (s.closeCall ch cause).calls.channels.length = s.calls.channels.length
      ∧ (s.closeCall ch cause).mail.boxes.length = s.mail.boxes.length := by
  unfold State.closeCall
  dsimp only
  repeat' split
  all_goals simp

@[simp] theorem State.takeLoss_shape (s : State) (ch : Nat) :
    (s.takeLoss ch).calls.channels.length = s.calls.channels.length
      ∧ (s.takeLoss ch).mail.boxes.length = s.mail.boxes.length := by
  unfold State.takeLoss State.loseLink
  repeat' split
  all_goals simp

@[simp] theorem State.settle_shape (s : State) (ch : Nat) :
    (s.settle ch).calls.channels.length = s.calls.channels.length
      ∧ (s.settle ch).mail.boxes.length = s.mail.boxes.length := by
  simp [State.settle]

@[simp] theorem State.carryOn_shape (s : State) (ch : Nat) (stop : DecisionStop) :
    (s.carryOn ch stop).calls.channels.length = s.calls.channels.length
      ∧ (s.carryOn ch stop).mail.boxes.length = s.mail.boxes.length := by
  unfold State.carryOn
  dsimp only
  split <;> simp

@[simp] theorem State.restartSilence_channels (s : State) (ch : Nat) :
    (s.restartSilence ch).calls.channels.length = s.calls.channels.length := by
  unfold State.restartSilence
  split <;> simp

@[simp] theorem State.notTaken_channels (s : State) (ch : Nat) :
    (s.notTaken ch).calls.channels.length = s.calls.channels.length := by
  unfold State.notTaken State.channelError
  split <;> simp

@[simp] theorem State.callOpen_channels (s : State) (ch : Nat) (called : Str) (caller : Option Str)
    (stop : DecisionStop) : (s.callOpen ch called caller stop).calls.channels.length = s.calls.channels.length := by
  unfold State.callOpen State.channelError
  split <;> simp

@[simp] theorem State.senderInfo_channels (s : State) (ch : Nat) (ident : Str) :
    (s.senderInfo ch ident).calls.channels.length = s.calls.channels.length := by
  unfold State.senderInfo State.channelError State.stationAction
  dsimp only
  repeat' split
  all_goals simp

@[simp] theorem State.pageStart_channels (s : State) (ch page : Nat) (res : Resolution) (width : Width) :
    (s.pageStart ch page res width).calls.channels.length = s.calls.channels.length := by
  unfold State.pageStart State.channelError State.beginPage
  dsimp only
  repeat' split
  all_goals simp

theorem State.handOver_channels {s t : State} {ch : Nat} {b : BufId} {bytes : List Byte}
    (h : s.handOver ch b bytes = some t) : t.calls.channels.length = s.calls.channels.length := by
  unfold State.handOver at h
  split at h
  · cases h
    rfl
  · split at h
    · cases h
      rfl
    · obtain ⟨u, hu, rfl⟩ := Option.map_eq_some_iff.1 h
      simp [State.beginWrite_frame _ _ _ _ _ _ hu]

@[simp] theorem State.storeFull_channels (s : State) (ch : Nat) (b : BufId) :
    (s.storeFull ch b).calls.channels.length = s.calls.channels.length := by
  simp [State.storeFull]

@[simp] theorem State.placeBytes_channels (s : State) (ch : Nat) (b : BufId) (held kept : List Byte) :
    (s.placeBytes ch b held kept).calls.channels.length = s.calls.channels.length := by
  unfold State.placeBytes
  dsimp only
  split
  · simp
  · split
    · simp
    · next hh => split <;> simp [handOver_channels hh]

@[simp] theorem State.pageData_channels (s : State) (ch seq : Nat) (payload : List Byte) :
    (s.pageData ch seq payload).calls.channels.length = s.calls.channels.length := by
  unfold State.pageData State.takePayload State.sequence State.markPage
  dsimp only
  repeat' split
  all_goals simp

@[simp] theorem State.finalizeIfDone_shape (s : State) (ch : Nat) :
    (s.finalizeIfDone ch).calls.channels.length = s.calls.channels.length
      ∧ (s.finalizeIfDone ch).mail.boxes.length = s.mail.boxes.length := by
  unfold State.finalizeIfDone State.finalize State.resendPage State.joinPage
  dsimp only
  repeat' split
  all_goals simp

@[simp] theorem State.pageEnd_shape (s : State) (ch : Nat) (e : PageEnd) :
    (s.pageEnd ch e).calls.channels.length = s.calls.channels.length
      ∧ (s.pageEnd ch e).mail.boxes.length = s.mail.boxes.length := by
  unfold State.pageEnd
  dsimp only
  split
  · split
    · simp
    · simp
    · split
      · simp
      · next hh => simp [handOver_channels hh, State.handOver_frame _ _ _ _ _ hh]
  · simp

@[simp] theorem State.callClose_shape (s : State) (ch : Nat) (cause : ShelfCause) :
    (s.callClose ch cause).calls.channels.length = s.calls.channels.length
      ∧ (s.callClose ch cause).mail.boxes.length = s.mail.boxes.length := by
  unfold State.callClose State.channelError
  split <;> simp

@[simp] theorem State.writeDone_shape (s : State) (ch : Nat) (b : BufId) (r : Nat) :
    (s.writeDone ch b r).calls.channels.length = s.calls.channels.length
      ∧ (s.writeDone ch b r).mail.boxes.length = s.mail.boxes.length := by
  unfold State.writeDone State.heldDiscard
  dsimp only
  repeat' split
  all_goals simp

/-! ### The request held for a document -/

@[simp] theorem State.holdDoc_boxes (s : State) (slot : Nat) (d : Doc) :
    (s.holdDoc slot d).mail.boxes.length = s.mail.boxes.length := by
  simp [State.holdDoc]

@[simp] theorem State.rerouteDoc_boxes (s : State) (slot : Nat) (d : Doc) (t : Nat) :
    (s.rerouteDoc slot d t).mail.boxes.length = s.mail.boxes.length := by
  simp [State.rerouteDoc, State.moveHeld]

@[simp] theorem State.rerouteTo_boxes (s : State) (slot : Nat) (d : Doc) (t : Nat) :
    (s.rerouteTo slot d t).mail.boxes.length = s.mail.boxes.length := by
  unfold State.rerouteTo State.rerouteHeld State.moveHeld
  repeat' split
  all_goals simp

@[simp] theorem State.releaseRouted_boxes (s : State) (slot : Nat) (d : Doc) :
    (s.releaseRouted slot d).mail.boxes.length = s.mail.boxes.length := by
  simp [State.releaseRouted, State.releaseTo]

@[simp] theorem State.completeDeferred_boxes (s : State) (receipt : Nat) :
    (s.completeDeferred receipt).mail.boxes.length = s.mail.boxes.length := by
  unfold State.completeDeferred State.completeHold State.completeReroute State.completePurge
  repeat' split
  all_goals simp

@[simp] theorem State.completeIf_boxes (s : State) (was : LaneState) (receipt : Nat) :
    (s.completeIf was receipt).mail.boxes.length = s.mail.boxes.length := by
  unfold State.completeIf
  split <;> simp

@[simp] theorem State.handBack_boxes (s : State) (slot : Nat) (d : Doc) (notBefore : Option Nat) :
    (s.handBack slot d notBefore).mail.boxes.length = s.mail.boxes.length := by
  simp [State.handBack]

@[simp] theorem State.afterAttempt_boxes (s : State) (slot : Nat) (d : Doc) :
    (s.afterAttempt slot d).mail.boxes.length = s.mail.boxes.length := by
  unfold State.afterAttempt
  split <;> simp

@[simp] theorem State.delivered_boxes (s : State) (slot : Nat) (d : Doc) :
    (s.delivered slot d).mail.boxes.length = s.mail.boxes.length := by
  unfold State.delivered
  split <;> simp

/-! ### Points -/

@[simp] theorem State.pointState_seats (s : State) (p : Nat) (st : PointState) :
    (s.pointState p st).delivery.lanes = s.delivery.lanes
      ∧ serversOf (s.pointState p st).delivery.points = serversOf s.delivery.points := by
  simp [State.pointState, State.point]

@[simp] theorem State.officeArrival_seats (s : State) (src : Nat) :
    (s.officeArrival src).delivery.lanes = s.delivery.lanes
      ∧ serversOf (s.officeArrival src).delivery.points = serversOf s.delivery.points := by
  unfold State.officeArrival State.frameSeen
  split <;> simp

@[simp] theorem State.countUnsent_seats (s : State) (p n : Nat) :
    (s.countUnsent p n).delivery.lanes = s.delivery.lanes
      ∧ serversOf (s.countUnsent p n).delivery.points = serversOf s.delivery.points := by
  simp [State.countUnsent, State.point]

@[simp] theorem State.returnSlot_seats (s : State) (p slot : Nat) (reason : ReturnReason) :
    (s.returnSlot p slot reason).delivery.lanes = s.delivery.lanes
      ∧ serversOf (s.returnSlot p slot reason).delivery.points = serversOf s.delivery.points := by
  unfold State.returnSlot
  split <;> simp

@[simp] theorem State.returnSlots_seats (s : State) (p : Nat) (slots : List Nat) (reason : ReturnReason) :
    (s.returnSlots p slots reason).delivery.lanes = s.delivery.lanes
      ∧ serversOf (s.returnSlots p slots reason).delivery.points = serversOf s.delivery.points := by
  induction slots generalizing s with
  | nil => exact ⟨rfl, rfl⟩
  | cons x t ih => simp [State.returnSlots, ih]

@[simp] theorem State.pointError_seats (s : State) (p : Nat) :
    (s.pointError p).delivery.lanes = s.delivery.lanes
      ∧ serversOf (s.pointError p).delivery.points = serversOf s.delivery.points := by
  simp [State.pointError, State.point]

@[simp] theorem State.pointOff_seats (s : State) (p : Nat) :
    (s.pointOff p).delivery.lanes = s.delivery.lanes
      ∧ serversOf (s.pointOff p).delivery.points = serversOf s.delivery.points := by
  simp [State.pointOff, State.point]

@[simp] theorem State.failPoint_seats (s : State) (p : Nat) (reason : SuspendReason) :
    (s.failPoint p reason).delivery.lanes = s.delivery.lanes
      ∧ serversOf (s.failPoint p reason).delivery.points = serversOf s.delivery.points := by
  unfold State.failPoint
  dsimp only
  split <;> simp [State.point]

@[simp] theorem State.pointsDown_seats (s : State) (p n : Nat) :
    (s.pointsDown p n).delivery.lanes = s.delivery.lanes
      ∧ serversOf (s.pointsDown p n).delivery.points = serversOf s.delivery.points := by
  induction n generalizing s p with
  | zero => exact ⟨rfl, rfl⟩
  | succ n ih =>
    unfold State.pointsDown
    dsimp only
    split <;> simp [ih]

@[simp] theorem State.pointsRemoved_seats (s : State) (ps : List Nat) :
    (s.pointsRemoved ps).delivery.lanes = s.delivery.lanes
      ∧ serversOf (s.pointsRemoved ps).delivery.points = serversOf s.delivery.points := by
  induction ps generalizing s with
  | nil => exact ⟨rfl, rfl⟩
  | cons p t ih =>
    unfold State.pointsRemoved
    dsimp only
    split <;> simp [ih, State.point]

@[simp] theorem State.cutIntakes_seats (s : State) (rows : List (Nat × PointRow)) :
    (s.cutIntakes rows).delivery.lanes = s.delivery.lanes
      ∧ serversOf (s.cutIntakes rows).delivery.points = serversOf s.delivery.points := by
  induction rows generalizing s with
  | nil => exact ⟨rfl, rfl⟩
  | cons e t ih => simp [State.cutIntakes, State.cutIntake, ih, State.point]

@[simp] theorem State.clearPoint_seats (s : State) (p clear : Nat) :
    (s.clearPoint p clear).delivery.lanes = s.delivery.lanes
      ∧ serversOf (s.clearPoint p clear).delivery.points = serversOf s.delivery.points := by
  unfold State.clearPoint
  split <;> simp [State.point]

/-! ### Lanes -/

@[simp] theorem State.handLane_seats (s : State) (i : Nat) :
    seatsOf (s.handLane i).delivery.lanes = seatsOf s.delivery.lanes
      ∧ (s.handLane i).delivery.points = s.delivery.points := by
  unfold State.handLane
  split <;> simp [State.lane]

@[simp] theorem State.produce_seats (s : State) (i : Nat) (fs : List OfficeFrame) :
    seatsOf (s.produce i fs).delivery.lanes = seatsOf s.delivery.lanes
      ∧ (s.produce i fs).delivery.points = s.delivery.points := by
  simp [State.produce, State.lane]

@[simp] theorem State.laneReads_seats (s : State) (i : Nat) :
    (s.laneReads i).calls = s.calls ∧ seatsOf (s.laneReads i).delivery.lanes = seatsOf s.delivery.lanes
      ∧ (s.laneReads i).delivery.points = s.delivery.points := by
  unfold State.laneReads
  dsimp only
  repeat' split
  all_goals simp [State.lane]

@[simp] theorem State.sendPage_seats (s : State) (i p slot : Nat) (b : BufId) (rest : List BufId) (k : Nat)
    (bytes : List Byte) :
    (s.sendPage i p slot b rest k bytes).calls = s.calls
      ∧ seatsOf (s.sendPage i p slot b rest k bytes).delivery.lanes = seatsOf s.delivery.lanes
      ∧ (s.sendPage i p slot b rest k bytes).delivery.points = s.delivery.points := by
  unfold State.sendPage
  dsimp only
  repeat' split
  all_goals simp [State.lane]

@[simp] theorem State.awaitSlot_seats (s : State) (i p : Nat) :
    seatsOf (s.awaitSlot i p).delivery.lanes = seatsOf s.delivery.lanes
      ∧ (s.awaitSlot i p).delivery.points = s.delivery.points := by
  unfold State.awaitSlot
  dsimp only
  split <;> simp [State.lane]

@[simp] theorem State.laneBegins_seats (s : State) (i : Nat) :
    (s.laneBegins i).calls = s.calls ∧ seatsOf (s.laneBegins i).delivery.lanes = seatsOf s.delivery.lanes
      ∧ serversOf (s.laneBegins i).delivery.points = serversOf s.delivery.points := by
  unfold State.laneBegins State.tryPage State.returnSmall
  dsimp only
  repeat' split
  all_goals simp [State.point]

/-- R129: a lane that goes on is not IDLE before and not after. -/
@[simp] theorem State.laneOn_seats (s : State) (i : Nat) :
    (s.laneOn i).calls = s.calls ∧ seatsOf (s.laneOn i).delivery.lanes = seatsOf s.delivery.lanes
      ∧ serversOf (s.laneOn i).delivery.points = serversOf s.delivery.points := by
  unfold State.laneOn
  split
  · next ht =>
    have hseats : seatsOf ((s.laneReads i).laneBegins i).delivery.lanes = seatsOf s.delivery.lanes := by simp
    have hseat : (((s.laneReads i).laneBegins i).lane i).seat = (s.lane i).seat := by
      rw [State.seat_lane, State.seat_lane, hseats]
    have hbusy : ((s.lane i).state == .idle) = false := by
      cases hst : (s.lane i).state <;> simp [hst, LaneState.transfers] at ht ⊢
    have hderived : ((((s.laneReads i).laneBegins i).lane i).derived == .idle) = false := by
      unfold Lane.derived
      repeat' split
      all_goals rfl
    have hnew : ({ ((s.laneReads i).laneBegins i).lane i with
        state := (((s.laneReads i).laneBegins i).lane i).derived } : Lane).seat
          = (((s.laneReads i).laneBegins i).lane i).seat := by
      have hold := congrArg Prod.fst hseat
      simp only [Lane.seat] at hold ⊢
      rw [hderived, hold, hbusy]
    simp only [State.handLane_seats, State.setLane_delivery, State.setLane_calls, State.handLane_frame,
      State.laneBegins_seats, State.laneReads_seats, true_and]
    exact ⟨(seatsOf_set _ _ _ hnew).trans hseats, trivial⟩
  · simp

@[simp] theorem State.tailSent_seats (s : State) (i : Nat) :
    seatsOf (s.tailSent i).delivery.lanes = seatsOf s.delivery.lanes
      ∧ (s.tailSent i).delivery.points = s.delivery.points := by
  unfold State.tailSent
  dsimp only
  repeat' split
  all_goals simp [State.lane]

@[simp] theorem State.offerSent_seats (s : State) (i : Nat) :
    seatsOf (s.offerSent i).delivery.lanes = seatsOf s.delivery.lanes
      ∧ (s.offerSent i).delivery.points = s.delivery.points := by
  unfold State.offerSent
  dsimp only
  split <;> simp [State.lane]

@[simp] theorem State.ackPage_seats (s : State) (i slot : Nat) (d : Doc) (p : Nat) (b : BufId) (k : Nat) :
    (s.ackPage i slot d p b k).calls = s.calls
      ∧ seatsOf (s.ackPage i slot d p b k).delivery.lanes = seatsOf s.delivery.lanes
      ∧ (s.ackPage i slot d p b k).delivery.points = s.delivery.points := by
  simp [State.ackPage, State.lane]

end Sys2Proof.Machine
end

section
/-! SUPPORT. State.lanesOk as what every command keeps: the two writes that change who serves whom (a grant and the end
of a delivery), and each operation that runs one of them, in the order of the definitions. -/

namespace Sys2Proof.Machine

open Sys2Proof.Config

/-- What every command does to the invariant: it keeps it. -/
def State.KeepsLanes (s t : State) : Prop := s.lanesOk → t.lanesOk

theorem State.KeepsLanes.refl (s : State) : s.KeepsLanes s := id

theorem State.KeepsLanes.trans {s t u : State} (h : s.KeepsLanes t) (k : t.KeepsLanes u) : s.KeepsLanes u := k ∘ h

/-- Where nothing that the invariant reads changes. -/
theorem State.keepsLanes_quiet {s t : State}
    (h : t.calls.channels.length = s.calls.channels.length ∧ t.mail.boxes.length = s.mail.boxes.length
      ∧ t.tables.mailbox = s.tables.mailbox ∧ seatsOf t.delivery.lanes = seatsOf s.delivery.lanes
      ∧ serversOf t.delivery.points = serversOf s.delivery.points) : s.KeepsLanes t := by
  obtain ⟨hc, hb, ht, hl, hp⟩ := h
  have hseat : ∀ i, (t.lane i).seat = (s.lane i).seat := fun i => by rw [seat_lane, seat_lane, hl]
  have hidle : ∀ i, (t.lane i).state = .idle ↔ (s.lane i).state = .idle := fun i => by
    simpa [Lane.seat] using congrArg Prod.fst (hseat i)
  have hjob : ∀ i, (t.lane i).job = (s.lane i).job := fun i => congrArg Prod.snd (hseat i)
  have hserver : ∀ p, (t.point p).lane = (s.point p).lane := fun p => by rw [lane_point, lane_point, hp]
  have hlanes : t.delivery.lanes.length = s.delivery.lanes.length := by
    simpa [seatsOf] using congrArg List.length hl
  have hpoints : t.delivery.points.length = s.delivery.points.length := by
    simpa [serversOf] using congrArg List.length hp
  unfold State.KeepsLanes State.lanesOk State.shapeOk
  simp only [hc, hb, ht, hidle, hjob, hserver, hlanes, hpoints]
  exact id

theorem State.KeepsLanes.quiet {s t u : State} (h : s.KeepsLanes t)
    (q : u.calls.channels.length = t.calls.channels.length ∧ u.mail.boxes.length = t.mail.boxes.length
      ∧ u.tables.mailbox = t.tables.mailbox ∧ seatsOf u.delivery.lanes = seatsOf t.delivery.lanes
      ∧ serversOf u.delivery.points = serversOf t.delivery.points) : s.KeepsLanes u :=
  h.trans (keepsLanes_quiet q)

theorem State.KeepsLanes.behind {s t u : State} (h : t.KeepsLanes u)
    (q : t.calls.channels.length = s.calls.channels.length ∧ t.mail.boxes.length = s.mail.boxes.length
      ∧ t.tables.mailbox = s.tables.mailbox ∧ seatsOf t.delivery.lanes = seatsOf s.delivery.lanes
      ∧ serversOf t.delivery.points = serversOf s.delivery.points) : s.KeepsLanes u :=
  (keepsLanes_quiet q).trans h

/-! ### The beginning and the end of a delivery -/

theorem State.point_setPoint_ne (s : State) {p q : Nat} (x : Point) (hp : 1 ≤ p) (hq : 1 ≤ q) (h : p ≠ q) :
    (s.setPoint p x).point q = s.point q := by
  have hne : p - 1 ≠ q - 1 := by omega
  simp [State.point, List.getElem?_set_ne hne]

/-- Only the four lanes serve anything. -/
theorem State.lanesOk.lt_of_job {s : State} (h : s.lanesOk) {i : Nat} {j : Job} (hj : (s.lane i).job = some j) :
    i < laneCount := by
  obtain ⟨⟨_, _, hlen, _⟩, _⟩ := h
  by_contra hi
  have hout : s.delivery.lanes.length ≤ i := by omega
  simp [State.lane, List.getElem?_eq_none hout, Lane.initial] at hj

theorem State.lanesOk.idle_of_no_job {s : State} (h : s.lanesOk) {i : Nat} (hj : (s.lane i).job = none) :
    (s.lane i).state = .idle := by
  obtain ⟨⟨_, _, hlen, _⟩, _, _, hidle, _⟩ := h
  by_cases hi : i < laneCount
  · exact (hidle i hi).2 hj
  · have hout : s.delivery.lanes.length ≤ i := by omega
    simp [State.lane, List.getElem?_eq_none hout, Lane.initial]

/-- A lane that is not IDLE serves something. -/
theorem State.lanesOk.busy_of_job {s : State} (h : s.lanesOk) {i : Nat} (hj : (s.lane i).job ≠ none) :
    (s.lane i).state ≠ .idle := by
  obtain ⟨j, hj⟩ := Option.ne_none_iff_exists'.1 hj
  have hi := h.lt_of_job hj
  obtain ⟨_, _, _, hidle, _⟩ := h
  simp [hidle i hi, hj]

/-- R152: a lane goes IDLE, and the point it served has no serving lane. -/
theorem State.keepsLanes_vacate {s : State} {i : Nat} {j : Job} {l : Lane} {x : Point} (hj : (s.lane i).job = some j)
    (hidle : l.state = .idle) (hnone : l.job = none) (hx : x.lane = none) :
    s.KeepsLanes ((s.setPoint j.point x).setLane i l) := by
  intro h
  have hi := h.lt_of_job hj
  obtain ⟨⟨hc, hp, hl, hb⟩, hlive, hstaging, hbusy, hserves, hserved⟩ := h
  have hlen : i < s.delivery.lanes.length := by omega
  obtain ⟨h1, h30, hlane⟩ := hserves i hi j hj
  have hother : ∀ k, k ≠ i → ((s.setPoint j.point x).setLane i l).lane k = s.lane k := fun k hk =>
    lane_setLane_ne _ i k l hk.symm
  have hself : ((s.setPoint j.point x).setLane i l).lane i = l := lane_setLane _ i l hlen
  refine ⟨⟨by simpa using hc, by simpa using hp, by simpa using hl, by simpa using hb⟩, hlive, hstaging, ?_, ?_, ?_⟩
  · intro k hk
    by_cases hki : k = i
    · subst hki
      simp [hself, hidle, hnone]
    · rw [hother k hki]
      exact hbusy k hk
  · intro k hk j' hj'
    by_cases hki : k = i
    · subst hki
      simp [hself, hnone] at hj'
    · rw [hother k hki] at hj'
      obtain ⟨h1', h30', hlane'⟩ := hserves k hk j' hj'
      have hne : j.point ≠ j'.point := fun he => hki (by simpa [he, hlane'] using hlane)
      refine ⟨h1', h30', ?_⟩
      exact (congrArg Point.lane (point_setPoint_ne s x h1 h1' hne)).trans hlane'
  · intro p hp1 hp30 k hk
    by_cases hpj : p = j.point
    · have hlt : p - 1 < s.delivery.points.length := by simp only [pointCount] at hp hp30; omega
      have hpoint : ((s.setPoint j.point x).setLane i l).point p = x := hpj ▸ point_setPoint s p x hlt
      simp [hpoint, hx] at hk
    · have hpoint : ((s.setPoint j.point x).setLane i l).point p = s.point p :=
        point_setPoint_ne s x h1 hp1 (Ne.symm hpj)
      rw [hpoint] at hk
      obtain ⟨hk4, j', hj', hp'⟩ := hserved p hp1 hp30 k hk
      have hki : k ≠ i := by
        rintro rfl
        have hjj : j = j' := by simpa [hj] using hj'
        exact hpj (hjj ▸ hp'.symm)
      exact ⟨hk4, j', by rwa [hother k hki], hp'⟩

/-- R133: a lane that serves nothing takes a document for a point that has no serving lane. -/
theorem State.keepsLanes_occupy {s : State} {i : Nat} {j : Job} {l : Lane} {x : Point} (hi : i < laneCount)
    (hfree : (s.lane i).job = none) (h1 : 1 ≤ j.point) (h30 : j.point ≤ pointCount)
    (hpoint : (s.point j.point).lane = none) (hbusy : l.state ≠ .idle) (hj : l.job = some j) (hx : x.lane = some i) :
    s.KeepsLanes ((s.setPoint j.point x).setLane i l) := by
  intro ⟨⟨hc, hp, hl, hb⟩, hlive, hstaging, hidle, hserves, hserved⟩
  have hlen : i < s.delivery.lanes.length := by omega
  have hother : ∀ k, k ≠ i → ((s.setPoint j.point x).setLane i l).lane k = s.lane k := fun k hk =>
    lane_setLane_ne _ i k l hk.symm
  have hself : ((s.setPoint j.point x).setLane i l).lane i = l := lane_setLane _ i l hlen
  have hlt : j.point - 1 < s.delivery.points.length := by simp only [pointCount] at hp h30; omega
  have hthere : ((s.setPoint j.point x).setLane i l).point j.point = x := point_setPoint s j.point x hlt
  refine ⟨⟨by simpa using hc, by simpa using hp, by simpa using hl, by simpa using hb⟩, hlive, hstaging, ?_, ?_, ?_⟩
  · intro k hk
    by_cases hki : k = i
    · subst hki
      simp [hself, hbusy, hj]
    · rw [hother k hki]
      exact hidle k hk
  · intro k hk j' hj'
    by_cases hki : k = i
    · subst hki
      obtain rfl : j = j' := by simpa [hself, hj] using hj'
      exact ⟨h1, h30, by rw [hthere, hx]⟩
    · rw [hother k hki] at hj'
      obtain ⟨h1', h30', hlane'⟩ := hserves k hk j' hj'
      have hne : j.point ≠ j'.point := fun he => by simp [← he, hpoint] at hlane'
      exact ⟨h1', h30', (congrArg Point.lane (point_setPoint_ne s x h1 h1' hne)).trans hlane'⟩
  · intro p hp1 hp30 k hk
    by_cases hpj : j.point = p
    · subst hpj
      obtain rfl : i = k := by simpa [hthere, hx] using hk
      exact ⟨hi, j, by rw [hself, hj], rfl⟩
    · have hsame : ((s.setPoint j.point x).setLane i l).point p = s.point p := point_setPoint_ne s x h1 hp1 hpj
      rw [hsame] at hk
      obtain ⟨hk4, j', hj', hp'⟩ := hserved p hp1 hp30 k hk
      have hki : k ≠ i := by
        rintro rfl
        simp [hfree] at hj'
      exact ⟨hk4, j', by rwa [hother k hki], hp'⟩

/-- A lane between two states that are not IDLE (R134, R154). -/
theorem State.keepsLanes_setLane_busy {s : State} {i : Nat} {l : Lane} (hjob : l.job = (s.lane i).job)
    (hserves : (s.lane i).job ≠ none) (hbusy : l.state ≠ .idle) : s.KeepsLanes (s.setLane i l) := by
  intro h
  have hs := h.busy_of_job hserves
  refine keepsLanes_quiet ⟨by simp, by simp, by simp, ?_, by simp⟩ h
  refine seatsOf_set _ _ _ ?_
  change l.seat = (s.lane i).seat
  simp [Lane.seat, hjob, hbusy, hs]

/-! ### The loaded tables -/

/-- Every row of both copies of the mailbox table names points that exist. -/
def Copies.pointsExist (c : Copies (Nat × MailRow)) : Prop :=
  (∀ e ∈ c.live, MailRow.inRange e.2) ∧ (∀ e ∈ c.staging, MailRow.inRange e.2)

theorem State.keepsLanes_tables (s : State) {u : TableUnit}
    (hu : s.tables.mailbox.pointsExist → u.mailbox.pointsExist) : s.KeepsLanes { s with tables := u } := by
  rintro ⟨hshape, hlive, hstaging, hrest⟩
  obtain ⟨hlive, hstaging⟩ := hu ⟨hlive, hstaging⟩
  exact ⟨hshape, hlive, hstaging, hrest⟩

theorem pointsExist_putRows {rows l : List (Nat × MailRow)} (hr : ∀ e ∈ rows, MailRow.inRange e.2)
    (hl : ∀ e ∈ l, MailRow.inRange e.2) : ∀ e ∈ putRows rows l, MailRow.inRange e.2 := by
  induction rows generalizing l with
  | nil => exact hl
  | cons a t ih =>
    refine ih (fun e he => hr e (List.mem_cons_of_mem _ he)) (fun e he => ?_)
    obtain rfl | he := mem_tablePut he
    · exact hr a List.mem_cons_self
    · exact hl e he

theorem MailRow.inRange_of_ok {e : Nat × MailRow} (h : mailRowOk e = true) : MailRow.inRange e.2 := by
  simp only [mailRowOk, within, Bool.and_eq_true, decide_eq_true_eq] at h
  obtain ⟨⟨⟨⟨_, hprimary⟩, halternate⟩, _⟩, _⟩ := h
  refine ⟨hprimary.1, hprimary.2, fun a ha => ?_⟩
  simpa [ha, optionOk, within] using halternate

/-- R162: a STAGE_PUT inside its ranges puts rows that name points that exist. -/
theorem TableUnit.pointsExist_put {u v : TableUnit} {es : StageEntries} (hok : stageEntriesOk es = true)
    (hput : u.put es = some v) (h : u.mailbox.pointsExist) : v.mailbox.pointsExist := by
  cases es with
  | routing l =>
    obtain ⟨_, heq⟩ := Option.ite_none_right_eq_some.1 hput
    obtain rfl := Option.some.inj heq
    exact h
  | screening l =>
    obtain ⟨_, heq⟩ := Option.ite_none_right_eq_some.1 hput
    obtain rfl := Option.some.inj heq
    exact h
  | mailbox l =>
    obtain rfl := Option.some.inj hput
    simp only [stageEntriesOk, Bool.and_eq_true, List.all_eq_true] at hok
    exact ⟨h.1, pointsExist_putRows (fun e he => MailRow.inRange_of_ok (hok.2 e he)) h.2⟩
  | point l =>
    obtain rfl := Option.some.inj hput
    exact h

theorem TableUnit.pointsExist_clear (u : TableUnit) (t : TableId) (h : u.mailbox.pointsExist) :
    (u.clear t).mailbox.pointsExist := by
  cases t with
  | mailbox => exact ⟨h.1, fun _ he => absurd he List.not_mem_nil⟩
  | _ => exact h

theorem TableUnit.pointsExist_revert (u : TableUnit) (t : TableId) (h : u.mailbox.pointsExist) :
    (u.revert t).mailbox.pointsExist := by
  cases t with
  | mailbox => exact ⟨h.1, h.1⟩
  | _ => exact h

theorem TableUnit.pointsExist_remove (u : TableUnit) (ks : StageKeys) (h : u.mailbox.pointsExist) :
    (u.remove ks).mailbox.pointsExist := by
  cases ks with
  | mailbox l => exact ⟨h.1, fun e he => h.2 e (List.mem_of_mem_filter he)⟩
  | _ => exact h

theorem TableUnit.pointsExist_swap (u : TableUnit) (t : TableId) (h : u.mailbox.pointsExist) :
    (u.swap t).mailbox.pointsExist := by
  cases t with
  | mailbox => exact ⟨h.2, h.2⟩
  | _ => exact h

theorem State.keepsLanes_completeCommit (s : State) (h : ReqHead) (t : TableId) :
    s.KeepsLanes (s.completeCommit h t) := by
  unfold State.completeCommit
  split
  · exact keepsLanes_quiet (by simp)
  · refine State.KeepsLanes.quiet (t := { s.swapEffects t with tables := (s.swapEffects t).tables.swap t }) ?_
      (by simp [State.swapTable])
    exact (keepsLanes_tables _ (TableUnit.pointsExist_swap _ t)).behind (by simp)

/-! ### Lanes -/

theorem State.keepsLanes_endLane (s : State) (i : Nat) : s.KeepsLanes (s.endLane i) := by
  unfold State.endLane
  dsimp only
  split
  · next hnone =>
    intro h
    have hidle := h.idle_of_no_job hnone
    refine keepsLanes_quiet ⟨by simp, by simp, by simp, ?_, by simp⟩ h
    simp only [handLane_seats, trigger_delivery, setLane_delivery]
    refine seatsOf_set _ _ _ ?_
    change _ = (s.lane i).seat
    simp [Lane.seat, hnone, hidle, Lane.ended, Lane.initial]
  · next j hj =>
    exact (keepsLanes_vacate (l := (s.lane i).ended) (x := { s.point j.point with lane := none }) hj rfl rfl rfl).quiet
      (by simp [State.lane])

theorem State.KeepsLanes.endLane {s t : State} (h : s.KeepsLanes t) {i : Nat} : s.KeepsLanes (t.endLane i) :=
  h.trans (keepsLanes_endLane t i)

theorem State.KeepsLanes.completeIf {s t : State} (h : s.KeepsLanes t) {was : LaneState} {receipt : Nat} :
    s.KeepsLanes (t.completeIf was receipt) := h.quiet (by simp)

theorem State.KeepsLanes.completeDeferred {s t : State} (h : s.KeepsLanes t) {receipt : Nat} :
    s.KeepsLanes (t.completeDeferred receipt) := h.quiet (by simp)

theorem State.KeepsLanes.produce {s t : State} (h : s.KeepsLanes t) {i : Nat} {fs : List OfficeFrame} :
    s.KeepsLanes (t.produce i fs) := h.quiet (by simp)

theorem State.KeepsLanes.handLane {s t : State} (h : s.KeepsLanes t) {i : Nat} : s.KeepsLanes (t.handLane i) :=
  h.quiet (by simp)

theorem State.KeepsLanes.laneOn {s t : State} (h : s.KeepsLanes t) {i : Nat} : s.KeepsLanes (t.laneOn i) :=
  h.quiet (by simp)

theorem State.keepsLanes_suspendCounted (s : State) (i : Nat) (reason : SuspendReason) :
    s.KeepsLanes (s.suspendCounted i reason) := by
  unfold State.suspendCounted
  split
  · exact (keepsLanes_quiet (by simp)).endLane.completeIf
  · exact .refl _

theorem State.keepsLanes_suspendUncounted (s : State) (i : Nat) (reason : SuspendReason) :
    s.KeepsLanes (s.suspendUncounted i reason) := by
  unfold State.suspendUncounted
  split
  · exact (keepsLanes_quiet (by simp)).endLane.completeIf
  · exact .refl _

theorem State.keepsLanes_suspendServing (s : State) (p : Nat) (reason : SuspendReason) :
    s.KeepsLanes (s.suspendServing p reason) := by
  unfold State.suspendServing
  split
  · exact .refl _
  · exact keepsLanes_suspendUncounted _ _ _

theorem State.keepsLanes_completeDelivery (s : State) (i slot : Nat) (d : Doc) (p : Nat) :
    s.KeepsLanes (s.completeDelivery i slot d p) := by
  unfold State.completeDelivery
  exact (keepsLanes_quiet (by simp [State.point])).endLane.completeIf

theorem State.keepsLanes_withdrawalMayEnd (s : State) (i : Nat) : s.KeepsLanes (s.withdrawalMayEnd i) := by
  unfold State.withdrawalMayEnd State.endWithdrawal
  dsimp only
  repeat' split
  · exact .refl _
  · exact (keepsLanes_quiet (by simp)).endLane.completeDeferred
  · exact .refl _

/-! ### Delivery frames and lane timers -/

/-- A delivery frame, whatever its point does with it. -/
theorem State.keepsLanes_deliveryFrame (s : State) (ok : Bool) (p : Nat) {f : State → State}
    (hf : ∀ a : State, a.KeepsLanes (f a)) : s.KeepsLanes (s.deliveryFrame ok p f) := by
  unfold State.deliveryFrame
  dsimp only
  split
  · split
    · exact (hf _).behind (by simp)
    · exact keepsLanes_quiet (by simp)
  · exact keepsLanes_quiet (by simp)

theorem State.keepsLanes_atReady (s : State) (p : Nat) {f : State → State} (hf : ∀ a : State, a.KeepsLanes (f a)) :
    s.KeepsLanes (s.atReady p f) := by
  unfold State.atReady
  split
  · exact keepsLanes_quiet (by simp)
  · exact hf _

theorem State.keepsLanes_pointUp (s : State) (p : Nat) : s.KeepsLanes (s.pointUp p) := by
  unfold State.pointUp
  dsimp only
  split
  · exact (keepsLanes_suspendServing _ _ _).behind (by simp [State.point])
  · exact keepsLanes_quiet (by simp [State.point])

theorem State.keepsLanes_pointDown (s : State) (p : Nat) : s.KeepsLanes (s.pointDown p) := by
  unfold State.pointDown
  split
  · exact .refl _
  · exact (keepsLanes_suspendServing _ _ _).behind (by simp)

/-- A lane whose document stands in the table serves it. -/
theorem State.job_of_laneDoc {s : State} {i slot : Nat} {d : Doc} (h : s.laneDoc i = some (slot, d)) :
    ∃ p, (s.lane i).job = some ⟨slot, p⟩ ∧ s.doc slot = some d := by
  unfold State.laneDoc at h
  cases hj : (s.lane i).job with
  | none => simp [hj] at h
  | some j =>
    cases hd : s.doc j.slot with
    | none => simp [hj, hd] at h
    | some e =>
      obtain ⟨rfl, rfl⟩ : j.slot = slot ∧ e = d := by simpa [hj, hd] using h
      exact ⟨j.point, rfl, hd⟩

/-- R157: what an ACCEPT or a DECLINE has to meet. -/
theorem State.offering_iff (s : State) (p receipt i slot : Nat) (d : Doc) :
    s.offering p receipt = some (i, slot, d) ↔ (s.point p).lane = some i ∧ (s.lane i).state = .offering
      ∧ s.laneDoc i = some (slot, d) ∧ d.receipt = receipt := by
  unfold State.offering
  constructor
  · intro h
    split at h
    · cases h
    · next k hk =>
      split at h
      · cases h
      · next e hd =>
        obtain ⟨⟨hst, hr⟩, he⟩ := Option.ite_none_right_eq_some.1 h
        cases he
        exact ⟨hk, hst, hd, hr⟩
  · rintro ⟨hp, hst, hd, hr⟩
    simp [hp, hd, hst, hr]

theorem State.keepsLanes_accepted {s : State} {i slot : Nat} {d : Doc} (hd : s.laneDoc i = some (slot, d)) :
    s.KeepsLanes (s.accepted i d) := by
  obtain ⟨p, hj, _⟩ := job_of_laneDoc hd
  have hserves : ((s.clearSends d.pages).lane i).job ≠ none := fun hnone => by
    rw [State.clearSends] at hnone
    exact Option.some_ne_none _ (hj.symm.trans hnone)
  refine State.KeepsLanes.laneOn ((keepsLanes_quiet (t := s.clearSends d.pages) (by simp)).trans ?_)
  exact keepsLanes_setLane_busy rfl hserves (by simp)

theorem State.keepsLanes_intakePost (s : State) (p slot cap : Nat) : s.KeepsLanes (s.intakePost p slot cap) := by
  unfold State.intakePost State.tryWaiting
  dsimp only
  repeat' split
  all_goals exact keepsLanes_quiet (by simp [State.point])

theorem State.keepsLanes_pageAcked (s : State) (i p : Nat) (b : BufId) (k : Nat) :
    s.KeepsLanes (s.pageAcked i p b k) := by
  unfold State.pageAcked
  split
  · exact .refl _
  · next slot d _ =>
    dsimp only
    refine State.KeepsLanes.behind (t := s.ackPage i slot d p b k) ?_ (by simp)
    split
    · exact .refl _
    · split
      · exact keepsLanes_completeDelivery _ _ _ _ _
      · split <;> exact keepsLanes_quiet (by simp)

theorem State.keepsLanes_pageRefused (s : State) (i : Nat) (b : BufId) (k : Nat) (bytes : List Byte) :
    s.KeepsLanes (s.pageRefused i b k bytes) := by
  unfold State.pageRefused
  dsimp only
  split
  · exact keepsLanes_quiet (by simp [State.lane])
  · split
    · exact keepsLanes_quiet (by simp [State.lane])
    · exact keepsLanes_suspendCounted _ _ _

theorem State.keepsLanes_laneExpiry (s : State) (i : Nat) (timer : Option Nat) (reason : SuspendReason) :
    s.KeepsLanes (s.laneExpiry i timer reason) := by
  unfold State.laneExpiry
  split
  · exact .refl _
  · exact (keepsLanes_suspendCounted _ _ _).behind (by simp)

/-! ### The arbiter -/

/-- R131: the target of a head is a point that its mailbox row names. -/
theorem State.target_named {s : State} {row : MailRow} {d : Doc} {p : Nat} (h : s.target row d = some p) :
    p = row.primary ∨ row.alternate = some p := by
  unfold State.target at h
  dsimp only at h
  split at h
  · next r hr =>
    obtain rfl : r = p := Option.some.inj h
    have hok := (Option.filter_eq_some_iff.1 hr).2
    simp only [Bool.and_eq_true, Bool.or_eq_true, beq_iff_eq] at hok
    exact hok.1
  · split at h
    · exact .inl (Option.some.inj h).symm
    · exact .inr (Option.filter_eq_some_iff.1 h).1

/-- R131: the point of a candidate is one of the 30, and no lane serves it. -/
theorem State.lanesOk.candidate_point {s : State} (h : s.lanesOk) {m : Nat} {g : Grant}
    (hc : s.candidate m = some g) : 1 ≤ g.point ∧ g.point ≤ pointCount ∧ (s.point g.point).lane = none := by
  obtain ⟨_, _, _, _, _, _, ⟨row, hrow, htarget⟩, hfree⟩ := (candidate_iff s m g).1 hc
  obtain ⟨_, hlive, _⟩ := h
  obtain ⟨h1, h30, halt⟩ := hlive _ (mem_of_tableGet hrow)
  obtain hp | ha := target_named htarget
  · rw [hp] at hfree ⊢
    exact ⟨h1, h30, hfree⟩
  · exact ⟨(halt _ ha).1, (halt _ ha).2, hfree⟩

/-- R133: the document of a grant as the grant leaves it. -/
def Grant.offered (g : Grant) : Doc := ({ g.doc with state := .delivering, notBefore := none } : Doc).resumeAt g.point

/-- R132, R133: a grant up to its document: the head leaves its queue and becomes DELIVERING. -/
def State.headTaken (s : State) (g : Grant) : State :=
  ({ s.unqueue g.box g.slot with mail := { (s.unqueue g.box g.slot).mail with lastServed := g.box } } : State).setDoc
    g.slot g.offered

@[simp] theorem State.headTaken_frame (s : State) (g : Grant) :
    (s.headTaken g).calls = s.calls ∧ (s.headTaken g).mail.boxes.length = s.mail.boxes.length
      ∧ (s.headTaken g).store = s.store ∧ (s.headTaken g).journal = s.journal ∧ (s.headTaken g).tables = s.tables
      ∧ (s.headTaken g).mgmt = s.mgmt ∧ (s.headTaken g).delivery = s.delivery ∧ (s.headTaken g).office = s.office := by
  simp [State.headTaken]

/-- R132, R133: a grant is the head taken, then its lane and its point, then the OFFER. -/
theorem State.grant_eq (s : State) (i : Nat) (g : Grant) :
    s.grant i g = ((((s.headTaken g).setPoint g.point { (s.headTaken g).point g.point with lane := some i }).setLane i
      { (s.headTaken g).lane i with state := .offering, job := some ⟨g.slot, g.point⟩ }).produce i
        [(s.headTaken g).offerOf g.offered g.point]).handLane i := rfl

theorem State.keepsLanes_grant {s : State} {i : Nat} {g : Grant} (hi : i < laneCount) (hidle : (s.lane i).job = none)
    (h1 : 1 ≤ g.point) (h30 : g.point ≤ pointCount) (hfree : (s.point g.point).lane = none) :
    s.KeepsLanes (s.grant i g) := by
  rw [State.grant_eq]
  refine ((keepsLanes_quiet (t := s.headTaken g) (by simp)).trans ?_).produce.handLane
  refine keepsLanes_occupy (j := ⟨g.slot, g.point⟩) hi ?_ h1 h30 ?_ (by simp) rfl rfl
  · simpa [State.lane] using hidle
  · simpa [State.point] using hfree

theorem State.keepsLanes_grants (s : State) (n : Nat) : s.KeepsLanes (s.grants n) := by
  induction n generalizing s with
  | zero => exact .refl _
  | succ n ih =>
    unfold State.grants
    split
    · next i g hi hg =>
      intro h
      obtain ⟨m, _, hcand⟩ := (s.mem_candidates g).1 (s.choose_wins hg).1
      obtain ⟨h1, h30, hfree⟩ := h.candidate_point hcand
      obtain ⟨hlt, hidle, _⟩ := (s.idleLane_iff i).1 hi
      have hi4 : i < laneCount := by
        obtain ⟨⟨_, _, hlen, _⟩, _⟩ := h
        omega
      have hjob : (s.lane i).job = none := by
        by_contra hne
        exact h.busy_of_job hne hidle
      exact ih _ (keepsLanes_grant hi4 hjob h1 h30 hfree h)
    · exact .refl _

/-! ### Read completions, withdrawals and the loss of the office link -/

theorem State.keepsLanes_readDone (s : State) (i r pos receipt : Nat) (bytes : List Byte) :
    s.KeepsLanes (s.readDone i r pos receipt bytes) := by
  unfold State.readDone State.dropBlock State.takeBlock
  dsimp only
  split
  · split
    · refine (keepsLanes_withdrawalMayEnd _ i).behind ?_
      split <;> simp [State.lane]
    · split
      · exact keepsLanes_quiet (by simp [State.lane])
      · split <;> exact keepsLanes_quiet (by simp [State.lane])
  · exact (keepsLanes_withdrawalMayEnd _ i).behind (by simp [State.lane])

theorem State.keepsLanes_completeRead (s : State) (i r pos block receipt : Nat) (decay : List (Nat × Byte)) :
    s.KeepsLanes (s.completeRead i r pos block receipt decay) := by
  unfold State.completeRead
  dsimp only
  refine (keepsLanes_readDone _ i r pos receipt _).behind ?_
  split <;> simp

/-- R154: only a lane that serves the document is told to give it up. -/
theorem State.keepsLanes_takeWithdrawal (s : State) (receipt : Nat) : s.KeepsLanes (s.takeWithdrawal receipt) := by
  unfold State.takeWithdrawal State.laneServing
  split
  · exact (KeepsLanes.refl s).completeDeferred
  · next i hi =>
    have hserves : (s.lane i).job ≠ none := by
      intro hnone
      have hfound := List.find?_some hi
      simp [State.laneDoc, hnone] at hfound
    refine State.KeepsLanes.handLane ?_
    exact keepsLanes_setLane_busy rfl hserves (by simp)

theorem State.keepsLanes_lanesDown (s : State) (i n : Nat) : s.KeepsLanes (s.lanesDown i n) := by
  induction n generalizing s i with
  | zero => exact .refl _
  | succ n ih =>
    unfold State.lanesDown
    dsimp only
    split
    · exact ih _ _
    · exact (keepsLanes_suspendUncounted _ _ _).trans (ih _ _)

theorem State.keepsLanes_officeDown (s : State) : s.KeepsLanes s.officeDown := by
  unfold State.officeDown
  exact (keepsLanes_lanesDown _ 0 laneCount).behind (by simp)

/-! ### Resets and the reports of the Office Port -/

/-- R122, R128, R160: after a reset no lane serves anything and no row stands in the mailbox table. -/
theorem State.lanesOk_afterReset (pending : List Instr) (mem : List Host.Cell) (m : Management) :
    (State.afterReset pending mem m).lanesOk := by
  have hlane : ∀ i, (State.afterReset pending mem m).lane i = Lane.initial := fun i => by
    simp [State.lane, State.afterReset, List.getElem?_replicate]
    split <;> rfl
  have hpoint : ∀ p, (State.afterReset pending mem m).point p = Point.initial := fun p => by
    simp [State.point, State.afterReset, List.getElem?_replicate]
    split <;> rfl
  refine ⟨⟨rfl, rfl, rfl, rfl⟩, fun e he => absurd he List.not_mem_nil, fun e he => absurd he List.not_mem_nil,
    fun i _ => ?_, fun i _ j hj => ?_, fun p _ _ i hi => ?_⟩
  · simp [hlane, Lane.initial]
  · simp [hlane, Lane.initial] at hj
  · simp [hpoint, Point.initial] at hi

theorem State.keepsLanes_laneFrameSent (s : State) (i : Nat) (f : OfficeFrame) :
    s.KeepsLanes (s.laneFrameSent i f) := by
  unfold State.laneFrameSent State.withdrawSent
  split
  · exact keepsLanes_quiet (by simp)
  · exact keepsLanes_quiet (by simp)
  · exact (keepsLanes_withdrawalMayEnd _ i).behind (by simp [State.lane])
  · exact .refl _

theorem State.keepsLanes_laneSent (s : State) (i : Nat) (f : OfficeFrame) : s.KeepsLanes (s.laneSent i f) := by
  have hfree : s.KeepsLanes (s.setLane i { s.lane i with pending := .none }) := keepsLanes_quiet (by simp [State.lane])
  unfold State.laneSent
  dsimp only
  split
  · exact (hfree.trans (keepsLanes_laneFrameSent _ i f)).laneOn
  · exact hfree.laneOn

theorem State.keepsLanes_replyDone (s : State) (restart : Bool) : s.KeepsLanes (s.replyDone restart) := by
  unfold State.replyDone
  split
  · exact fun _ => lanesOk_afterReset _ _ _
  · exact keepsLanes_quiet (by simp)

theorem State.keepsLanes_sentTo (s : State) (h : Hander) (f : OfficeFrame) : s.KeepsLanes (s.sentTo h f) := by
  unfold State.sentTo
  split
  · exact keepsLanes_laneSent _ _ _
  · exact keepsLanes_replyDone _ _
  · exact keepsLanes_quiet (by simp)
  · exact .refl _

end Sys2Proof.Machine
end

section
/-! PROOFS. Every command, and so every step, keeps the lanes and the points in agreement (R128, R129). -/

namespace Sys2Proof.Machine

open Sys2Proof.Config

theorem State.keepsLanes_act {f : State → State} {s t : State} (h : act f s = .next t) (hf : s.KeepsLanes (f s)) :
    s.KeepsLanes t := by
  unfold act at h
  split at h
  · cases h
    exact .refl _
  · cases h
    exact hf

/-- A frame for a channel, whatever the channel does with it. -/
theorem State.keepsLanes_lineFrame (s : State) (ok : Bool) (ch : Nat) {f : State → State}
    (hf : ∀ a : State, a.KeepsLanes (f a)) : s.KeepsLanes (s.lineFrame ok ch f) := by
  unfold State.lineFrame
  split
  · exact (hf _).behind (by simp)
  · exact keepsLanes_quiet (by simp)

/-- A management request, whatever it does once it has the slot. -/
theorem State.keepsLanes_request (s : State) (h : ReqHead) (k : ReqKind) {f : State → State}
    (hf : ∀ a : State, a.KeepsLanes (f a)) : s.KeepsLanes (s.request h k f) := by
  unfold State.request State.answering State.taking
  repeat' split
  · exact keepsLanes_quiet (by simp)
  · exact keepsLanes_quiet (by simp)
  · exact keepsLanes_quiet (by simp)
  · exact (hf _).behind (by simp)

theorem State.keepsLanes_docRequest (s : State) (h : ReqHead) (k : ReqKind) (receipt : Nat)
    {f : State → Nat → Doc → State} (hf : ∀ (a : State) (slot : Nat) (d : Doc), a.KeepsLanes (f a slot d)) :
    s.KeepsLanes (s.docRequest h k receipt f) := by
  refine keepsLanes_request s h k fun a => ?_
  repeat' split
  · exact keepsLanes_quiet (by simp)
  · exact keepsLanes_quiet (by simp)
  · exact hf _ _ _

theorem State.keepsLanes_mailboxControl (s : State) (h : ReqHead) (m : Nat) {f : State → State}
    (hf : ∀ a : State, a.KeepsLanes (f a)) : s.KeepsLanes (s.mailboxControl h m f) := by
  refine keepsLanes_request s h .mailboxControl fun a => ?_
  repeat' split
  · exact keepsLanes_quiet (by simp)
  · exact keepsLanes_quiet (by simp [State.replyMailbox])
  · exact (hf a).quiet (by simp [State.replyMailbox])

/-! ### Commands of the line port and the memory port -/

theorem State.keepsLanes_execChannelIntakeAbort {s t : State} {ch : Nat} (h : execChannelIntakeAbort ch s = .next t) :
    s.KeepsLanes t := by
  refine keepsLanes_act h ?_
  dsimp only
  repeat' split
  all_goals exact keepsLanes_quiet (by simp)

theorem State.keepsLanes_execWriteCompletion {s t : State} (h : execWriteCompletion s = .next t) : s.KeepsLanes t := by
  unfold execWriteCompletion at h
  split at h
  · split at h
    · exact keepsLanes_act h (keepsLanes_quiet (by simp [State.completeWrite]))
    · cases h
  · exact keepsLanes_act h (.refl _)

theorem State.keepsLanes_execReadCompletion {s t : State} {decay : List (Nat × Byte)}
    (h : execReadCompletion decay s = .next t) : s.KeepsLanes t := by
  unfold execReadCompletion at h
  split at h
  · split at h
    · exact keepsLanes_act h (keepsLanes_completeRead _ _ _ _ _ _ _)
    · cases h
  · exact keepsLanes_act h (.refl _)

/-! ### Commands of the delivery points, the lanes and the Office Port -/

theorem State.keepsLanes_execAccept {s t : State} {p receipt : Nat} (h : execAccept p receipt s = .next t) :
    s.KeepsLanes t := by
  refine keepsLanes_act h (keepsLanes_deliveryFrame _ _ _ fun a => keepsLanes_atReady _ _ fun b => ?_)
  split
  · exact keepsLanes_quiet (by simp)
  · next i slot d ho =>
    obtain ⟨_, _, hd, _⟩ := (b.offering_iff p receipt i slot d).1 ho
    exact keepsLanes_accepted hd

theorem State.keepsLanes_execDecline {s t : State} {p receipt retry : Nat}
    (h : execDecline p receipt retry s = .next t) : s.KeepsLanes t := by
  refine keepsLanes_act h (keepsLanes_deliveryFrame _ _ _ fun a => keepsLanes_atReady _ _ fun b => ?_)
  split
  · exact keepsLanes_quiet (by simp)
  · exact (keepsLanes_quiet (by simp)).endLane

theorem State.keepsLanes_execPageAck {s t : State} {p slot : Nat} (h : execPageAck p slot s = .next t) :
    s.KeepsLanes t := by
  refine keepsLanes_act h (keepsLanes_deliveryFrame _ _ _ fun a => keepsLanes_atReady _ _ fun b => ?_)
  split
  · exact keepsLanes_quiet (by simp)
  · exact keepsLanes_pageAcked _ _ _ _ _

theorem State.keepsLanes_execPageNak {s t : State} {p slot : Nat} (h : execPageNak p slot s = .next t) :
    s.KeepsLanes t := by
  refine keepsLanes_act h (keepsLanes_deliveryFrame _ _ _ fun a => keepsLanes_atReady _ _ fun b => ?_)
  split
  · exact keepsLanes_quiet (by simp)
  · exact keepsLanes_pageRefused _ _ _ _ _

theorem State.keepsLanes_execFrameSentReport {s t : State} (h : execFrameSentReport s = .next t) : s.KeepsLanes t := by
  refine keepsLanes_act h ?_
  split
  · exact .refl _
  · exact (keepsLanes_sentTo _ _ _).behind (by simp)

theorem State.keepsLanes_execFrameDiscardedReport {s t : State} {dest : Reportee}
    (h : execFrameDiscardedReport dest s = .next t) : s.KeepsLanes t := by
  refine keepsLanes_act h ?_
  split
  · split
    · exact (keepsLanes_quiet (by simp [State.laneDiscarded, State.lane])).laneOn
    · exact .refl _
  · split
    · exact (keepsLanes_replyDone _ _).behind (by simp)
    · exact keepsLanes_quiet (by simp)
    · exact .refl _

theorem State.keepsLanes_execOfficeSilenceExpiry {s t : State} (h : execOfficeSilenceExpiry s = .next t) :
    s.KeepsLanes t := by
  refine keepsLanes_act h ?_
  split
  · exact .refl _
  · exact (keepsLanes_officeDown _).behind (by simp)

theorem State.keepsLanes_execArbiterRound {s t : State} (h : execArbiterRound s = .next t) : s.KeepsLanes t := by
  refine keepsLanes_act h ?_
  split
  · exact .refl _
  · exact (keepsLanes_grants _ _).behind (by simp)

theorem State.keepsLanes_execWithdrawalRequest {s t : State} (h : execWithdrawalRequest s = .next t) :
    s.KeepsLanes t := by
  refine keepsLanes_act h ?_
  split
  · exact (keepsLanes_takeWithdrawal _ _).behind (by simp)
  · exact .refl _

theorem State.keepsLanes_execCommitCompletion {s t : State} (h : execCommitCompletion s = .next t) :
    s.KeepsLanes t := by
  refine keepsLanes_act h ?_
  split
  · exact keepsLanes_completeCommit _ _ _
  · exact .refl _

/-! ### Requests that reach the tables or a document -/

theorem State.keepsLanes_execStagePut {s t : State} {r : ReqHead} {es : StageEntries}
    (h : execStagePut r es s = .next t) : s.KeepsLanes t := by
  refine keepsLanes_act h (keepsLanes_request _ _ _ fun a => ?_)
  split
  · next hok =>
    split
    · exact keepsLanes_quiet (by simp)
    · next hput => exact (keepsLanes_tables a (TableUnit.pointsExist_put hok hput)).quiet (by simp [State.staged])
  · exact keepsLanes_quiet (by simp)

theorem State.keepsLanes_execStageRemove {s t : State} {r : ReqHead} {ks : StageKeys}
    (h : execStageRemove r ks s = .next t) : s.KeepsLanes t := by
  refine keepsLanes_act h (keepsLanes_request _ _ _ fun a => ?_)
  split
  · exact (keepsLanes_tables a (TableUnit.pointsExist_remove a.tables ks)).quiet (by simp)
  · exact keepsLanes_quiet (by simp)

theorem State.keepsLanes_execDocRelease {s t : State} {r : ReqHead} {receipt : Nat}
    (h : execDocRelease r receipt s = .next t) : s.KeepsLanes t := by
  refine keepsLanes_act h (keepsLanes_docRequest _ _ _ _ fun a slot d => ?_)
  repeat' split
  all_goals exact keepsLanes_quiet (by simp [State.releaseTo])

theorem State.keepsLanes_execDocReroute {s t : State} {r : ReqHead} {receipt target : Nat}
    (h : execDocReroute r receipt target s = .next t) : s.KeepsLanes t := by
  refine keepsLanes_act h (keepsLanes_request _ _ _ fun a => ?_)
  unfold State.rerouteNow State.defer
  repeat' split
  all_goals exact keepsLanes_quiet (by simp)

/-! ### Every command -/

/-- Every command keeps the lanes and the points in agreement. -/
theorem exec_keepsLanes {c : Instr} {s t : State} (h : exec c s = .next t) : s.KeepsLanes t := by
  cases c <;> dsimp only [exec] at h
  case callOpen ch part =>
    refine State.keepsLanes_act h ?_
    split
    · exact State.keepsLanes_lineFrame _ _ _ fun a => State.keepsLanes_quiet (by simp)
    · exact State.keepsLanes_quiet (by simp)
  case senderInfo | pageStart | pageData | pageEnd | callClose =>
    exact State.keepsLanes_act h (State.keepsLanes_lineFrame _ _ _ fun a => State.keepsLanes_quiet (by simp))
  case channelIntakeAbort ch => exact State.keepsLanes_execChannelIntakeAbort h
  case writeCompletion => exact State.keepsLanes_execWriteCompletion h
  case readCompletion decay => exact State.keepsLanes_execReadCompletion h
  case pointUp p =>
    exact State.keepsLanes_act h (State.keepsLanes_deliveryFrame _ _ _ fun a => a.keepsLanes_pointUp _)
  case pointDown p =>
    exact State.keepsLanes_act h (State.keepsLanes_deliveryFrame _ _ _ fun a => a.keepsLanes_pointDown _)
  case accept p receipt => exact State.keepsLanes_execAccept h
  case decline p receipt retry => exact State.keepsLanes_execDecline h
  case intakePost p slot cap =>
    exact State.keepsLanes_act h (State.keepsLanes_deliveryFrame _ _ _ fun a =>
      a.keepsLanes_atReady _ fun b => b.keepsLanes_intakePost _ _ _)
  case pageAck p slot => exact State.keepsLanes_execPageAck h
  case pageNak p slot => exact State.keepsLanes_execPageNak h
  case officeSilenceExpiry => exact State.keepsLanes_execOfficeSilenceExpiry h
  case frameSentReport => exact State.keepsLanes_execFrameSentReport h
  case frameDiscardedReport dest => exact State.keepsLanes_execFrameDiscardedReport h
  case lineSilenceExpiry =>
    refine State.keepsLanes_act h ?_
    split <;> exact State.keepsLanes_quiet (by simp [State.lineDown])
  case allIdleReport =>
    refine State.keepsLanes_act h ?_
    dsimp only
    repeat' split
    all_goals exact State.keepsLanes_quiet (by simp)
  case acceptTimerExpiry l => exact State.keepsLanes_act h (s.keepsLanes_laneExpiry _ _ _)
  case ackTimerExpiry l buf => exact State.keepsLanes_act h (s.keepsLanes_laneExpiry _ _ _)
  case intakeWaitExpiry l => exact State.keepsLanes_act h (s.keepsLanes_laneExpiry _ _ _)
  case arbiterRound => exact State.keepsLanes_execArbiterRound h
  case withdrawalRequest => exact State.keepsLanes_execWithdrawalRequest h
  case commitCompletion => exact State.keepsLanes_execCommitCompletion h
  case powerOnReset =>
    cases h
    exact fun _ => State.lanesOk_afterReset s.pending s.store.mem (Management.afterReset .powerOn ⟨0, 0⟩ false)
  case pinResetAssert =>
    unfold execPinResetAssert at h
    split at h
    · cases h; exact .refl _
    · cases h
      exact fun _ => State.lanesOk_afterReset s.pending s.store.mem (Management.afterReset .pin ⟨0, 0⟩ false)
  case pinResetRelease =>
    unfold execPinResetRelease at h
    split at h
    · cases h; exact .refl _
    · cases h; exact fun _ => State.lanesOk_afterReset _ _ _
  case unknownRequest r kind =>
    refine State.keepsLanes_act h ?_
    unfold State.answering
    dsimp only
    split <;> exact State.keepsLanes_quiet (by simp)
  case stageClear r t =>
    exact State.keepsLanes_act h (s.keepsLanes_request _ _ fun a =>
      (a.keepsLanes_tables (a.tables.pointsExist_clear t)).quiet (by simp [State.staged]))
  case stageRevert r t =>
    exact State.keepsLanes_act h (s.keepsLanes_request _ _ fun a =>
      (a.keepsLanes_tables (a.tables.pointsExist_revert t)).quiet (by simp [State.staged]))
  case stagePut r entries => exact State.keepsLanes_execStagePut h
  case stageRemove r keys => exact State.keepsLanes_execStageRemove h
  case mailboxOpen | mailboxClose | mailboxPause =>
    exact State.keepsLanes_act h (s.keepsLanes_mailboxControl _ _ fun a => State.keepsLanes_quiet (by simp))
  case mailboxResume r m =>
    refine State.keepsLanes_act h (s.keepsLanes_mailboxControl _ _ fun a => ?_)
    split <;> exact State.keepsLanes_quiet (by simp)
  case docRead r receipt =>
    exact State.keepsLanes_act h (s.keepsLanes_docRequest _ _ _ fun a slot d => State.keepsLanes_quiet (by simp))
  case docHold | docPurge =>
    refine State.keepsLanes_act h (s.keepsLanes_docRequest _ _ _ fun a slot d => ?_)
    split <;> exact State.keepsLanes_quiet (by simp)
  case docRelease r receipt => exact State.keepsLanes_execDocRelease h
  case docReroute r receipt target => exact State.keepsLanes_execDocReroute h
  case readStatus | readFlags | clearFlags | setParameters | readParameters | setClock | setReceiptBase | ackRestart
  | restart | intakeOpen | intakeDrain | intakeAbort | deliveryRun | deliveryStop | channelRead | channelEnable
  | channelDisable | channelClearErrors | stageRead | tableRead | commit | mailboxControlRead | mailboxRead | pointRead
  | docList | docPages | journalRead | journalRelease =>
    refine State.keepsLanes_act h (s.keepsLanes_request _ _ fun a => ?_)
    repeat' split
    all_goals exact State.keepsLanes_quiet (by simp [State.replyMailbox, State.abortAll])
  all_goals
    refine State.keepsLanes_act h ?_
    repeat' split
    all_goals exact State.keepsLanes_quiet (by simp)

/-- Every step keeps them: a command, or a millisecond of the reference clock. -/
theorem step_keepsLanes {s t : State} (h : step s = .next t) : s.KeepsLanes t := by
  unfold step at h
  split at h
  · cases h
    unfold tick
    split
    · exact .refl _
    · exact State.keepsLanes_quiet (by simp)
  · exact (exec_keepsLanes h).behind (by simp)

/-- Settles O8: every step keeps it, by step_keepsLanes. -/
theorem oneLaneServesOnePoint : Obligations.OneLaneServesOnePoint :=
  fun _ _ hs h => step_keepsLanes h hs

end Sys2Proof.Machine
end

section
/-! SUPPORT. What a frame that arrives at the Office Port does before its own effect (section 7.1): the link, the frame
seen of its point, and the three ways out of a delivery frame. -/

namespace Sys2Proof.Machine

open Sys2Proof.Config

theorem State.setPoint_setPoint (s : State) (p : Nat) (x y : Point) :
    (s.setPoint p x).setPoint p y = s.setPoint p y := by
  simp [State.setPoint]

theorem State.setLane_setLane (s : State) (i : Nat) (l m : Lane) : (s.setLane i l).setLane i m = s.setLane i m := by
  simp [State.setLane]

theorem pointOk_iff (p : Nat) : pointOk p = true ↔ 1 ≤ p ∧ p ≤ 30 := by
  simp only [pointOk, within, Bool.and_eq_true, decide_eq_true_eq]
  exact Iff.rfl

theorem State.setPoint_beyond {s : State} {p : Nat} (x : Point) (h : s.delivery.points.length ≤ p - 1) :
    s.setPoint p x = s := by
  simp [State.setPoint, List.set_eq_of_length_le h]

/-- A point that is not as after a reset has a context. -/
theorem State.point_ne_offline {s : State} {p : Nat} (h : (s.point p).state ≠ .offline) :
    p - 1 < s.delivery.points.length := by
  by_contra hlen
  exact h (by simp [State.point, List.getElem?_eq_none (Nat.le_of_not_lt hlen), Point.initial])

/-! ### The link and the frame seen (R117, R119) -/

theorem State.officeGood_eq (s : State) : s.officeGood = { s with
    office := { s.office with link := .up, silence := some (s.mgmt.uptime + 3000) }
    waiting := { s.waiting with portReports :=
      if s.office.link = .down then s.waiting.portReports ++ [.link .up] else s.waiting.portReports } } := by
  cases h : s.office.link <;> simp only [State.officeGood, h] <;> rfl

@[simp] theorem State.officeGood_delivery (s : State) : s.officeGood.delivery = s.delivery := by
  rw [State.officeGood_eq]

@[simp] theorem State.officeGood_occurrences (s : State) :
    s.officeGood.waiting.occurrences = s.waiting.occurrences := by
  rw [State.officeGood_eq]

theorem State.officeGood_point (s : State) (p : Nat) : s.officeGood.point p = s.point p := by
  simp [State.point]

theorem State.officeGood_link (s : State) : s.officeGood.office.link = .up := by
  rw [State.officeGood_eq]

theorem State.officeArrival_stalled {s : State} {p : Nat} (hp : pointOk p = true) (h : (s.point p).state = .stalled) :
    s.officeArrival p = (s.officeGood.pointState p .ready).trigger (.pointReady p) := by
  unfold State.officeArrival State.frameSeen
  rw [State.officeGood_point, if_pos ⟨hp, h⟩]

theorem State.officeArrival_seen {s : State} {p : Nat} (h : pointOk p = true → (s.point p).state ≠ .stalled) :
    s.officeArrival p = s.officeGood := by
  unfold State.officeArrival State.frameSeen
  rw [State.officeGood_point, if_neg fun hp => h hp.1 hp.2]

/-- R119: what a frame seen leaves of its point. -/
theorem State.point_officeArrival (s : State) {p : Nat} (hp : pointOk p = true) : (s.officeArrival p).point p
    = { s.point p with state := if (s.point p).state = .stalled then .ready else (s.point p).state } := by
  by_cases h : (s.point p).state = .stalled
  · have hlen : p - 1 < s.officeGood.delivery.points.length := by
      simpa using State.point_ne_offline (s := s) (p := p) (by simp [h])
    rw [State.officeArrival_stalled hp h, if_pos h]
    exact (State.point_setPoint _ p _ hlen).trans (by rw [State.officeGood_point])
  · rw [State.officeArrival_seen fun _ => h, if_neg h, State.officeGood_point]

theorem State.point_officeArrival_offline (s : State) {p : Nat} (hp : pointOk p = true) :
    ((s.officeArrival p).point p).state = .offline ↔ (s.point p).state = .offline := by
  rw [State.point_officeArrival s hp]
  cases (s.point p).state <;> simp

theorem State.server_officeArrival (s : State) (src p : Nat) :
    ((s.officeArrival src).point p).lane = (s.point p).lane := by
  simp [State.lane_point]

theorem State.pointCount_officeArrival (s : State) (src : Nat) :
    (s.officeArrival src).delivery.points.length = s.delivery.points.length := by
  have h := congrArg List.length (State.officeArrival_seats s src).2
  simpa [serversOf] using h

theorem State.link_officeArrival (s : State) (src : Nat) : (s.officeArrival src).office.link = .up := by
  unfold State.officeArrival State.frameSeen
  split <;> simp [State.pointState, State.officeGood_link]

theorem State.offering_officeArrival (s : State) (src p receipt : Nat) :
    (s.officeArrival src).offering p receipt = s.offering p receipt := by
  simp only [State.offering, State.server_officeArrival, State.laneDoc_officeArrival, State.lane_officeArrival]

theorem State.outstandingAt_officeArrival (s : State) (src p slot : Nat) :
    (s.officeArrival src).outstandingAt p slot = s.outstandingAt p slot := by
  simp only [State.outstandingAt, State.server_officeArrival, State.lane_officeArrival]

/-! ### The ways out of a delivery frame (R118, R124) -/

theorem State.deliveryFrame_bad (s : State) {ok : Bool} (p : Nat) (f : State → State) (hok : ok = false) :
    s.deliveryFrame ok p f = s.officeGood.officeBad := by
  simp [State.deliveryFrame, hok]

theorem State.deliveryFrame_unused {s : State} {ok : Bool} {p : Nat} (f : State → State) (hok : ok = true)
    (hrow : s.pointRow p = none) : s.deliveryFrame ok p f = (s.officeArrival p).pointError p := by
  simp [State.deliveryFrame, hok, State.pointRow_officeArrival, hrow]

theorem State.deliveryFrame_used {s : State} {ok : Bool} {p : Nat} (f : State → State) (hok : ok = true)
    (hrow : (s.pointRow p).isSome = true) : s.deliveryFrame ok p f = f (s.officeArrival p) := by
  simp [State.deliveryFrame, hok, State.pointRow_officeArrival, hrow]

/-- R124: a frame of a point not in use, of an OFFLINE one, or with nothing to meet, is counted. -/
theorem State.deliveryFrame_late {s : State} {ok : Bool} {p : Nat} {f : State → State} (hok : ok = true)
    (hp : pointOk p = true) (h : (s.pointRow p = none ∨ (s.point p).state = .offline)
      ∨ f (s.officeArrival p) = (s.officeArrival p).pointError p) :
    s.deliveryFrame ok p (fun a => a.atReady p f) = (s.officeArrival p).pointError p := by
  cases hrow : s.pointRow p with
  | none => exact State.deliveryFrame_unused _ hok hrow
  | some row =>
    rw [State.deliveryFrame_used _ hok (by simp [hrow])]
    by_cases hoff : (s.point p).state = .offline
    · exact if_pos ((State.point_officeArrival_offline s hp).2 hoff)
    · exact (if_neg (mt (State.point_officeArrival_offline s hp).1 hoff)).trans (by simpa [hrow, hoff] using h)

/-- R119, R124: a frame of a point in use that is not OFFLINE has its effect. -/
theorem State.deliveryFrame_taken {s : State} {ok : Bool} {p : Nat} (f : State → State) (hok : ok = true)
    (ht : s.pointTaken p) : s.deliveryFrame ok p (fun a => a.atReady p f) = f (s.officeArrival p) := by
  obtain ⟨_, h1, h30, hrow, hup⟩ := ht
  rw [State.deliveryFrame_used _ hok hrow]
  exact if_neg (mt (State.point_officeArrival_offline s ((pointOk_iff p).2 ⟨h1, h30⟩)).1 hup)

/-- R118, R197, log 6: a delivery frame with a field out of its range is one that is not good. -/
theorem exec_pointFrame_bad {s : State} {i : Instr} (ha : s.awake) (hf : pointFrame i = true)
    (hw : i.wellFormed = false) : exec i s = .next s.officeGood.officeBad := by
  have bad : ∀ (ok : Bool) (p : Nat) (f : State → State), ok = false →
      act (fun s => s.deliveryFrame ok p f) s = .next s.officeGood.officeBad := fun ok p f hok => by
    rw [act_awake _ s ha, State.deliveryFrame_bad s p f hok]
  cases i with
  | pointUp | pointDown | accept | decline | intakePost | pageAck | pageNak => exact bad _ _ _ hw
  | officeLinkAlive => cases hw
  | _ => cases hf

/-! ### What a frame meets (R157) -/

theorem Lane.outstandingIn_some {l : Lane} {slot k : Nat} {b : BufId} {bytes : List Byte}
    (h : l.outstandingIn slot = some (b, k, bytes)) : ∃ due, l.buf b = .outstanding k bytes slot due := by
  unfold Lane.outstandingIn at h
  (repeat' split at h) <;> simp_all [Lane.buf]
  all_goals
    obtain ⟨rfl, rfl, rfl⟩ := h
    simp_all

theorem Lane.outstandingIn_none (l : Lane) (slot : Nat) :
    l.outstandingIn slot = none ↔ ∀ b k bytes due, l.buf b ≠ .outstanding k bytes slot due := by
  refine ⟨fun h b k bytes due hb => ?_, fun h => ?_⟩
  · cases b with
    | first =>
      have hb : l.buf0 = _ := hb
      simp [Lane.outstandingIn, hb] at h
    | second =>
      have hb : l.buf1 = _ := hb
      cases h0 : l.buf0 with
      | outstanding _ _ x _ => by_cases hx : x = slot <;> simp [Lane.outstandingIn, h0, hb, hx] at h
      | _ => simp [Lane.outstandingIn, h0, hb] at h
  · cases ho : l.outstandingIn slot with
    | none => rfl
    | some x =>
      obtain ⟨due, hb⟩ := Lane.outstandingIn_some (l := l) (slot := slot) (b := x.1) (k := x.2.1) (bytes := x.2.2) ho
      exact absurd hb (h _ _ _ _)

theorem State.outstandingAt_some {s : State} {p slot i k : Nat} {b : BufId} {bytes : List Byte}
    (h : s.outstandingAt p slot = some (i, b, k, bytes)) : (s.point p).lane = some i
      ∧ (∃ due, (s.lane i).buf b = .outstanding k bytes slot due)
      ∧ ¬ ((s.lane i).state = .withdrawing ∧ (s.lane i).withdrawn = true) := by
  unfold State.outstandingAt at h
  split at h
  · cases h
  · next n hn =>
    obtain ⟨hopen, h⟩ := Option.ite_none_left_eq_some.1 h
    obtain ⟨⟨b', k', bytes'⟩, hx, he⟩ := Option.map_eq_some_iff.1 h
    cases he
    exact ⟨hn, Lane.outstandingIn_some hx, hopen⟩

theorem State.outstandingAt_none (s : State) (p slot : Nat) : s.outstandingAt p slot = none ↔
    ∀ i, (s.point p).lane = some i → ((s.lane i).state = .withdrawing ∧ (s.lane i).withdrawn = true)
      ∨ ∀ b k bytes due, (s.lane i).buf b ≠ .outstanding k bytes slot due := by
  unfold State.outstandingAt
  cases (s.point p).lane with
  | none => simp
  | some i =>
    simp only [Option.some.injEq, forall_eq', ← Lane.outstandingIn_none]
    split <;> simp_all

end Sys2Proof.Machine
end

section
/-! THEOREMS. What late delivery frames do, and POINT_UP and POINT_DOWN
(spec/07_delivery_lanes_on_the_office_link.md, sections 7.1 and 7.2; R157). -/

namespace Sys2Proof.Machine

open Sys2Proof.Config

/-! ### Frames that meet nothing -/

section
variable {s : State} {p : Nat} (ha : s.awake) (hp : pointOk p = true)
include ha hp

theorem exec_accept_late {receipt : Nat} (hr : receiptOk receipt = true)
    (h : (s.pointRow p = none ∨ (s.point p).state = .offline) ∨ s.offering p receipt = none) :
    exec (.accept p receipt) s = .next ((s.officeArrival p).pointError p) := by
  change execAccept p receipt s = _
  rw [execAccept, act_awake _ s ha, State.deliveryFrame_late (by simp [hp, hr]) hp]
  exact h.imp_right fun hn => by simp only [State.offering_officeArrival, hn]

theorem exec_decline_late {receipt retry : Nat} (hr : receiptOk receipt = true) (ht : retry ≤ 255)
    (h : (s.pointRow p = none ∨ (s.point p).state = .offline) ∨ s.offering p receipt = none) :
    exec (.decline p receipt retry) s = .next ((s.officeArrival p).pointError p) := by
  change execDecline p receipt retry s = _
  rw [execDecline, act_awake _ s ha, State.deliveryFrame_late (by simp [hp, hr, within, max8, ht]) hp]
  exact h.imp_right fun hn => by simp only [State.offering_officeArrival, hn]

theorem exec_intakePost_late {slot cap : Nat} (hs : slotOk slot = true) (hc : capacityOk cap = true)
    (h : s.pointRow p = none ∨ (s.point p).state = .offline) :
    exec (.intakePost p slot cap) s = .next ((s.officeArrival p).pointError p) := by
  change execIntakePost p slot cap s = _
  rw [execIntakePost, act_awake _ s ha, State.deliveryFrame_late (by simp [hp, hs, hc]) hp (.inl h)]

theorem exec_pageAck_late {slot : Nat} (hs : slotOk slot = true)
    (h : (s.pointRow p = none ∨ (s.point p).state = .offline) ∨ s.outstandingAt p slot = none) :
    exec (.pageAck p slot) s = .next ((s.officeArrival p).pointError p) := by
  change execPageAck p slot s = _
  rw [execPageAck, act_awake _ s ha, State.deliveryFrame_late (by simp [hp, hs]) hp]
  exact h.imp_right fun hn => by simp only [State.outstandingAt_officeArrival, hn]

theorem exec_pageNak_late {slot : Nat} (hs : slotOk slot = true)
    (h : (s.pointRow p = none ∨ (s.point p).state = .offline) ∨ s.outstandingAt p slot = none) :
    exec (.pageNak p slot) s = .next ((s.officeArrival p).pointError p) := by
  change execPageNak p slot s = _
  rw [execPageNak, act_awake _ s ha, State.deliveryFrame_late (by simp [hp, hs]) hp]
  exact h.imp_right fun hn => by simp only [State.outstandingAt_officeArrival, hn]

theorem exec_pointUp_unused (hrow : s.pointRow p = none) :
    exec (.pointUp p) s = .next ((s.officeArrival p).pointError p) := by
  change execPointUp p s = _
  rw [execPointUp, act_awake _ s ha, State.deliveryFrame_unused _ hp hrow]

theorem exec_pointDown_unused (hrow : s.pointRow p = none) :
    exec (.pointDown p) s = .next ((s.officeArrival p).pointError p) := by
  change execPointDown p s = _
  rw [execPointDown, act_awake _ s ha, State.deliveryFrame_unused _ hp hrow]

theorem exec_pointUp_eq (hrow : (s.pointRow p).isSome = true) :
    exec (.pointUp p) s = .next ((s.officeArrival p).pointUp p) := by
  change execPointUp p s = _
  rw [execPointUp, act_awake _ s ha, State.deliveryFrame_used _ hp hrow]

theorem exec_pointDown_eq (hrow : (s.pointRow p).isSome = true) :
    exec (.pointDown p) s = .next ((s.officeArrival p).pointDown p) := by
  change execPointDown p s = _
  rw [execPointDown, act_awake _ s ha, State.deliveryFrame_used _ hp hrow]

end

theorem exec_badOfficeFrame_good {s : State} (ha : s.awake) :
    exec (.badOfficeFrame true) s = .next s.officeGood.officeBad := by
  change execBadOfficeFrame true s = _
  rw [execBadOfficeFrame, act_awake _ s ha, if_pos rfl]

/-- Settles O34: each late frame is counted at its point; what a frame meets is read off the serving lane. -/
theorem lateFramesAreCounted : Obligations.LateFramesAreCounted := by
  refine ⟨fun s p ha h1 h30 => ?_, fun s p => ⟨fun receipt i slot d => s.offering_iff p receipt i slot d,
    fun slot i b k bytes h => State.outstandingAt_some h, fun slot => s.outstandingAt_none p slot⟩⟩
  have hp : pointOk p = true := (pointOk_iff p).2 ⟨h1, h30⟩
  refine ⟨fun hrow => ⟨exec_pointUp_unused ha hp hrow, exec_pointDown_unused ha hp hrow⟩,
    fun receipt hr h => ⟨exec_accept_late ha hp hr h, fun retry ht => exec_decline_late ha hp hr ht h⟩,
    fun slot cap hs hc h => exec_intakePost_late ha hp hs hc h,
    fun slot hs h => ⟨exec_pageAck_late ha hp hs h, exec_pageNak_late ha hp hs h⟩,
    fun i hf hw => ?_⟩
  rw [exec_pointFrame_bad ha hf hw, exec_badOfficeFrame_good ha]

/-! ### POINT_UP and POINT_DOWN (R123) -/

theorem State.pointState_setPoint {s : State} {p : Nat} (x : Point) (st : PointState)
    (h : p - 1 < s.delivery.points.length) : (s.setPoint p x).pointState p st
      = (s.setPoint p { x with state := st }).raise .deliveryUnit (.pointChanged p x.state st) := by
  rw [State.pointState, State.point_setPoint _ _ _ h, State.setPoint_setPoint]

/-- R123: what POINT_UP leaves of a point, with its notice. -/
theorem State.pointUp_eq {s : State} {p : Nat} (h : p - 1 < s.delivery.points.length) :
    let ready := (s.setPoint p { s.point p with state := .ready, intake := [], failures := 0 }).raise .deliveryUnit
      (.pointChanged p (s.point p).state .ready)
    s.pointUp p = if (s.point p).state = .ready then ready.suspendServing p .pointDown
      else ready.trigger (.pointReady p) := by
  unfold State.pointUp
  dsimp only
  rw [State.pointState_setPoint _ _ h]
  cases (s.point p).state <;> rfl

theorem State.pointDown_eq {s : State} {p : Nat} (h : p - 1 < s.delivery.points.length) :
    let off := (s.setPoint p { s.point p with state := .offline, intake := [] }).raise .deliveryUnit
      (.pointChanged p (s.point p).state .offline)
    s.pointDown p = if (s.point p).state = .offline then s else off.suspendServing p .pointDown := by
  unfold State.pointDown State.pointOff
  dsimp only
  rw [State.pointState_setPoint _ _ h]

theorem State.occurrences_officeArrival {s : State} {p : Nat} (hp : pointOk p = true)
    (h : (s.point p).state = .stalled) : (s.officeArrival p).waiting.occurrences
      = s.waiting.occurrences ++ [(.deliveryUnit, .pointChanged p .stalled .ready)] := by
  rw [State.officeArrival_stalled hp h]
  simp [State.pointState, State.officeGood_point, h]

/-- Settles O35: both commands on the point as the frame seen leaves it. -/
theorem pointUpAndDown : Obligations.PointUpAndDown := by
  intro s p ha h1 h30 hrow a ready off hlen
  have hp : pointOk p = true := (pointOk_iff p).2 ⟨h1, h30⟩
  have hlen' : p - 1 < a.delivery.points.length := by rwa [State.pointCount_officeArrival]
  rw [exec_pointUp_eq ha hp hrow, exec_pointDown_eq ha hp hrow, State.pointUp_eq hlen', State.pointDown_eq hlen']
  refine ⟨fun h => by rw [if_neg h], fun h => by rw [if_pos h], fun h => by rw [if_pos h], fun h => by rw [if_neg h],
    fun h => ⟨?_, State.occurrences_officeArrival hp h⟩⟩
  simp [a, State.point_officeArrival s hp, h]

end Sys2Proof.Machine
end

section
/-! THEOREMS. What a lane does while it serves: it hands its frames, it goes on, and it reads; and what a grant makes of
it (spec/07_delivery_lanes_on_the_office_link.md, sections 7.3 to 7.6). -/

namespace Sys2Proof.Machine

open Sys2Proof.Config

theorem State.lane_congr {s t : State} (h : t.delivery.lanes = s.delivery.lanes) (i : Nat) : t.lane i = s.lane i := by
  simp only [State.lane, h]

theorem State.point_congr {s t : State} (h : t.delivery.points = s.delivery.points) (p : Nat) :
    t.point p = s.point p := by
  simp only [State.point, h]

theorem State.box_congr {s t : State} (h : t.mail.boxes = s.mail.boxes) (m : Nat) : t.box m = s.box m := by
  simp only [State.box, h]

/-! ### Handing a frame (R120, R130) -/

theorem State.handOffice_up {s : State} (h : Hander) (f : OfficeFrame) (hl : s.office.link = .up) :
    s.handOffice h f = { s with office := { s.office with queue := s.office.queue ++ [(h, f)] } } := by
  simp only [State.handOffice, hl]

theorem State.handOffice_down {s : State} (h : Hander) (f : OfficeFrame) (hl : s.office.link = .down) :
    s.handOffice h f = s.discarded h f := by
  simp only [State.handOffice, hl]

theorem State.handLane_held {s : State} {i : Nat} (h : (s.lane i).pending ≠ .none) : s.handLane i = s := by
  unfold State.handLane
  split
  · next hp _ => exact absurd hp h
  · rfl

theorem State.handLane_nothing {s : State} {i : Nat} (h : (s.lane i).produced = []) : s.handLane i = s := by
  unfold State.handLane
  split
  · next hf => simp [h] at hf
  · rfl

theorem State.handLane_next {s : State} {i : Nat} {f : OfficeFrame} {rest : List OfficeFrame}
    (hp : (s.lane i).pending = .none) (hf : (s.lane i).produced = f :: rest) : s.handLane i
      = (s.setLane i { s.lane i with produced := rest, pending := .current }).handOffice (.lane i) f := by
  simp only [State.handLane, hp, hf]

/-- R130: what the handing of the next frame makes of a lane. -/
def Lane.handed (l : Lane) : Lane :=
  match l.pending, l.produced with
  | .none, _ :: rest => { l with produced := rest, pending := .current }
  | _, _ => l

theorem Lane.handed_held {l : Lane} (h : l.pending ≠ .none) : l.handed = l := by
  unfold Lane.handed
  split
  · next hp _ => exact absurd hp h
  · rfl

theorem Lane.handed_next {l : Lane} {f : OfficeFrame} {rest : List OfficeFrame} (hp : l.pending = .none)
    (hf : l.produced = f :: rest) : l.handed = { l with produced := rest, pending := .current } := by
  simp only [Lane.handed, hp, hf]

@[simp] theorem Lane.handed_fields (l : Lane) :
    l.handed.state = l.state ∧ l.handed.job = l.job ∧ l.handed.order = l.order ∧ l.handed.buf0 = l.buf0
      ∧ l.handed.buf1 = l.buf1 := by
  unfold Lane.handed
  split <;> simp

/-- R130: at most one frame leaves. -/
theorem Lane.handed_produced (l : Lane) : ∃ out, l.produced = out ++ l.handed.produced ∧ out.length ≤ 1 := by
  unfold Lane.handed
  split
  · next f rest _ hf => exact ⟨[f], hf, Nat.le_refl 1⟩
  · exact ⟨[], rfl, Nat.zero_le 1⟩

@[simp] theorem State.lane_handOffice (s : State) (h : Hander) (f : OfficeFrame) (k : Nat) :
    (s.handOffice h f).lane k = s.lane k := State.lane_congr (by simp) k

theorem State.lane_handLane_ne (s : State) {i k : Nat} (h : i ≠ k) : (s.handLane i).lane k = s.lane k := by
  unfold State.handLane
  split
  · rw [State.lane_handOffice, State.lane_setLane_ne _ _ _ _ h]
  · rfl

theorem State.lane_handLane (s : State) {i : Nat} (h : i < s.delivery.lanes.length) :
    (s.handLane i).lane i = (s.lane i).handed := by
  by_cases hp : (s.lane i).pending = .none
  · cases hf : (s.lane i).produced with
    | nil => rw [State.handLane_nothing hf, Lane.handed, hp, hf]
    | cons f rest =>
      rw [State.handLane_next hp hf, Lane.handed_next hp hf, State.lane_handOffice, State.lane_setLane _ _ _ h]
  · rw [State.handLane_held hp, Lane.handed_held hp]

theorem State.lane_produce (s : State) {i : Nat} (fs : List OfficeFrame) (h : i < s.delivery.lanes.length) :
    (s.produce i fs).lane i = { s.lane i with produced := (s.lane i).produced ++ fs } :=
  State.lane_setLane s i _ h

theorem State.lane_produce_ne (s : State) {i k : Nat} (fs : List OfficeFrame) (h : i ≠ k) :
    (s.produce i fs).lane k = s.lane k := State.lane_setLane_ne s i k _ h

/-! ### Going on and reading (R129, R135, R136) -/

theorem State.laneOn_transfers {s : State} {i : Nat} (h : LaneState.transfers (s.lane i).state = true) :
    let u := (s.laneReads i).laneBegins i
    s.laneOn i = (u.setLane i { u.lane i with state := (u.lane i).derived }).handLane i := if_pos h

theorem State.laneOn_hands {s : State} {i : Nat} (h : LaneState.transfers (s.lane i).state = false) :
    s.laneOn i = s.handLane i := if_neg (Bool.not_eq_true _ ▸ h)

theorem Lane.derived_eq (l : Lane) : l.derived = if l.goingOut = true then .sending
    else if l.order ≠ [] then .waitingIntake else if l.outstanding = true then .waitingAck else .sending := by
  unfold Lane.derived
  simp only [Bool.not_eq_true', List.isEmpty_eq_false_iff]

theorem State.laneReads_busy {s : State} {i : Nat} (h : (s.lane i).reading ≠ .none) : s.laneReads i = s := by
  unfold State.laneReads
  dsimp only
  split
  · next hr _ _ _ => exact absurd hr h
  · rfl

theorem State.laneReads_full {s : State} {i : Nat} (h : (s.lane i).emptyBuf = none) : s.laneReads i = s := by
  unfold State.laneReads
  dsimp only
  split
  · next hb _ => simp [h] at hb
  · rfl

theorem Lane.emptyBuf_none {l : Lane} (h0 : l.buf0 ≠ .empty) (h1 : l.buf1 ≠ .empty) : l.emptyBuf = none := by
  unfold Lane.emptyBuf
  split
  · next h => exact absurd h h0
  · next h _ => exact absurd h h1
  · rfl

/-- R135: buffer 0 first. -/
theorem Lane.emptyBuf_some {l : Lane} {b : BufId}
    (h : b = .first ∧ l.buf0 = .empty ∨ b = .second ∧ l.buf0 ≠ .empty ∧ l.buf1 = .empty) : l.emptyBuf = some b := by
  obtain ⟨rfl, h0⟩ | ⟨rfl, h0, h1⟩ := h
  · simp only [Lane.emptyBuf, h0]
  · unfold Lane.emptyBuf
    split
    · next h => exact absurd h h0
    · rfl
    · next h => exact absurd h1 h

section
variable {s : State} {i k slot : Nat} {d : Doc} (hd : s.laneDoc i = some (slot, d))
  (hk : (s.lane i).nextRead = some k)
include hd hk

theorem State.laneReads_done (h : d.pages.length < k) : s.laneReads i = s := by
  unfold State.laneReads
  dsimp only
  split
  · next hk' _ hd' =>
    rw [hk] at hk'
    rw [hd] at hd'
    cases hk'
    cases hd'
    exact if_neg (Nat.not_le.2 h)
  · rfl

theorem State.laneReads_begins {b : BufId} (hr : (s.lane i).reading = .none) (hb : (s.lane i).emptyBuf = some b)
    (h : k ≤ d.pages.length) : s.laneReads i = (s.setLane i { (s.lane i).setBuf b (.reading k []) with
      nextRead := some (k + 1), reading := .live }).beginRead i (d.pages.getD (k - 1) 0) 1 d.receipt := by
  simp only [State.laneReads, hr, hk, hb, hd, if_pos h]

end

/-- Settles O41: the case of the lane's state, of the frames it has to hand, and of what stands in the way of a
read. -/
theorem laneGoesOn : Obligations.LaneGoesOn := by
  refine ⟨fun s i => ⟨fun h => ?_, fun h => ?_⟩, fun s i f rest => ⟨State.handLane_held, State.handLane_nothing,
    fun hp hf => ⟨fun hl => ?_, fun hl => ?_⟩⟩, fun s i k slot b d hd hk => ⟨State.laneReads_busy,
    fun h0 h1 => State.laneReads_full (Lane.emptyBuf_none h0 h1), State.laneReads_done hd hk, fun hr hle hb => ?_⟩⟩
  · have ht : LaneState.transfers (s.lane i).state = true := by
      obtain h | h | h := h <;> rw [h] <;> rfl
    rw [State.laneOn_transfers ht, Lane.derived_eq]
  · have ht : LaneState.transfers (s.lane i).state = false := by
      obtain h | h | h := h <;> rw [h] <;> rfl
    exact State.laneOn_hands ht
  · rw [State.handLane_next hp hf]
    exact State.handOffice_up _ _ hl
  · rw [State.handLane_next hp hf]
    exact State.handOffice_down _ _ hl
  · exact State.laneReads_begins hd hk hr (Lane.emptyBuf_some hb) hle

/-! ### A grant (R106, R132, R133) -/

theorem State.box_headReport (s : State) (m n : Nat) (before after : Option Nat) :
    (s.headReport m before after).box n = s.box n := State.box_congr (by simp) n

theorem State.box_setQueue (s : State) {m : Nat} (queue : List Nat) (h : m < s.mail.boxes.length) :
    ((s.setQueue m queue).box m).queue = queue := by
  rw [State.setQueue, State.box_headReport, State.box_setBox s m _ h]

theorem State.box_setQueue_ne (s : State) {m n : Nat} (queue : List Nat) (h : m ≠ n) :
    (s.setQueue m queue).box n = s.box n := by
  rw [State.setQueue, State.box_headReport, State.box_setBox_ne s m n _ h]

/-- R133: a document that another point began starts again at page 1. -/
theorem Grant.offered_eq (g : Grant) :
    let elsewhere := g.doc.resume.isSome = true ∧ g.doc.resume ≠ some g.point
    g.offered = { g.doc with
      state := .delivering, notBefore := none, ackThrough := if elsewhere then 0 else g.doc.ackThrough
      resume := if elsewhere then none else g.doc.resume } := by
  intro elsewhere
  have hguard : (g.doc.resume.isSome && g.doc.resume != some g.point) = true ↔ elsewhere := by simp [elsewhere]
  unfold Grant.offered Doc.resumeAt
  by_cases h : elsewhere
  · rw [if_pos (hguard.2 h), if_pos h, if_pos h]
    rfl
  · rw [if_neg (mt hguard.1 h), if_neg h, if_neg h]

/-- R133: the OFFER depends on the page records alone. -/
theorem State.offerOf_congr {s t : State} (h : t.store = s.store) (d : Doc) (p : Nat) :
    t.offerOf d p = s.offerOf d p := by
  simp only [State.offerOf, State.bytesLeft, State.record_congr h]

/-- R133: the lane that a grant fills, before it hands anything. -/
def Lane.offering (l : Lane) (g : Grant) (offer : OfficeFrame) : Lane :=
  { l with state := .offering, job := some ⟨g.slot, g.point⟩, produced := l.produced ++ [offer] }

/-- R132, R133: a grant before its lane hands anything. -/
def State.offered (s : State) (i : Nat) (g : Grant) : State :=
  (((s.headTaken g).setPoint g.point { s.point g.point with lane := some i }).setLane i
    { s.lane i with state := .offering, job := some ⟨g.slot, g.point⟩ }).produce i [s.offerOf g.offered g.point]

theorem State.grant_hands (s : State) (i : Nat) (g : Grant) : s.grant i g = (s.offered i g).handLane i := by
  rw [State.grant_eq, State.offerOf_congr (s := s) (by simp), State.lane_congr (s := s) (by simp),
    State.point_congr (s := s) (by simp)]
  rfl

@[simp] theorem State.offered_frame (s : State) (i : Nat) (g : Grant) :
    (s.offered i g).mail = (s.headTaken g).mail ∧ (s.offered i g).docs = (s.headTaken g).docs
      ∧ (s.offered i g).delivery.lanes.length = s.delivery.lanes.length ∧ (s.offered i g).office = s.office
      ∧ (s.offered i g).delivery.points = s.delivery.points.set (g.point - 1) { s.point g.point with lane := some i }
      ∧ (s.offered i g).store = s.store ∧ (s.offered i g).journal = s.journal ∧ (s.offered i g).tables = s.tables
      ∧ (s.offered i g).mgmt = s.mgmt ∧ (s.offered i g).calls = s.calls := by
  simp [State.offered, State.produce]

theorem State.lane_offered (s : State) {i : Nat} (g : Grant) (h : i < s.delivery.lanes.length) :
    (s.offered i g).lane i = (s.lane i).offering g (s.offerOf g.offered g.point) := by
  have hlen : i < (s.headTaken g).delivery.lanes.length := by simpa using h
  rw [State.offered, State.lane_produce _ _ (by simpa using hlen), State.lane_setLane _ _ _ (by simpa using hlen)]
  rfl

theorem State.lane_offered_ne (s : State) {i k : Nat} (g : Grant) (h : i ≠ k) :
    (s.offered i g).lane k = s.lane k := by
  rw [State.offered, State.lane_produce_ne _ _ h, State.lane_setLane_ne _ _ _ _ h]
  exact State.lane_congr (by simp) k

/-- R106: the queue without the head. -/
theorem State.box_headTaken (s : State) (g : Grant) (h : g.box < s.mail.boxes.length) :
    ((s.headTaken g).box g.box).queue = (s.box g.box).queue.filter (fun x => x != g.slot) :=
  State.box_setQueue s _ h

theorem State.box_headTaken_ne (s : State) {m : Nat} (g : Grant) (h : g.box ≠ m) :
    (s.headTaken g).box m = s.box m := State.box_setQueue_ne s _ h

theorem State.doc_headTaken_ne (s : State) {x : Nat} (g : Grant) (h : g.slot ≠ x) :
    (s.headTaken g).doc x = s.doc x := by
  rw [State.headTaken, State.doc_setDoc_ne _ _ _ _ h]
  exact State.doc_congr (by simp) x

/-- R120, R130: with nothing in its way the OFFER is handed at once. -/
theorem State.grant_hands_offer {s : State} {i : Nat} (g : Grant) (h : i < s.delivery.lanes.length)
    (hp : (s.lane i).pending = .none) (hf : (s.lane i).produced = []) :
    ((s.grant i g).lane i).produced = [] ∧ ((s.grant i g).lane i).pending = .current
      ∧ (s.office.link = .up →
        (s.grant i g).office.queue = s.office.queue ++ [(.lane i, s.offerOf g.offered g.point)]) := by
  have hlane := s.lane_offered g h
  have hp' : ((s.offered i g).lane i).pending = .none := by rw [hlane]; exact hp
  have hf' : ((s.offered i g).lane i).produced = s.offerOf g.offered g.point :: [] := by
    rw [hlane]
    simp [Lane.offering, hf]
  have hlen : i < (s.offered i g).delivery.lanes.length := by simpa using h
  have hhanded := State.lane_handLane _ hlen
  rw [Lane.handed_next hp' hf'] at hhanded
  refine ⟨by rw [State.grant_hands, hhanded], by rw [State.grant_hands, hhanded], fun hl => ?_⟩
  rw [State.grant_hands, State.handLane_next hp' hf', State.handOffice_up _ _ (by simpa using hl)]
  simp

/-- Settles O45: the head taken, the point and the lane filled, and the lane's next frame handed. -/
theorem grantTakesTheHead : Obligations.GrantTakesTheHead := by
  intro s i g ⟨_, hpoints, hlanes, hboxes⟩ hi _ h1 h30 hbox t elsewhere ack offer
  have hlen : i < s.delivery.lanes.length := by simp only [laneCount] at hlanes; omega
  have hpoint : g.point - 1 < s.delivery.points.length := by simp only [pointCount] at hpoints; omega
  have ht : t = (s.offered i g).handLane i := s.grant_hands i g
  have hoffer : s.offerOf g.offered g.point = offer := by
    rw [Grant.offered_eq]
    rfl
  have hmail : t.mail = (s.headTaken g).mail := by simp [ht]
  have hdocs : t.docs = (s.headTaken g).docs := by simp [ht]
  have hplace : t.delivery.points = (s.setPoint g.point { s.point g.point with lane := some i }).delivery.points := by
    simp [ht]
  have hlane : t.lane i = ((s.lane i).offering g offer).handed := by
    rw [ht, State.lane_handLane _ (by simpa using hlen), s.lane_offered g hlen, hoffer]
  refine ⟨?_, fun m hm => ?_, by rw [hmail]; rfl, ?_, fun x hx => ?_, ?_, fun p hp hne => ?_, ?_, ?_, fun k hk => ?_,
    fun _ => ?_, fun hp hf => ?_, by simp [ht], by simp [ht], by simp [ht], by simp [ht], by simp [ht]⟩
  · rw [State.box_congr (congrArg _ hmail), s.box_headTaken g (by simp only [mailboxCount] at hboxes; omega)]
  · rw [State.box_congr (congrArg _ hmail), s.box_headTaken_ne g (Ne.symm hm)]
  · rw [State.doc_congr hdocs, State.headTaken, State.doc_setDoc, Grant.offered_eq]
  · rw [State.doc_congr hdocs, s.doc_headTaken_ne g (Ne.symm hx)]
  · rw [State.point_congr hplace, State.point_setPoint _ _ _ hpoint]
  · rw [State.point_congr hplace, State.point_setPoint_ne _ _ h1 hp (Ne.symm hne)]
  · simp [hlane, Lane.offering]
  · simp [hlane, Lane.offering]
  · rw [ht, State.lane_handLane_ne _ (Ne.symm hk), s.lane_offered_ne g (Ne.symm hk)]
  · rw [hlane]
    exact Lane.handed_produced ((s.lane i).offering g offer)
  · have hhands := State.grant_hands_offer g hlen hp hf
    rwa [hoffer] at hhands

end Sys2Proof.Machine
end

section
/-! THEOREMS. The end of a delivery (spec/07_delivery_lanes_on_the_office_link.md, section 7.6;
spec/08_delivery_faults_retry_and_withdrawal.md): the completed delivery, and the pages of a delivery under way. -/

namespace Sys2Proof.Machine

open Sys2Proof.Config

/-! ### The end of a delivery (R140, R152) -/

theorem State.endLane_serving {s : State} {i : Nat} {j : Job} (h : (s.lane i).job = some j) : s.endLane i
    = (((s.setPoint j.point { s.point j.point with lane := none }).setLane i (s.lane i).ended).trigger
        (.laneIdle i)).handLane i := by
  simp only [State.endLane, h]
  rfl

/-- R152: the record of a lane whose delivery has ended, field by field. -/
theorem Lane.ended_eq (l : Lane) : l.ended =
    { state := .idle, job := none, buf0 := .empty, buf1 := .empty, order := [], nextRead := none, acked := []
      produced := l.produced.filter OfficeFrame.isReturn
      pending := if l.pending = .none then .none else .stale
      reading := if l.reading = .none then .none else .abandoned
      acceptTimer := none, waitTimer := none, withdrawn := false } := by
  have hp : l.pending.ended = if l.pending = .none then .none else .stale := by cases l.pending <;> rfl
  have hr : l.reading.ended = if l.reading = .none then .none else .abandoned := by cases l.reading <;> rfl
  simp only [Lane.ended, Lane.initial, hp, hr]

/-- R18: a delivered document, with its expiry. -/
theorem State.delivered_eq (s : State) (slot : Nat) (d : Doc) (m n : Nat) : (s.heldDown m n).delivered slot d
    = if d.hours = 0 then (s.heldDown m n).freeDoc slot d false else (s.heldDown m n).setDoc slot { d with
        state := .retained, expiry := some (s.mgmt.uptime + d.hours * 3600000), ackThrough := 0, resume := none
        notBefore := none, hold := none } := by
  have hnow : (s.heldDown m n).now = s.mgmt.uptime := congrArg Management.uptime (by simp)
  rw [State.delivered, hnow]
  rfl

/-- Settles O39: the two ends of a delivery are their own steps written out. -/
theorem deliveryCompletes : Obligations.DeliveryCompletes := by
  refine ⟨fun s i slot p d _ => ?_, fun s i j hj => ?_⟩
  · rw [State.completeDelivery, State.delivered_eq]
    rfl
  · rw [State.endLane_serving hj, Lane.ended_eq]
    rfl

/-! ### The acknowledged set (R138) -/

theorem mem_addNumber (k n : Nat) (l : List Nat) : n ∈ addNumber k l ↔ n = k ∨ n ∈ l := by
  induction l with
  | nil => simp [addNumber]
  | cons a t ih =>
    unfold addNumber
    split
    · simp
    · split
      · next hka => simp [hka]
      · simp only [List.mem_cons, ih]
        tauto

/-- R138: the set stays in rising order. -/
theorem addNumber_rising (k : Nat) {l : List Nat} (h : l.Pairwise (· < ·)) : (addNumber k l).Pairwise (· < ·) := by
  induction l with
  | nil => simp [addNumber]
  | cons a t ih =>
    obtain ⟨hat, ht⟩ := List.pairwise_cons.1 h
    unfold addNumber
    split
    · next hka =>
      refine List.pairwise_cons.2 ⟨fun n hn => ?_, h⟩
      obtain rfl | hn := List.mem_cons.1 hn
      · exact hka
      · exact hka.trans (hat n hn)
    · split
      · exact h
      · refine List.pairwise_cons.2 ⟨fun n hn => ?_, ih ht⟩
        obtain rfl | hn := (mem_addNumber k n t).1 hn
        · omega
        · exact hat n hn

/-- R138: acknowledged-through runs over the contiguous numbers; what stays is not contiguous to it. -/
theorem runAcked_spec (ack : Nat) (l : List Nat) (h : l.Pairwise (· < ·)) (hl : ∀ n ∈ l, ack < n) :
    ack ≤ (runAcked ack l).1 ∧ (∀ n, ack < n → n ≤ (runAcked ack l).1 → n ∈ l)
      ∧ (runAcked ack l).2.Pairwise (· < ·) ∧ (∀ n, n ∈ (runAcked ack l).2 ↔ n ∈ l ∧ (runAcked ack l).1 < n)
      ∧ (runAcked ack l).1 + 1 ∉ (runAcked ack l).2 := by
  induction l generalizing ack with
  | nil => exact ⟨Nat.le_refl _, fun n hlo hhi => absurd hlo (Nat.not_lt.2 hhi), .nil, by simp [runAcked],
      List.not_mem_nil⟩
  | cons a t ih =>
    obtain ⟨hat, ht⟩ := List.pairwise_cons.1 h
    have ha : ack < a := hl a List.mem_cons_self
    by_cases hnext : a = ack + 1
    · have hrun : runAcked ack (a :: t) = runAcked (ack + 1) t := if_pos hnext
      obtain ⟨hle, hin, hrise, hmem, hgap⟩ := ih (ack + 1) ht (fun n hn => hnext ▸ hat n hn)
      rw [hrun]
      refine ⟨by omega, fun n hlo hhi => ?_, hrise, fun n => ?_, hgap⟩
      · by_cases hna : n = a
        · simp [hna]
        · exact List.mem_cons_of_mem _ (hin n (by omega) hhi)
      · rw [hmem, List.mem_cons]
        refine and_congr_left fun hn => ⟨.inr, fun hor => hor.resolve_left ?_⟩
        omega
    · have hrun : runAcked ack (a :: t) = (ack, a :: t) := if_neg hnext
      rw [hrun]
      refine ⟨Nat.le_refl _, fun n hlo hhi => by omega, h, fun n => ⟨fun hn => ⟨hn, hl n hn⟩, And.left⟩, fun hn => ?_⟩
      obtain hn | hn := List.mem_cons.1 hn
      · exact hnext hn.symm
      · have := hat _ hn
        omega

/-! ### A page acknowledged and refused (R138, R139, R146, R155) -/

section
variable {s : State} {p slot i k : Nat} {b : BufId} {bytes : List Byte} (ht : s.pointTaken p)
  (hs : slotOk slot = true) (ho : s.outstandingAt p slot = some (i, b, k, bytes))
include ht hs ho

theorem exec_pageAck_eq : exec (.pageAck p slot) s = .next ((s.officeArrival p).pageAcked i p b k) := by
  have hp : pointOk p = true := (pointOk_iff p).2 ⟨ht.2.1, ht.2.2.1⟩
  change execPageAck p slot s = _
  rw [execPageAck, act_awake _ s ht.1, State.deliveryFrame_taken _ (by simp [hp, hs]) ht]
  simp only [State.outstandingAt_officeArrival, ho]

theorem exec_pageNak_eq : exec (.pageNak p slot) s = .next ((s.officeArrival p).pageRefused i b k bytes) := by
  have hp : pointOk p = true := (pointOk_iff p).2 ⟨ht.2.1, ht.2.2.1⟩
  change execPageNak p slot s = _
  rw [execPageNak, act_awake _ s ht.1, State.deliveryFrame_taken _ (by simp [hp, hs]) ht]
  simp only [State.outstandingAt_officeArrival, ho]

end

/-- R138 steps 1 to 3: the document after one page acknowledged. -/
def Doc.acked (d : Doc) (p : Nat) (run : Nat × List Nat) : Doc :=
  { d with ackThrough := run.1, resume := if d.ackThrough = 0 ∧ 0 < run.1 then some p else d.resume }

theorem State.ackPage_eq (s : State) (i slot : Nat) (d : Doc) (p : Nat) (b : BufId) (k : Nat) :
    let run := runAcked d.ackThrough (addNumber k (s.lane i).acked)
    s.ackPage i slot d p b k
      = (s.setLane i { (s.lane i).setBuf b .empty with acked := run.2 }).setDoc slot (d.acked p run) := rfl

/-- R138, R139: what follows an acknowledged page. -/
theorem State.pageAcked_eq {s : State} {i p slot k : Nat} {b : BufId} {d : Doc}
    (hd : s.laneDoc i = some (slot, d)) :
    let e := d.acked p (runAcked d.ackThrough (addNumber k (s.lane i).acked))
    let t := s.ackPage i slot d p b k
    s.pageAcked i p b k = if e.ackThrough = d.pages.length then t.completeDelivery i slot e p
      else if (t.lane i).state = .withdrawing then t else t.laneOn i := by
  intro e t
  have hdoc : (s.ackPage i slot d p b k).doc slot = some e := State.doc_setDoc _ slot e
  simp only [State.pageAcked, hd, hdoc]
  rfl

theorem State.state_setLane {s : State} {i : Nat} {l : Lane} (h : l.state = (s.lane i).state) :
    ((s.setLane i l).lane i).state = (s.lane i).state := by
  obtain hl | ⟨hl, hi⟩ := State.lane_setLane_or s i l
  · rw [hl, h]
  · rw [hl, hi]

/-- R146: the send count that a PAGE_NAK meets. -/
theorem State.sendsOf_eq {s : State} {i k slot : Nat} {d : Doc} {x : PageRecord} (hd : s.laneDoc i = some (slot, d))
    (hx : s.record (d.pages.getD (k - 1) 0) = some x) : s.sendsOf i k = x.sends := by
  simp only [State.sendsOf, hd, hx]
  rfl

/-- Settles O38: what is met is the same after the frame seen; the set is addNumber followed by runAcked. -/
theorem pageAckAndNak : Obligations.PageAckAndNak := by
  refine ⟨fun s p slot i docSlot k b bytes d ht hs ho hd => ?_, fun ack k acked hrise hlow hk => ?_,
    fun s p slot i docSlot k b bytes d x ht hs ho hd hx => ?_⟩
  · intro a l run e t
    have hd' : a.laneDoc i = some (docSlot, d) := (s.laneDoc_officeArrival p i).trans hd
    have hl : a.lane i = l := s.lane_officeArrival p i
    have hack : a.ackPage i docSlot d p b k = t := by rw [State.ackPage_eq, hl]; rfl
    have hstate : (t.lane i).state = l.state := by
      rw [← hl]
      exact State.state_setLane (s := a) (by rw [hl]; simp)
    have heq : a.pageAcked i p b k = if run.1 = d.pages.length then t.completeDelivery i docSlot e p
        else if l.state = .withdrawing then t else t.laneOn i := by
      rw [State.pageAcked_eq hd', hack, hstate, hl]
      rfl
    rw [exec_pageAck_eq ht hs ho, heq]
    exact ⟨fun h => by rw [if_pos h], fun h hw => by rw [if_neg h, if_pos hw],
      fun h hw _ => by rw [if_neg h, if_neg hw]⟩
  · intro run
    obtain ⟨hle, hin, hrise', hmem, hgap⟩ := runAcked_spec ack (addNumber k acked) (addNumber_rising k hrise)
      (fun n hn => ((mem_addNumber k n acked).1 hn).elim (fun h => h ▸ hk) (hlow n))
    refine ⟨hle, fun n hlo hhi => (mem_addNumber k n acked).1 (hin n hlo hhi), hrise', fun n => ?_, hgap⟩
    rw [← mem_addNumber]
    exact hmem n
  · intro a l run
    have hl : a.lane i = l := s.lane_officeArrival p i
    have hrec : ∀ r, a.record r = s.record r := State.record_congr (t := s.officeArrival p) (by simp)
    have hsends : a.sendsOf i k = x.sends :=
      State.sendsOf_eq ((s.laneDoc_officeArrival p i).trans hd) ((hrec _).trans hx)
    have hrun : run = .next (a.pageRefused i b k bytes) := exec_pageNak_eq ht hs ho
    rw [hrun, State.pageRefused, hl, hsends, sendLimit]
    exact ⟨fun hw => by rw [if_pos hw], fun hw hlt => by rw [if_neg hw, if_pos hlt],
      fun hw hge => by rw [if_neg hw, if_neg (Nat.not_lt.2 hge)]⟩

end Sys2Proof.Machine
end

section
/-! THEOREMS. INTAKE_POST (spec/07_delivery_lanes_on_the_office_link.md, section 7.3). -/

namespace Sys2Proof.Machine

open Sys2Proof.Config

theorem PageBuf.slot_iff (b : PageBuf) (slot : Nat) : b.slot = some slot ↔
    ∃ k bytes, b = .goingOut k bytes slot ∨ ∃ due, b = .outstanding k bytes slot due := by
  cases b <;> simp [PageBuf.slot]

/-- R125: the slot ids in use by the serving lane. -/
theorem State.slotServed_iff (s : State) (p slot : Nat) : s.slotServed p slot = true ↔
    ∃ i k bytes, (s.point p).lane = some i ∧ (((s.lane i).buf0 = .goingOut k bytes slot
      ∨ (s.lane i).buf1 = .goingOut k bytes slot)
      ∨ ∃ due, (s.lane i).buf0 = .outstanding k bytes slot due ∨ (s.lane i).buf1 = .outstanding k bytes slot due) := by
  unfold State.slotServed
  cases (s.point p).lane with
  | none => simp
  | some i =>
    simp only [Lane.usesSlot, Bool.or_eq_true, beq_iff_eq, PageBuf.slot_iff, Option.some.injEq, exists_and_left,
      exists_eq_left']
    constructor
    · rintro (⟨k, bytes, h | ⟨due, h⟩⟩ | ⟨k, bytes, h | ⟨due, h⟩⟩)
      · exact ⟨k, bytes, .inl (.inl h)⟩
      · exact ⟨k, bytes, .inr ⟨due, .inl h⟩⟩
      · exact ⟨k, bytes, .inl (.inr h)⟩
      · exact ⟨k, bytes, .inr ⟨due, .inr h⟩⟩
    · rintro ⟨k, bytes, (h | h) | ⟨due, h | h⟩⟩
      · exact .inl ⟨k, bytes, .inl h⟩
      · exact .inr ⟨k, bytes, .inl h⟩
      · exact .inl ⟨k, bytes, .inr ⟨due, h⟩⟩
      · exact .inr ⟨k, bytes, .inr ⟨due, h⟩⟩

/-- R120, R122: a return of a point context, handed or counted. -/
theorem State.returnSlot_up {s : State} (p slot : Nat) (reason : ReturnReason) (hl : s.office.link = .up) :
    s.returnSlot p slot reason = if s.returnsWaiting < 32
      then { s with office := { s.office with
        queue := s.office.queue ++ [(.point p, ⟨p, .slotReturn slot reason⟩)] } }
      else s.setPoint p { s.point p with unsent := min ((s.point p).unsent + 1) 255 } := by
  rw [State.returnSlot, State.handOffice_up _ _ hl]
  rfl

/-- R125: the three cases in order. -/
theorem State.intakePost_eq {s : State} {p : Nat} {row : PointRow} (slot cap : Nat) (hrow : s.pointRow p = some row) :
    s.intakePost p slot cap =
      if (∃ y ∈ (s.point p).intake, y.id = slot) ∨ s.slotServed p slot = true then s.returnSlot p slot .duplicate
      else if row.maxSlots ≤ (s.point p).intake.length then s.returnSlot p slot .overLimit
      else (s.setPoint p { s.point p with intake := (s.point p).intake ++ [⟨slot, cap⟩] }).tryWaiting p := by
  simp only [State.intakePost, Bool.or_eq_true, List.any_eq_true, beq_iff_eq, hrow]
  rfl

theorem State.tryWaiting_idle {s : State} {p : Nat}
    (h : (s.point p).lane = none ∨ ∃ i, (s.point p).lane = some i ∧ (s.lane i).state ≠ .waitingIntake) :
    s.tryWaiting p = s := by
  obtain h | ⟨i, h, hw⟩ := h
  · simp only [State.tryWaiting, h]
  · simp only [State.tryWaiting, h, if_neg hw]

theorem State.tryWaiting_waiting {s : State} {p i : Nat} (h : (s.point p).lane = some i)
    (hw : (s.lane i).state = .waitingIntake) : s.tryWaiting p = s.laneOn i := by
  simp only [State.tryWaiting, h, if_pos hw]

theorem exec_intakePost_eq {s : State} {p slot cap : Nat} (ht : s.pointTaken p) (hs : slotOk slot = true)
    (hc : capacityOk cap = true) :
    exec (.intakePost p slot cap) s = .next ((s.officeArrival p).intakePost p slot cap) := by
  have hp : pointOk p = true := (pointOk_iff p).2 ⟨ht.2.1, ht.2.2.1⟩
  change execIntakePost p slot cap s = _
  rw [execIntakePost, act_awake _ s ht.1, State.deliveryFrame_taken _ (by simp [hp, hs, hc]) ht]

/-- Settles O37: the three cases of the intake post on the point as the frame seen leaves it. -/
theorem intakePostCases : Obligations.IntakePostCases := by
  intro s p slot cap row ht hs hc hrow a x known waiting back posted run
  have hrow' : a.pointRow p = some row := (s.pointRow_officeArrival p p).trans hrow
  have hl : ∀ i, a.lane i = s.lane i := s.lane_officeArrival p
  have hback : ∀ reason, a.returnSlot p slot reason = back reason := fun reason =>
    State.returnSlot_up p slot reason (s.link_officeArrival p)
  have hknown : ((∃ y ∈ x.intake, y.id = slot) ∨ a.slotServed p slot = true) ↔ known := by
    rw [State.slotServed_iff]
    simp only [hl]
    rfl
  classical
  have hrun : run = .next (if known then back .duplicate else if row.maxSlots ≤ x.intake.length then back .overLimit
      else posted.tryWaiting p) := by
    rw [← hback, ← hback]
    refine (exec_intakePost_eq ht hs hc).trans (congrArg _ ?_)
    rw [State.intakePost_eq slot cap hrow']
    exact if_congr hknown rfl rfl
  rw [hrun]
  refine ⟨fun hk => by rw [if_pos hk], fun hk hfull => by rw [if_neg hk, if_pos hfull], fun hk hroom hlen => ?_⟩
  rw [if_neg hk, if_neg (Nat.not_le.2 hroom)]
  have hserver : (posted.point p).lane = x.lane := by
    rw [State.point_setPoint _ _ _ (by rwa [State.pointCount_officeArrival])]
  have hlane : ∀ i, posted.lane i = s.lane i := fun i => (State.lane_congr rfl i).trans (hl i)
  exact ⟨fun h => congrArg _ (State.tryWaiting_idle (by simpa only [hserver, hlane] using h)),
    fun i hi hw => congrArg _ (State.tryWaiting_waiting (hserver.trans hi) (by rw [hlane, hw]))⟩

end Sys2Proof.Machine
end

section
/-! THEOREMS. A page begun (spec/07_delivery_lanes_on_the_office_link.md, sections 7.3 and 7.5). -/

namespace Sys2Proof.Machine

open Sys2Proof.Config

theorem State.setPoint_self (s : State) (p : Nat) : s.setPoint p (s.point p) = s := by
  have hset : s.delivery.points.set (p - 1) (s.point p) = s.delivery.points := by
    rcases Nat.lt_or_ge (p - 1) s.delivery.points.length with h | h
    · simp [State.point, h]
    · exact List.set_eq_of_length_le h
  simp [State.setPoint, hset]

theorem State.setLane_self (s : State) (i : Nat) : s.setLane i (s.lane i) = s := by
  have hset : s.delivery.lanes.set i (s.lane i) = s.delivery.lanes := by
    rcases Nat.lt_or_ge i s.delivery.lanes.length with h | h
    · simp [State.lane, h]
    · exact List.set_eq_of_length_le h
  simp [State.setLane, hset]

/-! ### The slots too small for the page (R126) -/

/-- R126: how many TOO_SMALL returns a lane still takes. -/
def Lane.returnRoom (l : Lane) : Nat := tooSmallLimit - l.produced.countP OfficeFrame.isReturn

/-- R126: slots too small for the page gone from the list of a point, returned by its lane or counted. -/
def State.cleared (s : State) (i p : Nat) (small left : List IntakeSlot) : State :=
  (s.setLane i { s.lane i with produced := (s.lane i).produced
      ++ (small.take (s.lane i).returnRoom).map (fun x => ⟨p, .slotReturn x.id .tooSmall⟩) }).setPoint p
    { s.point p with
      intake := left, unsent := min ((s.point p).unsent + (small.length - (s.lane i).returnRoom)) 255 }

/-- R126: what follows once the slots too small are gone: the first slot left is taken, or one is awaited. -/
def State.served (s : State) (i p : Nat) (b : BufId) (rest : List BufId) (k : Nat) (bytes : List Byte)
    (fits : List IntakeSlot) : State :=
  match fits with
  | [] => s.awaitSlot i p
  | x :: _ => s.sendPage i p x.id b rest k bytes

theorem State.returnSmall_eq {s : State} {i p : Nat} (small left : List IntakeSlot)
    (hp : p - 1 < s.delivery.points.length) : (s.returnSmall i p small).setPoint p
      { (s.returnSmall i p small).point p with intake := left } = s.cleared i p small left := by
  have hpoint : (s.returnSmall i p small).point p = { s.point p with
      unsent := min ((s.point p).unsent + (small.length - (s.lane i).returnRoom)) 255 } :=
    State.point_setPoint (s.produce i _) p _ hp
  rw [hpoint]
  exact State.setPoint_setPoint (s.produce i _) p _ _

theorem State.tryPage_eq {s : State} {i p : Nat} {b : BufId} {rest : List BufId} {k : Nat} {bytes : List Byte}
    (hp : p - 1 < s.delivery.points.length) :
    let small := (s.point p).intake.takeWhile (fun x => decide (x.cap < bytes.length))
    let fits := (s.point p).intake.drop small.length
    s.tryPage i p b rest k bytes = (s.cleared i p small fits.tail).served i p b rest k bytes fits := by
  intro small fits
  unfold State.tryPage
  dsimp only
  split
  · next h =>
    rw [State.returnSmall_eq _ _ hp, show fits = [] from h]
    rfl
  · next x more h =>
    rw [State.returnSmall_eq _ _ hp, show fits = x :: more from h]
    rfl

/-- Slots that fit: none is returned and none is counted. -/
theorem State.cleared_nil {s : State} {i p : Nat} (left : List IntakeSlot) (h : (s.point p).unsent ≤ 255) :
    s.cleared i p [] left = s.setPoint p { s.point p with intake := left } := by
  have hu : min ((s.point p).unsent + (0 - (s.lane i).returnRoom)) 255 = (s.point p).unsent := by omega
  unfold State.cleared
  rw [List.length_nil, hu, List.take_nil, List.map_nil, List.append_nil, State.setLane_self]

theorem State.setLane_setPoint (s : State) (i p : Nat) (l : Lane) (x : Point) :
    (s.setPoint p x).setLane i l = (s.setLane i l).setPoint p x := rfl

theorem State.cleared_written {s : State} {i p : Nat} (l : Lane) (x : Point) (small left : List IntakeSlot)
    (hi : i < s.delivery.lanes.length) (hp : p - 1 < s.delivery.points.length) :
    ((s.setPoint p x).setLane i l).cleared i p small left = (s.setLane i { l with
      produced := l.produced ++ (small.take l.returnRoom).map (fun z => ⟨p, .slotReturn z.id .tooSmall⟩) }).setPoint p
        { x with intake := left, unsent := min (x.unsent + (small.length - l.returnRoom)) 255 } := by
  have hlane : ((s.setPoint p x).setLane i l).lane i = l := State.lane_setLane (s.setPoint p x) i l hi
  have hpoint : ((s.setPoint p x).setLane i l).point p = x := State.point_setPoint s p x hp
  rw [State.cleared, hlane, hpoint, State.setLane_setLane, State.setLane_setPoint, State.setPoint_setPoint]

/-- R126: a slot too small is returned where fewer than 16 returns wait. -/
theorem State.cleared_returned {s : State} {i p : Nat} (y : IntakeSlot) (small more left : List IntakeSlot)
    (hi : i < s.delivery.lanes.length) (hp : p - 1 < s.delivery.points.length)
    (h : (s.lane i).produced.countP OfficeFrame.isReturn < 16) :
    s.cleared i p (y :: small) left = ((s.setPoint p { s.point p with intake := more }).setLane i { s.lane i with
      produced := (s.lane i).produced ++ [⟨p, .slotReturn y.id .tooSmall⟩] }).cleared i p small left := by
  have hroom : (s.lane i).returnRoom
      = Lane.returnRoom { s.lane i with produced := (s.lane i).produced ++ [⟨p, .slotReturn y.id .tooSmall⟩] } + 1 := by
    simp only [Lane.returnRoom, tooSmallLimit, List.countP_append, List.countP_singleton, OfficeFrame.isReturn, if_true]
    omega
  rw [State.cleared_written _ _ _ _ hi hp, State.cleared, hroom, List.take_succ_cons, List.map_cons, List.length_cons,
    Nat.add_sub_add_right, List.append_assoc, List.singleton_append]

/-- R126: past 16 returns a slot too small is counted. -/
theorem State.cleared_counted {s : State} {i p : Nat} (y : IntakeSlot) (small more left : List IntakeSlot)
    (hp : p - 1 < s.delivery.points.length) (h : 16 ≤ (s.lane i).produced.countP OfficeFrame.isReturn) :
    s.cleared i p (y :: small) left = (s.setPoint p { s.point p with
      intake := more, unsent := bump 255 (s.point p).unsent }).cleared i p small left := by
  have hroom : (s.lane i).returnRoom = 0 := Nat.sub_eq_zero_of_le h
  have hlane : ∀ x, (s.setPoint p x).lane i = s.lane i := fun x => State.lane_congr rfl i
  have hcount : min ((s.point p).unsent + (small.length + 1)) 255
      = min (bump 255 (s.point p).unsent + small.length) 255 := by
    unfold bump
    split <;> omega
  rw [State.cleared, State.cleared, hlane, hroom, State.point_setPoint _ _ _ hp, State.setLane_setPoint,
    State.setPoint_setPoint, List.take_zero, List.take_zero, List.length_cons, Nat.sub_zero, Nat.sub_zero, hcount]

/-! ### Beginning a page (R126, R136) -/

theorem State.awaitSlot_starts {s : State} {i p : Nat} {row : PointRow} (hrow : s.pointRow p = some row)
    (h : (s.lane i).waitTimer = none) : s.awaitSlot i p
      = s.setLane i { s.lane i with waitTimer := some (s.mgmt.uptime + row.wait * 1000) } := by
  simp only [State.awaitSlot, h, hrow]
  rfl

theorem State.awaitSlot_runs {s : State} {i p due : Nat} (h : (s.lane i).waitTimer = some due) :
    s.awaitSlot i p = s := by
  simp only [State.awaitSlot, h]

section
variable {s : State} {i k : Nat} {j : Job} {b : BufId} {rest : List BufId} {bytes : List Byte}

/-- R136: a lane with a page to begin and none going out. -/
def Lane.begins (l : Lane) (j : Job) (b : BufId) (rest : List BufId) (k : Nat) (bytes : List Byte) : Prop :=
  l.goingOut = false ∧ l.job = some j ∧ l.order = b :: rest ∧ l.buf b = .read k bytes

theorem State.laneBegins_eq (h : (s.lane i).begins j b rest k bytes) :
    s.laneBegins i = s.tryPage i j.point b rest k bytes := by
  obtain ⟨hout, hjob, horder, hbuf⟩ := h
  simp only [State.laneBegins, hout, hjob, horder, hbuf]
  rfl

/-- R126: the slots tested, oldest first. -/
theorem State.laneBegins_fits {y : IntakeSlot} {more : List IntakeSlot} (hp : j.point - 1 < s.delivery.points.length)
    (h : (s.lane i).begins j b rest k bytes) (hu : (s.point j.point).unsent ≤ 255)
    (hy : (s.point j.point).intake = y :: more) (hcap : bytes.length ≤ y.cap) : s.laneBegins i
      = (s.setPoint j.point { s.point j.point with intake := more }).sendPage i j.point y.id b rest k bytes := by
  rw [State.laneBegins_eq h, State.tryPage_eq hp, hy, List.takeWhile_cons_of_neg (by simpa using hcap),
    List.length_nil, List.drop_zero, List.tail_cons, State.cleared_nil _ hu]
  rfl

theorem State.laneBegins_none (hp : j.point - 1 < s.delivery.points.length)
    (h : (s.lane i).begins j b rest k bytes) (hu : (s.point j.point).unsent ≤ 255)
    (hy : (s.point j.point).intake = []) : s.laneBegins i = s.awaitSlot i j.point := by
  have hsame : s.setPoint j.point { s.point j.point with intake := [] } = s := by
    rw [← hy]
    exact s.setPoint_self _
  rw [State.laneBegins_eq h, State.tryPage_eq hp, hy, List.takeWhile_nil, List.length_nil, List.drop_zero,
    List.tail_nil, State.cleared_nil _ hu, hsame]
  rfl

/-- R126: a slot too small: once it has been returned or counted the lane begins as if the list began after it. -/
theorem State.laneBegins_small {u : State} {y : IntakeSlot} {more : List IntakeSlot}
    (hp : j.point - 1 < s.delivery.points.length) (hpu : j.point - 1 < u.delivery.points.length)
    (h : (s.lane i).begins j b rest k bytes) (hu : (u.lane i).begins j b rest k bytes)
    (hy : (s.point j.point).intake = y :: more) (hmore : (u.point j.point).intake = more)
    (hcap : y.cap < bytes.length)
    (hclear : ∀ small left, s.cleared i j.point (y :: small) left = u.cleared i j.point small left) :
    s.laneBegins i = u.laneBegins i := by
  rw [State.laneBegins_eq h, State.laneBegins_eq hu, State.tryPage_eq hp, State.tryPage_eq hpu, hy, hmore,
    List.takeWhile_cons_of_pos (by simpa using hcap), List.length_cons, List.drop_succ_cons, hclear]

end

/-! ### The frames of a page (R136) -/

/-- R136: 1,024 bytes to a frame, the last one shorter. -/
theorem dataFrames_spec (p slot offset : Nat) (bytes : List Byte) (n : Nat) (h : bytes.length ≤ n) :
    (dataFrames p slot offset bytes n).length = (bytes.length + 1023) / 1024
      ∧ ∀ m, m < (dataFrames p slot offset bytes n).length → (dataFrames p slot offset bytes n)[m]?
        = some ⟨p, .pageData slot (offset + m * 1024) ((bytes.drop (m * 1024)).take 1024)⟩ := by
  induction n generalizing offset bytes with
  | zero =>
    obtain rfl : bytes = [] := List.eq_nil_of_length_eq_zero (Nat.le_zero.1 h)
    simp [dataFrames]
  | succ n ih =>
    cases bytes with
    | nil => simp [dataFrames]
    | cons a t =>
      have hrest : ((a :: t).drop 1024).length ≤ n := by
        simp only [List.length_drop, List.length_cons] at h ⊢
        omega
      obtain ⟨hlen, hat⟩ := ih (offset + 1024) ((a :: t).drop 1024) hrest
      have hframes : dataFrames p slot offset (a :: t) (n + 1)
          = ⟨p, .pageData slot offset ((a :: t).take 1024)⟩
            :: dataFrames p slot (offset + 1024) ((a :: t).drop 1024) n := rfl
      rw [hframes]
      refine ⟨?_, fun m hm => ?_⟩
      · rw [List.length_cons, hlen, List.length_drop]
        simp only [List.length_cons]
        omega
      · cases m with
        | zero => simp
        | succ m =>
          rw [List.getElem?_cons_succ, hat m (Nat.lt_of_succ_lt_succ hm), List.drop_drop, Nat.add_assoc,
            show 1024 + m * 1024 = (m + 1) * 1024 by omega]

theorem pageFrames_eq (p slot : Nat) (d : Doc) (x : PageRecord) (bytes : List Byte) (v : Verdict) :
    pageFrames p slot d x bytes v = [⟨p, .pageHead d.receipt x.number slot bytes.length x.res x.width v
        (decide (x.number = d.pages.length))⟩] ++ dataFrames p slot 0 bytes bytes.length
      ++ [⟨p, .pageTail slot (crc32 bytes)⟩] := rfl

/-! ### The page sent -/

theorem State.laneDoc_setLane {s : State} {i : Nat} {l : Lane} (hi : i < s.delivery.lanes.length)
    (hj : l.job = (s.lane i).job) : (s.setLane i l).laneDoc i = s.laneDoc i := by
  rw [State.laneDoc, State.laneDoc, State.lane_setLane s i l hi, hj]
  rfl

theorem State.setLane_produce {s : State} {i : Nat} (l : Lane) (fs : List OfficeFrame)
    (hi : i < s.delivery.lanes.length) :
    (s.setLane i l).produce i fs = s.setLane i { l with produced := l.produced ++ fs } := by
  rw [State.produce, State.lane_setLane s i l hi, State.setLane_setLane]

theorem State.setLane_setRecord (s : State) (i r : Nat) (l : Lane) (x : PageRecord) :
    (s.setLane i l).setRecord r x = (s.setRecord r x).setLane i l := rfl

section
variable {s : State} {i slot p k : Nat} {b : BufId} {rest : List BufId} {bytes : List Byte} {d : Doc} {x : PageRecord}

/-- R136: the page in its slot, its send count raised, its frames produced. -/
theorem State.sendPage_eq (y : Nat) (hi : i < s.delivery.lanes.length) (hd : s.laneDoc i = some (slot, d))
    (hx : s.record (d.pages.getD (k - 1) 0) = some x) : s.sendPage i p y b rest k bytes
      = (s.setRecord (d.pages.getD (k - 1) 0) { x with sends := x.sends + 1 }).setLane i
        { (s.lane i).setBuf b (.goingOut k bytes y) with
          order := rest, waitTimer := none
          produced := (s.lane i).produced ++ pageFrames p y d { x with sends := x.sends + 1 } bytes
            ((x.finish.map Finish.verdict).getD .damaged) } := by
  have hrec : ∀ l, (s.setLane i l).record (d.pages.getD (k - 1) 0) = some x := fun _ => hx
  unfold State.sendPage
  dsimp only
  rw [State.laneDoc_setLane hi, hd]
  · dsimp only
    rw [hrec]
    dsimp only
    rw [State.setLane_setRecord, State.setLane_produce _ _ (i := i)]
    · cases b <;> rfl
    · exact hi
  · exact Lane.job_setBuf _ _ _

end

/-- Settles O42: what is tested is the head of the list, then the list after it. -/
theorem laneBeginsThePage : Obligations.LaneBeginsThePage := by
  refine ⟨fun s i slot k j b rest bytes d x row hi hp hj hd hout ho hb hx hrow hu => ?_,
    fun p slot d x bytes v => ⟨pageFrames_eq p slot d x bytes v, ?_⟩⟩
  · intro l
    have hbegins : l.begins j b rest k bytes := ⟨hout, hj, ho, hb⟩
    refine ⟨fun y more hy hcap => ?_, fun y more hy hcap hroom => ?_, fun y more hy hcap hfull => ?_,
      fun hy hw => ?_, fun due hy hw => ?_⟩
    · rw [State.laneBegins_fits hp hbegins hu hy hcap]
      exact State.sendPage_eq (s := s.setPoint j.point _) y.id hi hd hx
    · have hlane := State.lane_setLane (s.setPoint j.point { s.point j.point with intake := more }) i
        { l with produced := l.produced ++ [⟨j.point, .slotReturn y.id .tooSmall⟩] } hi
      refine State.laneBegins_small hp (by simpa using hp) hbegins (by rw [hlane]; exact hbegins) hy ?_ hcap
        fun small left => State.cleared_returned y small more left hi hp hroom
      exact congrArg Point.intake (State.point_setPoint s j.point _ hp)
    · refine State.laneBegins_small hp (by simpa using hp) hbegins hbegins hy ?_ hcap
        fun small left => State.cleared_counted y small more left hp hfull
      exact congrArg Point.intake (State.point_setPoint s j.point _ hp)
    · rw [State.laneBegins_none hp hbegins hu hy]
      exact State.awaitSlot_starts hrow hw
    · rw [State.laneBegins_none hp hbegins hu hy]
      exact State.awaitSlot_runs hw
  · obtain ⟨hlen, hat⟩ := dataFrames_spec p slot 0 bytes bytes.length (Nat.le_refl _)
    exact ⟨hlen, fun n hn => by rw [hat n hn, Nat.zero_add]⟩

end Sys2Proof.Machine
end

section
/-! THEOREMS. The frames and the reports of the Office Port (spec/07_delivery_lanes_on_the_office_link.md, section
7.1). -/

namespace Sys2Proof.Machine

open Sys2Proof.Config

section
variable {s : State} (ha : s.awake)
include ha

theorem exec_officeLinkAlive_eq : exec .officeLinkAlive s = .next s.officeGood := by
  change execOfficeLinkAlive s = _
  rw [execOfficeLinkAlive, act_awake _ s ha]

theorem exec_foreignOfficeFrame_eq : exec .foreignOfficeFrame s = .next s.officeGood := by
  change execForeignOfficeFrame s = _
  rw [execForeignOfficeFrame, act_awake _ s ha]

theorem exec_badOfficeFrame_eq (crcOk : Bool) :
    exec (.badOfficeFrame crcOk) s = .next (if crcOk then s.officeGood.officeBad else s.officeBad) := by
  change execBadOfficeFrame crcOk s = _
  rw [execBadOfficeFrame, act_awake _ s ha]

theorem exec_officeKeepaliveSend_eq (h : s.office.keepalive ≤ 281474976710655) : exec .officeKeepaliveSend s
    = .next ((s.advanceTo s.office.keepalive).officeSent { dest := 0, body := .linkAlive }) := by
  change execOfficeKeepaliveSend s = _
  rw [execOfficeKeepaliveSend, act_awake _ s ha, expiring_some h]

/-- R192: at a report of UP the Management Unit goes on handing notices. -/
theorem exec_officeLinkStateReport_eq {st : LinkState} {rest : List PortReport}
    (h : s.waiting.portReports = .link st :: rest) :
    let u : State := { s with waiting := { s.waiting with portReports := rest } }
    exec .officeLinkStateReport s = .next (if st = .up then u.handNotice else u) := by
  change execOfficeLinkStateReport s = _
  rw [execOfficeLinkStateReport, act_awake _ s ha, h]
  cases st <;> rfl

theorem exec_discardedNotice_eq {rest : List PortReport} (h : s.waiting.portReports = .discardedNotice :: rest) :
    exec (.frameDiscardedReport .management) s = .next { s with
      waiting := { s.waiting with portReports := rest }, mgmt := { s.mgmt with noticeOut := false } } := by
  change execFrameDiscardedReport .management s = _
  rw [execFrameDiscardedReport, act_awake _ s ha]
  dsimp only
  rw [h]

theorem exec_discardedReply_eq {restart : Bool} {rest : List PortReport}
    (h : s.waiting.portReports = .discardedReply restart :: rest) :
    exec (.frameDiscardedReport .management) s
      = .next (({ s with waiting := { s.waiting with portReports := rest } } : State).replyDone restart) := by
  change execFrameDiscardedReport .management s = _
  rw [execFrameDiscardedReport, act_awake _ s ha]
  dsimp only
  rw [h]

/-- R130: a discarded report frees the way of its lane. -/
theorem exec_discardedLane_eq {i : Nat} (h : i ∈ s.waiting.laneDiscards) :
    exec (.frameDiscardedReport (.lane i)) s = .next ((({ s with
      waiting := { s.waiting with laneDiscards := s.waiting.laneDiscards.erase i } } : State).setLane i
        { s.lane i with pending := .none }).laneOn i) := by
  change execFrameDiscardedReport (.lane i) s = _
  rw [execFrameDiscardedReport, act_awake _ s ha]
  dsimp only
  rw [if_pos (List.contains_iff_mem.2 h), State.laneDiscarded, eraseFirst_eq_erase]

/-- R120: the oldest frame handed has left the link. -/
theorem exec_frameSentReport_eq {h : Hander} {f : OfficeFrame} {rest : List (Hander × OfficeFrame)}
    (hq : s.office.queue = (h, f) :: rest) : exec .frameSentReport s = .next (({ s with
      office := { s.office with queue := rest, output := some f, keepalive := s.mgmt.uptime + 1000 } } : State).sentTo
        h f) := by
  have hsent : (({ s with office := { s.office with queue := rest } } : State).officeSent f) = { s with
      office := { s.office with queue := rest, output := some f, keepalive := s.mgmt.uptime + 1000 } } := rfl
  change execFrameSentReport s = _
  rw [execFrameSentReport, act_awake _ s ha, hq]
  dsimp only
  rw [hsent]

end

/-- Settles O31: each clause is the equation of its command; what a frame seen does is read off its point. -/
theorem officeFramesAndReports : Obligations.OfficeFramesAndReports := by
  refine ⟨fun s src => ?_, fun s ha => ⟨fun h => exec_officeKeepaliveSend_eq ha h,
    fun st rest h => exec_officeLinkStateReport_eq ha h, fun rest h => exec_discardedNotice_eq ha h,
    fun rest h => exec_discardedReply_eq ha h, fun rest h => exec_discardedReply_eq ha h,
    fun i h => exec_discardedLane_eq ha h⟩⟩
  intro up counted
  have hup : s.officeGood = up := s.officeGood_eq
  refine ⟨fun ha => ⟨?_, ?_, ?_, ?_⟩, fun h1 h30 hst => ?_, fun h => ?_⟩
  · rw [exec_officeLinkAlive_eq ha, hup]
  · rw [exec_foreignOfficeFrame_eq ha, hup]
  · rw [exec_badOfficeFrame_eq ha, if_pos rfl, hup]
    rfl
  · exact exec_badOfficeFrame_eq ha false
  · rw [State.officeArrival_stalled ((pointOk_iff src).2 ⟨h1, h30⟩) hst, State.pointState, State.officeGood_point, hst,
      hup]
    rfl
  · rw [← hup]
    refine State.officeArrival_seen fun hp hst => ?_
    obtain ⟨h1, h30⟩ := (pointOk_iff src).1 hp
    obtain h | h | h := h
    · omega
    · omega
    · exact h hst

/-! ### What the sent report of a frame does at its lane (R133, R137, R156) -/

section
variable {s : State} {i : Nat} {l : Lane} (hi : i < s.delivery.lanes.length)
include hi

theorem State.offerSent_offering {j : Job} {row : PointRow} (hst : l.state = .offering) (hj : l.job = some j)
    (hrow : s.pointRow j.point = some row) : (s.setLane i l).offerSent i
      = s.setLane i { l with acceptTimer := some (s.mgmt.uptime + row.accept * 1000) } := by
  have hrow' : (s.setLane i l).pointRow j.point = some row := hrow
  unfold State.offerSent
  rw [State.lane_setLane s i l hi]
  dsimp only
  rw [if_pos hst, State.setLane_setLane, hj, Option.bind_some, hrow']
  rfl

theorem State.offerSent_ended (hst : l.state ≠ .offering) : (s.setLane i l).offerSent i = s.setLane i l := by
  unfold State.offerSent
  rw [State.lane_setLane s i l hi]
  exact if_neg hst

/-- R137: the ack timer of a page whose tail has been sent; none in WITHDRAWING (log 17). -/
def Lane.ackDue (l : Lane) (now : Nat) (row : PointRow) : Option Nat :=
  if l.state = .withdrawing then none else some (now + row.ack * 1000)

section
variable {j : Job} {row : PointRow} {k slot : Nat} {bytes : List Byte} (hj : l.job = some j)
  (hrow : s.pointRow j.point = some row)
include hj hrow

theorem State.tailSent_first (hb : l.buf0 = .goingOut k bytes slot) : (s.setLane i l).tailSent i
    = s.setLane i { l with buf0 := .outstanding k bytes slot (l.ackDue s.mgmt.uptime row) } := by
  have hrow' : (s.setLane i l).pointRow j.point = some row := hrow
  unfold State.tailSent
  rw [State.lane_setLane s i l hi]
  dsimp only
  rw [hb]
  dsimp only
  rw [State.setLane_setLane, hj, Option.bind_some, hrow']
  rfl

theorem State.tailSent_second (h0 : l.buf0.goes = false) (hb : l.buf1 = .goingOut k bytes slot) :
    (s.setLane i l).tailSent i
      = s.setLane i { l with buf1 := .outstanding k bytes slot (l.ackDue s.mgmt.uptime row) } := by
  have hrow' : (s.setLane i l).pointRow j.point = some row := hrow
  unfold State.tailSent
  rw [State.lane_setLane s i l hi]
  dsimp only
  split
  · next h => simp [h, PageBuf.goes] at h0
  · next k' bytes' slot' h _ =>
    rw [hb] at h
    cases h
    rw [State.setLane_setLane, hj, Option.bind_some, hrow']
    rfl
  · next h => exact absurd hb (h _ _ _)

end

theorem State.withdrawSent_eq :
    (s.setLane i l).withdrawSent i = (s.setLane i { l with withdrawn := true }).withdrawalMayEnd i := by
  rw [State.withdrawSent, State.lane_setLane s i l hi, State.setLane_setLane]

end

theorem State.laneFrameSent_offer {s : State} {i : Nat} {f : OfficeFrame} {a b c d e g k}
    (h : f.body = .offer a b c d e g k) : s.laneFrameSent i f = s.offerSent i := by
  simp only [State.laneFrameSent, h]

theorem State.laneFrameSent_tail {s : State} {i : Nat} {f : OfficeFrame} {slot check}
    (h : f.body = .pageTail slot check) : s.laneFrameSent i f = s.tailSent i := by
  simp only [State.laneFrameSent, h]

theorem State.laneFrameSent_withdraw {s : State} {i : Nat} {f : OfficeFrame} {receipt}
    (h : f.body = .withdraw receipt) : s.laneFrameSent i f = s.withdrawSent i := by
  simp only [State.laneFrameSent, h]

/-- R133, R137, R156: the frames with no report of their own. -/
theorem State.laneFrameSent_other {s : State} {i : Nat} {f : OfficeFrame}
    (ho : ∀ a b c d e g k, f.body ≠ .offer a b c d e g k) (ht : ∀ slot check, f.body ≠ .pageTail slot check)
    (hw : ∀ receipt, f.body ≠ .withdraw receipt) : s.laneFrameSent i f = s := by
  unfold State.laneFrameSent
  split
  · next h => exact absurd h (ho _ _ _ _ _ _ _)
  · next h => exact absurd h (ht _ _)
  · next h => exact absurd h (hw _)
  · rfl

theorem State.laneSent_stale {s : State} {i : Nat} {f : OfficeFrame} (h : (s.lane i).pending ≠ .current) :
    s.laneSent i f = (s.setLane i { s.lane i with pending := .none }).laneOn i := by
  unfold State.laneSent
  dsimp only
  rw [if_neg h]

theorem State.laneSent_current {s : State} {i : Nat} {f : OfficeFrame} (h : (s.lane i).pending = .current) :
    s.laneSent i f = ((s.setLane i { s.lane i with pending := .none }).laneFrameSent i f).laneOn i := by
  unfold State.laneSent
  dsimp only
  rw [if_pos h]

/-- Settles O32: the hander of the frame sent, then the frame of a lane's present delivery. -/
theorem frameSentIsReported : Obligations.FrameSentIsReported := by
  intro s h f rest ha hq u run
  have hrun : run = .next (u.sentTo h f) := exec_frameSentReport_eq ha hq
  rw [hrun]
  refine ⟨?_, ?_, ?_, ?_⟩
  · rintro p rfl
    rfl
  · rintro rfl
    rfl
  · rintro r rfl hbody
    have hsent : u.sentTo .reply f = u.replyDone r.restart := by simp only [State.sentTo, hbody]
    rw [hsent]
    exact ⟨fun hr => by rw [hr]; rfl, fun hr => by rw [hr]; rfl⟩
  · rintro i rfl hi l told
    have hcurrent : (s.lane i).pending = .current →
        u.sentTo (.lane i) f = ((u.setLane i l).laneFrameSent i f).laneOn i := State.laneSent_current (s := u)
    have htold : ∀ m, u.sentTo (.lane i) f = (u.setLane i m).laneOn i → told m := fun m hm =>
      congrArg Host.Outcome.next hm
    refine ⟨fun hst => htold _ (State.laneSent_stale (s := u) (hst ▸ by decide)), fun a b c d e g k hc hbody => ?_,
      fun slot check j row k bytes x hc hbody hj hrow => ?_, fun receipt hc hbody => ?_, fun hc ho ht hw => ?_⟩
    · have hoffer := (hcurrent hc).trans (congrArg (State.laneOn · i) (State.laneFrameSent_offer hbody))
      refine ⟨fun hst => htold _ ?_, fun j row hst hj hrow => htold _ ?_⟩
      · rw [hoffer, State.offerSent_ended (s := u) hi hst]
      · rw [hoffer, State.offerSent_offering (s := u) hi hst hj hrow]
    · have htail := (hcurrent hc).trans (congrArg (State.laneOn · i) (State.laneFrameSent_tail hbody))
      refine ⟨fun hb => htold _ ?_, fun h0 hb => htold _ ?_⟩
      · rw [htail, State.tailSent_first (s := u) hi hj hrow hb]
        rfl
      · rw [htail, State.tailSent_second (s := u) hi hj hrow h0 hb]
        rfl
    · rw [hcurrent hc, State.laneFrameSent_withdraw hbody, State.withdrawSent_eq (s := u) hi]
    · exact htold _ ((hcurrent hc).trans (congrArg (State.laneOn · i) (State.laneFrameSent_other ho ht hw)))

end Sys2Proof.Machine
end

section
/-! THEOREMS. The loss of the office link (spec/07_delivery_lanes_on_the_office_link.md, section 7.1; R121, R159): the
lanes need not all go IDLE where two documents carry one receipt number. -/

namespace Sys2Proof.Machine

open Sys2Proof.Config

theorem exec_officeSilenceExpiry_eq {s : State} {due : Nat} (ha : s.awake) (hs : s.office.silence = some due)
    (hd : due ≤ 281474976710655) : exec .officeSilenceExpiry s = .next (s.advanceTo due).officeDown := by
  change execOfficeSilenceExpiry s = _
  rw [execOfficeSilenceExpiry, act_awake _ s ha, hs, expiring_some hd]

/-! ### Two documents with one receipt number -/

/-- A document that a lane serves. -/
def twinDoc : Doc :=
  { receipt := 9, state := .delivering, channel := none, called := [49], caller := none, station := none, routed := 3,
    current := 3, cls := .routine, hours := 1, routeGen := 1, screening := .none, openTime := ⟨0, 0⟩, closeTime := none,
    pages := [], incomplete := false, damaged := 0, hold := none, attempts := 0, notBefore := none, ackThrough := 0,
    resume := none, expiry := none }

/-- The state before its lanes serve: one receipt number in slots 0 and 1, a DOC_PURGE of it held in the request slot,
and the office link about to be lost. -/
def twinDocs : State :=
  let s := (State.reset.setDoc 0 twinDoc).setDoc 1 twinDoc
  { s with
    office := { s.office with link := .up, silence := some 3000 }
    mgmt := { s.mgmt with slot := .deferred ⟨31, 1, true, false⟩ .purge 9 true } }

/-- Lane 0 has given up slot 1 for the purge (R154); lane 1 sends slot 0. -/
def twinLanes : State :=
  (((twinDocs.setPoint 2 { Point.initial with lane := some 0 }).setLane 0
      { Lane.initial with state := .withdrawing, job := some ⟨1, 2⟩ }).setPoint 4
    { Point.initial with lane := some 1 }).setLane 1 { Lane.initial with state := .sending, job := some ⟨0, 4⟩ }

theorem lanesOk_twinLanes : twinLanes.lanesOk := by
  have hdocs : twinDocs.lanesOk := State.keepsLanes_quiet (s := State.reset) (by simp [twinDocs])
    (State.lanesOk_afterReset [] [] (Management.afterReset .powerOn ⟨0, 0⟩ false))
  refine State.keepsLanes_occupy (j := ⟨0, 4⟩) ?_ ?_ ?_ ?_ ?_ ?_ rfl rfl
    (State.keepsLanes_occupy (j := ⟨1, 2⟩) ?_ ?_ ?_ ?_ ?_ ?_ rfl rfl hdocs)
  all_goals decide

theorem docs_twinLanes (i : Nat) (hi : i < 4) (hbusy : (twinLanes.lane i).state ≠ .idle) :
    (twinLanes.laneDoc i).isSome = true := by
  revert i
  decide

theorem slots_twinLanes (i k : Nat) (hi : i < 4) (hk : k < 4) (hne : i ≠ k)
    (hjob : (twinLanes.lane i).job.isSome = true) :
    (twinLanes.lane i).job.map Job.slot ≠ (twinLanes.lane k).job.map Job.slot := by
  revert k
  revert i
  decide

/-- R25, R159: the purge completes when lane 0 ends, and frees the document of slot 0, the first that carries the
number; lane 1, whose document that was, is left in SENDING. -/
theorem lane_left_sending : ((twinLanes.advanceTo 3000).officeDown.lane 1).state = .sending := by
  decide +kernel

/-- Refutes O33: nothing in its hypotheses keeps two documents from carrying one receipt number (R13), and then the
request held for the document of one lane can free that of another, whose delivery no suspension ends. -/
theorem not_officeSilenceEndsDeliveries : ¬ Obligations.OfficeSilenceEndsDeliveries := by
  rintro ⟨_, hends⟩
  obtain ⟨t, hrun, _, _, _, _, _, hidle, _⟩ :=
    hends twinLanes 3000 rfl rfl (by decide) lanesOk_twinLanes docs_twinLanes slots_twinLanes
  have heq := exec_officeSilenceExpiry_eq (s := twinLanes) (due := 3000) rfl rfl (by decide)
  obtain rfl : (twinLanes.advanceTo 3000).officeDown = t := Host.Outcome.next.inj (heq.symm.trans hrun)
  have hstate := (hidle 1 (by decide)).1
  rw [lane_left_sending] at hstate
  cases hstate

end Sys2Proof.Machine
end

section
/-! THEOREMS. How an offer ends: ACCEPT begins the transfer, DECLINE hands the document back
(spec/07_delivery_lanes_on_the_office_link.md, section 7.5; spec/08_delivery_faults_retry_and_withdrawal.md, section
8.2). -/

namespace Sys2Proof.Machine

open Sys2Proof.Config

section
variable {s : State} {p receipt i slot : Nat} {d : Doc} (ht : s.pointTaken p) (hr : receiptOk receipt = true)
  (ho : s.offering p receipt = some (i, slot, d))
include ht hr ho

theorem exec_accept_eq : exec (.accept p receipt) s = .next ((s.officeArrival p).accepted i d) := by
  have hp : pointOk p = true := (pointOk_iff p).2 ⟨ht.2.1, ht.2.2.1⟩
  change execAccept p receipt s = _
  rw [execAccept, act_awake _ s ht.1, State.deliveryFrame_taken _ (by simp [hp, hr]) ht]
  simp only [State.offering_officeArrival, ho]

theorem exec_decline_eq {retry : Nat} (hretry : retry ≤ 255) :
    exec (.decline p receipt retry) s = .next ((s.officeArrival p).declined i slot d p retry) := by
  have hp : pointOk p = true := (pointOk_iff p).2 ⟨ht.2.1, ht.2.2.1⟩
  change execDecline p receipt retry s = _
  rw [execDecline, act_awake _ s ht.1,
    State.deliveryFrame_taken _ (by simp [hp, hr, within, max8, hretry]) ht]
  simp only [State.offering_officeArrival, ho]

end

/-- R134: what an ACCEPT makes of its lane. -/
theorem State.accepted_eq (s : State) (i : Nat) (d : Doc) : s.accepted i d
    = ((s.clearSends d.pages).setLane i { s.lane i with
        state := .sending, acceptTimer := none, nextRead := some (d.ackThrough + 1), acked := [] }).laneOn i := rfl

/-- R147: the not-before of a declined document counts from the uptime at the frame. -/
theorem State.declined_eq (s : State) (i slot : Nat) (d : Doc) (p retry : Nat) : s.declined i slot d p retry
    = (((s.setDoc slot { d with
        state := .queued, notBefore := some (s.mgmt.uptime + retry * 1000) }).queueHead d.current slot).raise
          .deliveryUnit (.deliverySuspended .declined d.receipt d.current p d.attempts retry)).endLane i := rfl

theorem State.uptime_officeArrival (s : State) (src : Nat) : (s.officeArrival src).mgmt.uptime = s.mgmt.uptime := by
  simp

/-- Settles O36: the frame meets the lane that offers the receipt number (R157), and neither its lane nor the uptime
is changed by the frame seen before it. -/
theorem acceptAndDecline : Obligations.AcceptAndDecline := by
  rintro s p receipt i slot d ht hr hlane hstate hdoc rfl a
  have ho : s.offering p d.receipt = some (i, slot, d) :=
    (s.offering_iff p d.receipt i slot d).2 ⟨hlane, hstate, hdoc, rfl⟩
  refine ⟨?_, fun retry hretry => ?_⟩
  · rw [exec_accept_eq ht hr ho, State.accepted_eq, State.lane_officeArrival]
    rfl
  · rw [exec_decline_eq ht hr ho hretry, State.declined_eq, State.uptime_officeArrival]

end Sys2Proof.Machine
end

section
/-! THEOREMS. Suspensions, counted and uncounted, and the three timers of a lane
(spec/08_delivery_faults_retry_and_withdrawal.md, sections 8.1 and 8.3). -/

namespace Sys2Proof.Machine

open Sys2Proof.Config

/-! ### The parts of a counted suspension (R148, R149, R150) -/

/-- R149: the table of back-offs. -/
theorem backoff_eq : ∀ n, backoff n = if n = 1 then 15 else if n = 2 then 30 else if n = 3 then 60
    else if n = 4 then 120 else if n = 5 then 240 else 480
  | 0 | 1 | 2 | 3 | 4 | 5 => rfl
  | n + 6 => by simp [backoff]

theorem SuspendReason.timeout_iff (r : SuspendReason) :
    SuspendReason.timeout r = true ↔ r = .acceptTimeout ∨ r = .ackTimeout ∨ r = .intakeUnavailable := by
  cases r <;> simp [SuspendReason.timeout]

/-- R148 step 4, R150: the failure count up, and for a timeout STALLED with its notice. -/
theorem State.failPoint_eq {s : State} {p : Nat} (reason : SuspendReason) (h : p - 1 < s.delivery.points.length) :
    let x := s.point p
    s.failPoint p reason = if reason = .acceptTimeout ∨ reason = .ackTimeout ∨ reason = .intakeUnavailable then
        (s.setPoint p { x with failures := bump 255 x.failures, state := .stalled }).raise .deliveryUnit
          (.pointChanged p x.state .stalled)
      else s.setPoint p { x with failures := bump 255 x.failures } := by
  unfold State.failPoint
  simp only [State.pointState_setPoint _ _ h, SuspendReason.timeout_iff]
  rfl

theorem State.point_afterAttempt (s : State) (slot : Nat) (d : Doc) (p : Nat) :
    (s.afterAttempt slot d).point p = s.point p := State.point_congr (by simp) p

section
variable {s : State} {i slot : Nat} {j : Job} {d : Doc} (hj : (s.lane i).job = some j)
  (hd : s.laneDoc i = some (slot, d)) (reason : SuspendReason)
include hj hd

theorem State.suspendCounted_serving :
    let e : Doc := { d with attempts := d.attempts + 1 }
    s.suspendCounted i reason = ((((s.afterAttempt slot e).failPoint j.point reason).suspendNotices j.point e
      reason).endLane i).completeIf (s.lane i).state d.receipt := by
  simp only [State.suspendCounted, hj, hd]

theorem State.suspendUncounted_serving : s.suspendUncounted i reason
    = (((s.handBack slot d none).raise .deliveryUnit (.deliverySuspended reason d.receipt d.current j.point d.attempts
        0)).endLane i).completeIf (s.lane i).state d.receipt := by
  simp only [State.suspendUncounted, hj, hd]

end

/-! ### The timers of a lane (R143 to R145) -/

theorem State.laneExpiry_due (s : State) (i : Nat) {due : Nat} (reason : SuspendReason)
    (h : due ≤ 281474976710655) : s.laneExpiry i (some due) reason = (s.advanceTo due).suspendCounted i reason := by
  rw [State.laneExpiry, expiring_some h]

section
variable {s : State} {i due : Nat} (ha : s.awake) (hdue : due ≤ 281474976710655)
include ha hdue

theorem exec_acceptTimerExpiry_eq (h : (s.lane i).acceptTimer = some due) :
    exec (.acceptTimerExpiry i) s = .next ((s.advanceTo due).suspendCounted i .acceptTimeout) := by
  change execAcceptTimerExpiry i s = _
  rw [execAcceptTimerExpiry, act_awake _ s ha, h, State.laneExpiry_due s i _ hdue]

theorem exec_ackTimerExpiry_eq {b : BufId} {k slot : Nat} {bytes : List Byte}
    (h : (s.lane i).buf b = .outstanding k bytes slot (some due)) :
    exec (.ackTimerExpiry i b) s = .next ((s.advanceTo due).suspendCounted i .ackTimeout) := by
  change execAckTimerExpiry i b s = _
  rw [execAckTimerExpiry, act_awake _ s ha, h, PageBuf.due, State.laneExpiry_due s i _ hdue]

theorem exec_intakeWaitExpiry_eq (h : (s.lane i).waitTimer = some due) :
    exec (.intakeWaitExpiry i) s = .next ((s.advanceTo due).suspendCounted i .intakeUnavailable) := by
  change execIntakeWaitExpiry i s = _
  rw [execIntakeWaitExpiry, act_awake _ s ha, h, State.laneExpiry_due s i _ hdue]

end

/-- Settles O40: the parts of a suspension in their order, the context of the point being as the document's return
left it; each timer by its own command. -/
theorem suspensionOutcomes : Obligations.SuspensionOutcomes := by
  refine ⟨fun s i slot j d reason hj hd hp => ?_, fun s i due ha hdue =>
    ⟨exec_acceptTimerExpiry_eq ha hdue, fun b k bytes slot => exec_ackTimerExpiry_eq ha hdue,
      exec_intakeWaitExpiry_eq ha hdue⟩⟩
  intro n delay later held placed x failed told back fin
  have hdelay : backoff n = delay := backoff_eq n
  have hplaced : s.afterAttempt slot { d with attempts := n } = placed := by
    simp only [State.afterAttempt, hdelay]
    rfl
  have hpoint : placed.point j.point = x := hplaced ▸ s.point_afterAttempt slot _ j.point
  have hfailed : placed.failPoint j.point reason = failed := by
    rw [State.failPoint_eq reason (by rw [← hplaced]; simpa using hp), hpoint]
  have htold : failed.suspendNotices j.point { d with attempts := n } reason = told := by
    simp only [State.suspendNotices, hdelay]
    rfl
  refine ⟨?_, State.suspendUncounted_serving hj hd reason⟩
  rw [State.suspendCounted_serving hj hd, hplaced, hfailed, htold]
  rfl

end Sys2Proof.Machine
end

section
/-! THEOREMS. A withdrawal from its request to its end, and the request held for it
(spec/08_delivery_faults_retry_and_withdrawal.md, section 8.5; R25, R116). -/

namespace Sys2Proof.Machine

open Sys2Proof.Config

/-! ### The lane that serves a document (R154) -/

theorem State.laneServing_none {s : State} {r : Nat}
    (h : ∀ i, i < 4 → ∀ slot d, s.laneDoc i = some (slot, d) → d.receipt ≠ r) : s.laneServing r = none := by
  refine List.find?_eq_none.2 fun i hi hserves => ?_
  obtain ⟨e, he, hr⟩ : ∃ e, s.laneDoc i = some e ∧ e.2.receipt = r := by simpa using hserves
  exact h i (List.mem_range.1 hi) e.1 e.2 he hr

theorem State.laneServing_some {s : State} {r i slot : Nat} {d : Doc} (hi : i < 4)
    (hd : s.laneDoc i = some (slot, d)) (hr : d.receipt = r)
    (hfirst : ∀ k, k < i → ∀ x e, s.laneDoc k = some (x, e) → e.receipt ≠ r) : s.laneServing r = some i := by
  refine List.find?_range_eq_some.2 ⟨by simp [hd, hr], List.mem_range.2 hi, fun k hk => ?_⟩
  cases hk' : s.laneDoc k with
  | none => rfl
  | some e => simpa using hfirst k hk e.1 e.2 hk'

/-! ### The request and the end of a withdrawal (R154, R156) -/

theorem exec_withdrawalRequest_eq {s : State} {h : ReqHead} {kind : DocReq} {r : Nat} (ha : s.awake)
    (hs : s.mgmt.slot = .deferred h kind r false) : exec .withdrawalRequest s
      = .next (({ s with mgmt := { s.mgmt with slot := .deferred h kind r true } } : State).takeWithdrawal r) := by
  change execWithdrawalRequest s = _
  rw [execWithdrawalRequest, act_awake _ s ha]
  simp only [hs]

theorem State.takeWithdrawal_unserved {s : State} {r : Nat} (h : s.laneServing r = none) :
    s.takeWithdrawal r = s.completeDeferred r := by
  simp only [State.takeWithdrawal, h]

theorem State.takeWithdrawal_served {s : State} {r i : Nat} {j : Job} (h : s.laneServing r = some i)
    (hj : (s.lane i).job = some j) : s.takeWithdrawal r = s.withdraw i j.point r := by
  simp only [State.takeWithdrawal, h, hj]
  rfl

/-- R154 step 3: what a lane told to withdraw makes of its frames, for any test that keeps those of no page. -/
theorem State.withdraw_eq (s : State) (i p r : Nat) {kept : OfficeFrame → Bool} (hkept : ∀ f, kept f = !f.ofPage) :
    s.withdraw i p r = (s.setLane i { s.lane i with
      state := .withdrawing, acceptTimer := none, waitTimer := none
      buf0 := (s.lane i).buf0.stopped, buf1 := (s.lane i).buf1.stopped
      produced := (s.lane i).produced.filter kept ++ [⟨p, .withdraw r⟩], withdrawn := false }).handLane i := by
  obtain rfl : kept = fun f => !f.ofPage := funext hkept
  rfl

theorem State.withdrawalMayEnd_ends {s : State} {i slot : Nat} {d : Doc} (hd : s.laneDoc i = some (slot, d))
    (h : (s.lane i).state = .withdrawing ∧ (s.lane i).withdrawn = true ∧ (s.lane i).reading = .none) :
    s.withdrawalMayEnd i = ((s.setDoc slot { d with notBefore := none }).endLane i).completeDeferred d.receipt := by
  rw [State.withdrawalMayEnd, if_pos h, State.endWithdrawal, hd]

theorem State.withdrawalMayEnd_waits {s : State} {i : Nat}
    (h : ¬ ((s.lane i).state = .withdrawing ∧ (s.lane i).withdrawn = true ∧ (s.lane i).reading = .none)) :
    s.withdrawalMayEnd i = s := if_neg h

/-! ### The held request completes (R25, R116) -/

section
variable {s : State} {h : ReqHead} {r : Nat} {asked : Bool}

theorem State.completeDeferred_other {kind : DocReq} (hs : s.mgmt.slot = .deferred h kind r asked) {x : Nat}
    (hx : x ≠ r) : s.completeDeferred x = s := by
  simp only [State.completeDeferred, hs, if_neg hx.symm]

theorem State.completeDeferred_hold (hs : s.mgmt.slot = .deferred h .hold r asked) :
    s.completeDeferred r = s.completeHold h r := by
  simp only [State.completeDeferred, hs, if_true]

theorem State.completeDeferred_reroute {t : Nat} (hs : s.mgmt.slot = .deferred h (.reroute t) r asked) :
    s.completeDeferred r = s.completeReroute h r t := by
  simp only [State.completeDeferred, hs, if_true]

theorem State.completeDeferred_purge (hs : s.mgmt.slot = .deferred h .purge r asked) :
    s.completeDeferred r = s.completePurge h r := by
  simp only [State.completeDeferred, hs, if_true]

end

section
variable {s : State} {r : Nat} (h : ReqHead) (hd : s.docOf r = none)
include hd

theorem State.completeHold_gone : s.completeHold h r = s.reply h .docHold .range .none := by
  simp only [State.completeHold, hd]

theorem State.completeReroute_gone (t : Nat) : s.completeReroute h r t = s.reply h .docReroute .range .none := by
  simp only [State.completeReroute, hd]

theorem State.completePurge_gone : s.completePurge h r = s.reply h .docPurge .ok .none := by
  simp only [State.completePurge, hd]

end

section
variable {s : State} {r slot : Nat} {d : Doc} (h : ReqHead) (hd : s.docOf r = some (slot, d))
include hd

theorem State.completeHold_holds (hst : d.state = .delivering ∨ d.state = .queued) :
    s.completeHold h r = (s.holdDoc slot d).reply h .docHold .ok .none := by
  rcases hst with hst | hst <;> simp only [State.completeHold, hd, hst]

theorem State.completeHold_refused (hst : d.state = .held ∨ d.state = .retained) :
    s.completeHold h r = s.reply h .docHold .wrongState .none := by
  rcases hst with hst | hst <;> simp only [State.completeHold, hd, hst]

theorem State.completeReroute_withdrawn (t : Nat) (hst : d.state = .delivering) :
    s.completeReroute h r t = (s.rerouteDoc slot d t).reply h .docReroute .ok .none := by
  simp only [State.completeReroute, hd, hst]

theorem State.completeReroute_returned (t : Nat) (hst : d.state = .queued ∨ d.state = .held) :
    s.completeReroute h r t = (s.rerouteTo slot d t).reply h .docReroute .ok .none := by
  rcases hst with hst | hst <;> simp only [State.completeReroute, hd, hst]

theorem State.completeReroute_refused (t : Nat) (hst : d.state = .retained) :
    s.completeReroute h r t = s.reply h .docReroute .wrongState .none := by
  simp only [State.completeReroute, hd, hst]

theorem State.completePurge_frees (hst : d.state ≠ .receiving) :
    s.completePurge h r = (s.freeDoc slot d true).reply h .docPurge .ok .none := by
  simp only [State.completePurge, hd]

end

/-- Settles O59: the lane that serves the document, the three conditions of the end of its withdrawal, and the held
request by its kind and the state the document was left in. -/
theorem withdrawalsAndHeldRequests : Obligations.WithdrawalsAndHeldRequests := by
  refine ⟨fun s h kind r ha hs => ?_, fun s h kind r asked hs => ?_⟩
  · intro u stop
    rw [exec_withdrawalRequest_eq ha hs]
    refine ⟨fun hno => ?_, fun i slot d j hi hd hr hj hfirst => ?_, fun x i slot d hd =>
      ⟨fun hw hsent hread => State.withdrawalMayEnd_ends hd ⟨hw, hsent, hread⟩,
        fun hwait => State.withdrawalMayEnd_waits ?_⟩⟩
    · rw [State.takeWithdrawal_unserved (State.laneServing_none (s := u) hno)]
    · rw [State.takeWithdrawal_served (State.laneServing_some (s := u) hi hd hr hfirst) hj]
      refine congrArg Host.Outcome.next (State.withdraw_eq u i j.point r fun f => ?_)
      obtain ⟨dest, body⟩ := f
      cases body <;> rfl
    · rintro ⟨hw, hsent, hread⟩
      simp [hw, hsent, hread] at hwait
  · intro run answer
    refine ⟨fun x hx => State.completeDeferred_other hs hx, fun hgone => ⟨?_, ?_, ?_⟩,
      fun slot d hd => ?_⟩
    · rintro rfl
      exact (State.completeDeferred_hold hs).trans (State.completeHold_gone h hgone)
    · rintro rfl
      exact (State.completeDeferred_purge hs).trans (State.completePurge_gone h hgone)
    · rintro t rfl
      exact (State.completeDeferred_reroute hs).trans (State.completeReroute_gone h hgone t)
    · intro n why held moved
      refine ⟨?_, ?_, ?_⟩
      · rintro rfl
        have hrun : run = s.completeHold h r := State.completeDeferred_hold hs
        exact ⟨fun hst => hrun.trans (State.completeHold_holds h hd hst),
          fun hst => hrun.trans (State.completeHold_refused h hd hst)⟩
      · rintro t rfl
        have hrun : run = s.completeReroute h r t := State.completeDeferred_reroute hs
        refine ⟨fun hst => ?_, fun hst hne => ?_, fun hst heq => ?_,
          fun hst => hrun.trans (State.completeReroute_refused h hd t hst)⟩
        · rcases hst with hst | ⟨hst, hne⟩
          · exact hrun.trans (State.completeReroute_withdrawn h hd t hst)
          · rw [hrun, State.completeReroute_returned h hd t (.inl hst), State.rerouteTo_queued s slot hst hne]
            rfl
        · rw [hrun, State.completeReroute_returned h hd t (.inr hst), State.rerouteTo_held s slot hst hne]
          rfl
        · rw [hrun, State.completeReroute_returned h hd t hst, State.rerouteTo_same s slot heq]
      · rintro rfl hst
        exact (State.completeDeferred_purge hs).trans (State.completePurge_frees h hd hst)

end Sys2Proof.Machine
end

section
/-! THEOREMS. The staging requests on the four tables (spec/09_loaded_tables_staging_commit_and_generations.md, section
9.2; R162, R163, R164), and the forms of the entries and the keys they carry (section 9.1). -/

namespace Sys2Proof.Machine

open Sys2Proof.Config

/-! ### The forms of entries and keys (sections 9.1 and 11.1) -/

theorem within_iff (lo hi n : Nat) : within lo hi n = true ↔ lo ≤ n ∧ n ≤ hi := by simp [within]

theorem optionOk_iff {α : Type} {ok : α → Bool} (o : Option α) :
    optionOk ok o = true ↔ ∀ x, o = some x → ok x = true := by
  cases o <;> simp [optionOk]

theorem digitsOk_iff (x : Str) :
    digitsOk x = true ↔ x.length ≤ 16 ∧ ∀ c ∈ x, (48 ≤ c ∧ c ≤ 57) ∨ c = 42 ∨ c = 35 := by
  simp [digitsOk, isDigitChar, or_assoc]

theorem stationOk_iff (x : Str) : stationOk x = true ↔ x.length ≤ 20 ∧ ∀ c ∈ x, 32 ≤ c ∧ c ≤ 126 := by
  simp [stationOk, isPrintable]

theorem lt_mailboxCount_iff (m : Nat) : m < mailboxCount ↔ m ≤ 63 := Nat.lt_succ_iff

theorem routeOk_iff (e : RouteEntry) :
    routeOk e = true ↔ digitsOk e.stem = true ∧ e.mailbox ≤ 63 ∧ e.hours ≤ 720 := by
  simp only [routeOk, Bool.and_eq_true, decide_eq_true_eq, lt_mailboxCount_iff, and_assoc]

theorem screenStrOk_iff (k : MatchKind) (x : Str) : screenStrOk k x = true ↔
    (k = .caller → digitsOk x = true) ∧ (k = .station → stationOk x = true) := by
  cases k <;> simp [screenStrOk]

theorem screenOk_iff (e : ScreenEntry) : screenOk e = true ↔ (e.kind = .caller → digitsOk e.str = true)
    ∧ (e.kind = .station → stationOk e.str = true) ∧ ∀ m, e.target = some m → m ≤ 63 := by
  simp only [screenOk, Bool.and_eq_true, screenStrOk_iff, optionOk_iff, decide_eq_true_eq, lt_mailboxCount_iff,
    and_assoc]

theorem mailRowOk_iff (e : Nat × MailRow) : mailRowOk e = true ↔ e.1 ≤ 63 ∧ 1 ≤ e.2.primary ∧ e.2.primary ≤ 30
    ∧ (∀ p, e.2.alternate = some p → 1 ≤ p ∧ p ≤ 30) ∧ 1 ≤ e.2.quota ∧ e.2.quota ≤ 16384
    ∧ ∀ m, e.2.overflow = some m → m ≤ 63 := by
  simp only [mailRowOk, Bool.and_eq_true, optionOk_iff, within_iff, decide_eq_true_eq, lt_mailboxCount_iff,
    and_assoc, pointCount, blockCount]

theorem pointPutOk_iff (e : Nat × PointPut) : pointPutOk e = true ↔ 1 ≤ e.1 ∧ e.1 ≤ 30
    ∧ (∀ t, e.2.accept = some t → 1 ≤ t ∧ t ≤ 30) ∧ (∀ t, e.2.ack = some t → 1 ≤ t ∧ t ≤ 60)
    ∧ (∀ t, e.2.wait = some t → 5 ≤ t ∧ t ≤ 120) ∧ ∀ n, e.2.maxSlots = some n → 1 ≤ n ∧ n ≤ 16 := by
  simp only [pointPutOk, Bool.and_eq_true, optionOk_iff, within_iff, and_assoc, pointCount]

theorem screenKeyOk_iff (k : MatchKind × Str) : screenKeyOk k = true ↔
    (k.1 = .caller → k.2.length ≤ 16) ∧ (k.1 = .station → k.2.length ≤ 20) := by
  obtain ⟨kind, x⟩ := k
  cases kind <;> simp [screenKeyOk]

/-- R162, R163: a list of entries or keys is 1 to 8 of them, each of its form. -/
theorem formedList_iff {α : Type} {ok : α → Bool} {form : α → Prop} (h : ∀ x, ok x = true ↔ form x) (l : List α) :
    (within 1 8 l.length && l.all ok) = true ↔ (1 ≤ l.length ∧ l.length ≤ 8) ∧ ∀ x ∈ l, form x := by
  simp only [Bool.and_eq_true, within_iff, List.all_eq_true, h]

/-! ### What the table unit answers a staging request with -/

section Requests

variable {s : State} {h : ReqHead}

theorem exec_stagePut_bad {es : StageEntries} (ht : s.requestTaken h) (hes : stageEntriesOk es = false) :
    exec (.stagePut h es) s = .next ((s.taking h.src).reply h .stagePut .badArgument .none) := by
  change execStagePut h es s = _
  rw [execStagePut, act_awake _ s ht.1, State.request_taken s h _ _ ht, if_neg (by simp [hes])]

theorem exec_stagePut_full {es : StageEntries} (ht : s.requestTaken h) (hes : stageEntriesOk es = true)
    (hput : (s.taking h.src).tables.put es = none) :
    exec (.stagePut h es) s = .next ((s.taking h.src).reply h .stagePut .range .none) := by
  change execStagePut h es s = _
  rw [execStagePut, act_awake _ s ht.1, State.request_taken s h _ _ ht, if_pos hes, hput]

theorem exec_stagePut_taken {es : StageEntries} {u : TableUnit} (ht : s.requestTaken h) (hes : stageEntriesOk es = true)
    (hput : (s.taking h.src).tables.put es = some u) :
    exec (.stagePut h es) s = .next ((s.taking h.src).staged h .stagePut (StageEntries.table es) u) := by
  change execStagePut h es s = _
  rw [execStagePut, act_awake _ s ht.1, State.request_taken s h _ _ ht, if_pos hes, hput]

theorem exec_stageRemove_bad {ks : StageKeys} (ht : s.requestTaken h) (hks : stageKeysOk ks = false) :
    exec (.stageRemove h ks) s = .next ((s.taking h.src).reply h .stageRemove .badArgument .none) := by
  change execStageRemove h ks s = _
  rw [execStageRemove, act_awake _ s ht.1, State.request_taken s h _ _ ht, if_neg (by simp [hks])]

theorem exec_stageRemove_taken {ks : StageKeys} {u v : TableUnit} (ht : s.requestTaken h) (hks : stageKeysOk ks = true)
    (hu : (s.taking h.src).tables = u) (hv : u.remove ks = v) :
    exec (.stageRemove h ks) s = .next (({ s.taking h.src with tables := v } : State).reply h .stageRemove .ok
      (.removed (u.stagingCount (StageKeys.table ks) - v.stagingCount (StageKeys.table ks))
        (v.stagingCount (StageKeys.table ks)))) := by
  subst hu hv
  change execStageRemove h ks s = _
  rw [execStageRemove, act_awake _ s ht.1, State.request_taken s h _ _ ht, if_pos hks]

theorem exec_stageClear_eq (ht : s.requestTaken h) (t : TableId) : exec (.stageClear h t) s
    = .next ((s.taking h.src).staged h .stageClear t ((s.taking h.src).tables.clear t)) := by
  change execStageClear h t s = _
  rw [execStageClear, act_awake _ s ht.1, State.request_taken s h _ _ ht]

theorem exec_stageRevert_eq (ht : s.requestTaken h) (t : TableId) : exec (.stageRevert h t) s
    = .next ((s.taking h.src).staged h .stageRevert t ((s.taking h.src).tables.revert t)) := by
  change execStageRevert h t s = _
  rw [execStageRevert, act_awake _ s ht.1, State.request_taken s h _ _ ht]

end Requests

/-! ### What a STAGE_PUT and a STAGE_REMOVE make of the staging copy (R162, R163) -/

section Copies

variable (u : TableUnit)

theorem TableUnit.put_routing (l : List RouteEntry) : u.put (.routing l)
    = if u.routing.staging.length + l.length ≤ 512
      then some { u with routing := { u.routing with staging := u.routing.staging ++ l } } else none := rfl

theorem TableUnit.put_screening (l : List ScreenEntry) : u.put (.screening l)
    = if u.screening.staging.length + l.length ≤ 128
      then some { u with screening := { u.screening with staging := u.screening.staging ++ l.map storedScreen } }
      else none := rfl

/-- R162: point rows are put with the values of the fields left unstated. -/
theorem TableUnit.put_point (l : List (Nat × PointPut)) : u.put (.point l)
    = some { u with point := { u.point with
        staging := l.foldl (fun t e => tablePut e.1 (storedPoint e.2) t) u.point.staging } } := by
  simp only [TableUnit.put, putRows, List.foldl_map, Copies.setStaging]

end Copies

/-- Settles O51: each request by its answer once taken and by what its table makes of the staging copy; the forms by
the checks of one entry or one key. -/
theorem stagingRequests : Obligations.StagingRequests := by
  refine ⟨fun s h ht => ?_, ?_⟩
  · intro a u staged
    have hclear := exec_stageClear_eq ht
    have hrevert := exec_stageRevert_eq ht
    refine ⟨fun es => exec_stagePut_bad ht, fun l hl => ⟨fun hfull => ?_, fun hroom => ?_⟩,
      fun l hl => ⟨fun hfull => ?_, fun hroom => ?_⟩, fun l hl => ?_, fun l hl => ?_, fun ks => exec_stageRemove_bad ht,
      fun ks hks => ?_, hclear .routing, hclear .screening, hclear .mailbox, hclear .point, hrevert .routing,
      hrevert .screening, hrevert .mailbox, hrevert .point⟩
    · exact exec_stagePut_full ht hl ((u.put_routing l).trans (if_neg (by omega)))
    · rw [exec_stagePut_taken ht hl ((u.put_routing l).trans (if_pos hroom)), ← List.length_append]
      rfl
    · exact exec_stagePut_full ht hl ((u.put_screening l).trans (if_neg (by omega)))
    · have hcount : (u.screening.staging ++ l.map storedScreen).length = u.screening.staging.length + l.length := by
        simp
      rw [exec_stagePut_taken ht hl ((u.put_screening l).trans (if_pos hroom)), ← hcount]
      rfl
    · exact exec_stagePut_taken ht hl rfl
    · exact exec_stagePut_taken ht hl (u.put_point l)
    · cases ks with
      | routing l => exact exec_stageRemove_taken ht hks rfl rfl
      | screening l => exact exec_stageRemove_taken ht hks rfl rfl
      | mailbox l => exact exec_stageRemove_taken ht hks rfl rfl
      | point l => exact exec_stageRemove_taken ht hks rfl rfl
  · intro count digits station
    refine ⟨formedList_iff fun e => ?_, formedList_iff fun e => ?_, formedList_iff mailRowOk_iff,
      formedList_iff pointPutOk_iff, formedList_iff fun k => decide_eq_true_iff, formedList_iff screenKeyOk_iff,
      formedList_iff fun m => ?_, formedList_iff fun p => within_iff 1 30 p⟩
    · rw [routeOk_iff, digitsOk_iff]
    · rw [screenOk_iff, digitsOk_iff, stationOk_iff]
    · rw [decide_eq_true_eq, lt_mailboxCount_iff]

end Sys2Proof.Machine
end

section
/-! THEOREMS. The two readings of a table (spec/09_loaded_tables_staging_commit_and_generations.md, R165), and the bytes
of the table entries they carry (spec/11_frame_and_record_layouts.md, section 11.5). -/

namespace Sys2Proof.Machine

open Sys2Proof.Config

/-! ### How a reading fares (R165) -/

/-- R165: the lowest index of a table. -/
def TableId.firstIndex (t : TableId) : Nat := if t = .point then 1 else 0

/-- R165: the highest index of a table. -/
def TableId.lastIndex (t : TableId) : Nat :=
  match t with
  | .routing => 511
  | .screening => 127
  | .mailbox => 63
  | .point => 30

section Readings

variable {α : Type} {limit first last i c : Nat}

theorem listReading_bad {l : List α} {f : List (Nat × α) → TableItems} (h : c < 1 ∨ 8 < c ∨ limit ≤ i) :
    listReading limit i c l f = (.badArgument, none) := by
  refine if_pos ?_
  simp only [within, Bool.or_eq_true, Bool.not_eq_true', Bool.and_eq_false_iff, decide_eq_false_iff_not,
    decide_eq_true_eq]
  omega

theorem listReading_formed {l : List α} {f : List (Nat × α) → TableItems} (h1 : 1 ≤ c) (h8 : c ≤ 8) (hi : i < limit) :
    listReading limit i c l f = if l.length ≤ i then (.range, none) else (.ok, some (f (positioned i c l))) := by
  refine if_neg ?_
  simp only [within, Bool.or_eq_true, Bool.not_eq_true', Bool.and_eq_false_iff, decide_eq_false_iff_not,
    decide_eq_true_eq]
  omega

theorem rowReading_bad {l : List (Nat × α)} {f : List (Nat × Option α) → TableItems}
    (h : c < 1 ∨ 8 < c ∨ i < first ∨ last < i) : rowReading first last i c l f = (.badArgument, none) := by
  refine if_pos ?_
  simp only [within, Bool.or_eq_true, Bool.not_eq_true', Bool.and_eq_false_iff, decide_eq_false_iff_not]
  omega

theorem rowReading_ok {l : List (Nat × α)} {f : List (Nat × Option α) → TableItems} (h1 : 1 ≤ c) (h8 : c ≤ 8)
    (hfirst : first ≤ i) (hlast : i ≤ last) :
    rowReading first last i c l f = (.ok, some (f (rowsFrom i c last l))) := by
  refine if_neg ?_
  simp only [within, Bool.or_eq_true, Bool.not_eq_true', Bool.and_eq_false_iff, decide_eq_false_iff_not]
  omega

end Readings

theorem TableUnit.readings_bad (u : TableUnit) {t : TableId} {i c : Nat}
    (h : c < 1 ∨ 8 < c ∨ i < TableId.firstIndex t ∨ TableId.lastIndex t < i) :
    u.readStaging t i c = (.badArgument, none) ∧ u.readLive t i c = (.badArgument, none) := by
  cases t with
  | routing =>
    have h' : c < 1 ∨ 8 < c ∨ i < 0 ∨ 511 < i := h
    exact ⟨listReading_bad (limit := 512) (by omega), listReading_bad (limit := 512) (by omega)⟩
  | screening =>
    have h' : c < 1 ∨ 8 < c ∨ i < 0 ∨ 127 < i := h
    exact ⟨listReading_bad (limit := 128) (by omega), listReading_bad (limit := 128) (by omega)⟩
  | mailbox => exact ⟨rowReading_bad h, rowReading_bad h⟩
  | point => exact ⟨rowReading_bad h, rowReading_bad h⟩

section Requests

variable {s : State} {h : ReqHead} {t : TableId} {i c : Nat}

theorem exec_stageRead_fails {r : Result} (ht : s.requestTaken h)
    (hr : (s.taking h.src).tables.readStaging t i c = (r, none)) :
    exec (.stageRead h t i c) s = .next ((s.taking h.src).reply h .stageRead r .none) := by
  change execStageRead h t i c s = _
  rw [execStageRead, act_awake _ s ht.1, State.request_taken s h _ _ ht, hr]

theorem exec_stageRead_reads {r : Result} {items : TableItems} (ht : s.requestTaken h)
    (hr : (s.taking h.src).tables.readStaging t i c = (r, some items)) :
    exec (.stageRead h t i c) s = .next ((s.taking h.src).reply h .stageRead .ok
      (.stageItems items ((s.taking h.src).tables.stagingCount t))) := by
  change execStageRead h t i c s = _
  rw [execStageRead, act_awake _ s ht.1, State.request_taken s h _ _ ht, hr]

theorem exec_tableRead_fails {r : Result} (ht : s.requestTaken h)
    (hr : (s.taking h.src).tables.readLive t i c = (r, none)) :
    exec (.tableRead h t i c) s = .next ((s.taking h.src).reply h .tableRead r .none) := by
  change execTableRead h t i c s = _
  rw [execTableRead, act_awake _ s ht.1, State.request_taken s h _ _ ht, hr]

theorem exec_tableRead_reads {r : Result} {items : TableItems} (ht : s.requestTaken h)
    (hr : (s.taking h.src).tables.readLive t i c = (r, some items)) :
    exec (.tableRead h t i c) s = .next ((s.taking h.src).reply h .tableRead .ok
      (.tableItems items ((s.taking h.src).tables.liveCount t) ((s.taking h.src).tables.generation t)
        ((s.taking h.src).tables.check t))) := by
  change execTableRead h t i c s = _
  rw [execTableRead, act_awake _ s ht.1, State.request_taken s h _ _ ht, hr]

end Requests

/-! ### The entries and rows of a stretch (R165) -/

theorem length_positioned {α : Type} (i c : Nat) (l : List α) :
    (positioned i c l).length = min c (l.length - i) := by simp [positioned]

theorem getElem?_positioned {α : Type} {i c k : Nat} (l : List α) (hk : k < c) :
    (positioned i c l)[k]? = (l[i + k]?).map (fun e => (i + k, e)) := by
  simp [positioned, List.getElem?_zipIdx, hk, Function.comp_def, Nat.add_comm k i]

/-- The rows of a stretch are those up to the last of the table. -/
theorem rowsFrom_eq {α : Type} (i c last : Nat) (l : List (Nat × α)) :
    rowsFrom i c last l = (List.range (min c (last + 1 - i))).map (fun k => (i + k, tableGet (i + k) l)) := by
  have hrange : (List.range c).filter (fun k => decide (i + k ≤ last)) = List.range (min c (last + 1 - i)) := by
    induction c with
    | zero => simp
    | succ n ih =>
      rw [List.range_succ, List.filter_append, ih]
      by_cases hn : i + n ≤ last
      · rw [show min n (last + 1 - i) = n by omega, show min (n + 1) (last + 1 - i) = n + 1 by omega, List.range_succ]
        simp [hn]
      · rw [show min n (last + 1 - i) = min (n + 1) (last + 1 - i) by omega]
        simp [hn]
  rw [rowsFrom, hrange]

theorem length_rowsFrom {α : Type} (i c last : Nat) (l : List (Nat × α)) :
    (rowsFrom i c last l).length = min c (last + 1 - i) := by simp [rowsFrom_eq]

theorem getElem?_rowsFrom {α : Type} {i c last k : Nat} (l : List (Nat × α)) (hk : k < c) (hlast : i + k ≤ last) :
    (rowsFrom i c last l)[k]? = some (i + k, tableGet (i + k) l) := by
  rw [rowsFrom_eq, List.getElem?_map, List.getElem?_range (by omega)]
  rfl

/-! ### The lengths of the images (sections 11.1 and 11.5) -/

@[simp] theorem length_be (n v : Nat) : (be n v).length = n := by
  induction n with
  | zero => rfl
  | succ n ih => rw [be, List.length_cons, ih]

@[simp] theorem length_flagByte (b : Bool) : (flagByte b).length = 1 := length_be 1 _

theorem length_strBytes {room : Nat} {x : Str} (h : x.length ≤ room) : (strBytes room x).length = room + 1 := by
  simp only [strBytes, List.length_append, length_be, List.length_map, List.length_replicate]
  omega

theorem length_routeImage {e : RouteEntry} (h : e.stem.length ≤ 16) : (routeImage e).length = 22 := by
  have hstem : (strBytes digitRoom e.stem).length = 17 := length_strBytes h
  simp [routeImage, hstem]

theorem length_screenImage {e : ScreenEntry} (h : e.str.length ≤ 20) : (screenImage e).length = 24 := by
  have hstr : (strBytes stationRoom e.str).length = 21 := length_strBytes h
  simp [screenImage, hstr]

/-- Settles O52: each reading by how its table's reading fares; the stretch and the images by their lengths. -/
theorem tableReadings : Obligations.TableReadings := by
  refine ⟨fun s h i c ht => ?_, fun e => ⟨rfl, length_routeImage⟩, fun e => ⟨rfl, length_screenImage⟩,
    fun m e => rfl, fun p e => rfl, fun x n g v => ?_⟩
  · intro a u no staged live first last
    refine ⟨fun t hbad => ?_, fun h1 h8 => ?_,
      fun l => ⟨length_positioned i c l, fun k hk _ => getElem?_positioned l hk⟩,
      fun last l => ⟨length_rowsFrom i c last l, fun k => getElem?_rowsFrom l⟩⟩
    · have hbad' : c < 1 ∨ 8 < c ∨ i < TableId.firstIndex t ∨ TableId.lastIndex t < i := by cases t <;> exact hbad
      obtain ⟨hstaging, hlive⟩ := u.readings_bad hbad'
      exact ⟨exec_stageRead_fails ht hstaging, exec_tableRead_fails ht hlive⟩
    · have past : ∀ {α : Type} {limit : Nat} {l : List α} (f : List (Nat × α) → TableItems), i < limit → l.length ≤ i →
          listReading limit i c l f = (.range, none) := fun f hi hl => (listReading_formed h1 h8 hi).trans (if_pos hl)
      have inside : ∀ {α : Type} {limit : Nat} {l : List α} (f : List (Nat × α) → TableItems), i < limit →
          i < l.length → listReading limit i c l f = (.ok, some (f (positioned i c l))) := fun f hi hl =>
        (listReading_formed h1 h8 hi).trans (if_neg (Nat.not_le.2 hl))
      have rows : ∀ {α : Type} {first last : Nat} {l : List (Nat × α)} (f : List (Nat × Option α) → TableItems),
          first ≤ i → i ≤ last → rowReading first last i c l f = (.ok, some (f (rowsFrom i c last l))) :=
        fun f hfirst hlast => rowReading_ok h1 h8 hfirst hlast
      exact ⟨fun hi hl => exec_stageRead_fails ht (past _ (Nat.lt_succ_of_le hi) hl),
        fun hi hl => exec_tableRead_fails ht (past _ (Nat.lt_succ_of_le hi) hl),
        fun hi hl => exec_stageRead_fails ht (past _ (Nat.lt_succ_of_le hi) hl),
        fun hi hl => exec_tableRead_fails ht (past _ (Nat.lt_succ_of_le hi) hl),
        fun hi hl => exec_stageRead_reads ht (inside _ (Nat.lt_succ_of_le hi) hl),
        fun hi hl => exec_tableRead_reads ht (inside _ (Nat.lt_succ_of_le hi) hl),
        fun hi hl => exec_stageRead_reads ht (inside _ (Nat.lt_succ_of_le hi) hl),
        fun hi hl => exec_tableRead_reads ht (inside _ (Nat.lt_succ_of_le hi) hl),
        fun hi => ⟨exec_stageRead_reads ht (rows _ i.zero_le hi), exec_tableRead_reads ht (rows _ i.zero_le hi)⟩,
        fun hi hl => ⟨exec_stageRead_reads ht (rows _ hi hl), exec_tableRead_reads ht (rows _ hi hl)⟩⟩
  · intro items
    refine ⟨?_, ?_, ?_, ?_⟩ <;> (rintro l rfl; exact ⟨rfl, rfl⟩)

end Sys2Proof.Machine
end

section
/-! THEOREMS. A COMMIT from its request to its completion (spec/09_loaded_tables_staging_commit_and_generations.md,
R166, R169 to R171), and the canonical order of its routing and screening entries (R161). -/

namespace Sys2Proof.Machine

open Sys2Proof.Config

/-! ### The order of strings (R161) -/

/-- R161: one string stands before another: it begins it, or has the character of the lower rank where they part. -/
def precedes (rank : Nat → Nat) (a b : Str) : Prop :=
  (∃ x t, b = a ++ x :: t) ∨ ∃ p x y t w, a = p ++ x :: t ∧ b = p ++ y :: w ∧ rank x < rank y

theorem precedes_cons (rank : Nat → Nat) (x y : Nat) (t u : Str) :
    precedes rank (x :: t) (y :: u) ↔ rank x < rank y ∨ (x = y ∧ precedes rank t u) := by
  constructor
  · rintro (⟨z, w, h⟩ | ⟨p, c, d, v, w, ha, hb, hlt⟩)
    · obtain ⟨rfl, rfl⟩ := List.cons.inj h
      exact .inr ⟨rfl, .inl ⟨z, w, rfl⟩⟩
    · cases p with
      | nil =>
        obtain ⟨rfl, rfl⟩ := List.cons.inj ha
        obtain ⟨rfl, rfl⟩ := List.cons.inj hb
        exact .inl hlt
      | cons q p =>
        obtain ⟨rfl, rfl⟩ := List.cons.inj ha
        obtain ⟨rfl, rfl⟩ := List.cons.inj hb
        exact .inr ⟨rfl, .inr ⟨p, c, d, v, w, rfl, rfl, hlt⟩⟩
  · rintro (hlt | ⟨rfl, ⟨z, w, rfl⟩ | ⟨p, c, d, v, w, rfl, rfl, hlt⟩⟩)
    · exact .inr ⟨[], x, y, t, u, rfl, rfl, hlt⟩
    · exact .inl ⟨z, w, rfl⟩
    · exact .inr ⟨x :: p, c, d, v, w, rfl, rfl, hlt⟩

/-- Where no two characters of the strings share a rank, the model's order is that of R161. -/
theorem strLt_iff_precedes {rank : Nat → Nat} {a b : Str} (h : ∀ c ∈ a, ∀ d ∈ b, rank c = rank d → c = d) :
    strLt rank a b = true ↔ precedes rank a b := by
  induction a generalizing b with
  | nil => cases b <;> simp [strLt, precedes]
  | cons x t ih =>
    cases b with
    | nil => simp [strLt, precedes]
    | cons y u =>
      have htail : strLt rank t u = true ↔ precedes rank t u :=
        ih fun c hc d hd => h c (List.mem_cons_of_mem _ hc) d (List.mem_cons_of_mem _ hd)
      rw [precedes_cons, ← htail, strLt]
      rcases Nat.lt_trichotomy (rank x) (rank y) with hlt | heq | hgt
      · simp [hlt]
      · simp [h x List.mem_cons_self y List.mem_cons_self heq]
      · have hne : x ≠ y := fun hxy => absurd hgt (by simp [hxy])
        simp [hgt, Nat.lt_asymm hgt, hne]

/-- The order of strings is the lexicographic order of their ranks. -/
theorem strLt_iff_map_lt (rank : Nat → Nat) (a b : Str) : strLt rank a b = true ↔ a.map rank < b.map rank := by
  induction a generalizing b with
  | nil => cases b <;> simp [strLt]
  | cons x t ih =>
    cases b with
    | nil => simp [strLt]
    | cons y u =>
      rw [List.map_cons, List.map_cons, List.cons_lt_cons_iff, ← ih, strLt]
      rcases Nat.lt_trichotomy (rank x) (rank y) with hlt | heq | hgt
      · simp [hlt]
      · simp [heq]
      · simp [hgt, Nat.lt_asymm hgt, Nat.ne_of_gt hgt]

theorem strLt_congr {f g : Nat → Nat} {a b : Str} (ha : ∀ c ∈ a, f c = g c) (hb : ∀ c ∈ b, f c = g c) :
    strLt f a b = strLt g a b := by
  rw [Bool.eq_iff_iff, strLt_iff_map_lt, strLt_iff_map_lt, List.map_congr_left ha, List.map_congr_left hb]

/-- Section 11.1: the characters of a digit string. -/
def isDigitCode (c : Nat) : Prop := (48 ≤ c ∧ c ≤ 57) ∨ c = 42 ∨ c = 35

/-- R161: the characters of a digit string in their rank. -/
def digitOrder (c : Nat) : Nat := [48, 49, 50, 51, 52, 53, 54, 55, 56, 57, 42, 35].idxOf c

theorem digitRank_eq {c : Nat} (h : isDigitCode c) : digitRank c = digitOrder c := by
  obtain ⟨hlo, hhi⟩ | rfl | rfl := h
  · interval_cases c <;> rfl
  · rfl
  · rfl

theorem digitRank_inj {c d : Nat} (hc : isDigitCode c) (hd : isDigitCode d) (h : digitRank c = digitRank d) :
    c = d := by
  unfold isDigitCode at hc hd
  unfold digitRank at h
  split_ifs at h <;> omega

theorem strLt_digits_iff {a b : Str} (ha : ∀ c ∈ a, isDigitCode c) (hb : ∀ c ∈ b, isDigitCode c) :
    strLt digitRank a b = true ↔ precedes digitOrder a b := by
  have hrank : ∀ x : Str, (∀ c ∈ x, isDigitCode c) → ∀ c ∈ x, digitRank c = digitOrder c :=
    fun x hx c hc => digitRank_eq (hx c hc)
  rw [strLt_congr (hrank a ha) (hrank b hb)]
  refine strLt_iff_precedes fun c hc d hd h => digitRank_inj (ha c hc) (hb d hd) ?_
  rw [hrank a ha c hc, hrank b hb d hd, h]

/-! ### The order of entries (R161) -/

section Screens

variable {a b : ScreenEntry}

theorem screenLt_callers (ha : a.kind = .caller) (hb : b.kind = .caller) :
    screenLt a b = strLt digitRank a.str b.str := by simp only [screenLt, ha, hb]

theorem screenLt_stations (ha : a.kind = .station) (hb : b.kind = .station) :
    screenLt a b = strLt (fun c => c) (trim a.str) (trim b.str) := by simp only [screenLt, ha, hb]

theorem screenLt_caller_station (ha : a.kind = .caller) (hb : b.kind = .station) : screenLt a b = true := by
  simp only [screenLt, ha, hb]

theorem screenLt_station_caller (ha : a.kind = .station) (hb : b.kind = .caller) : screenLt a b = false := by
  simp only [screenLt, ha, hb]

end Screens

/-- The ranks that a screening entry is ordered by: first of its kind, then of its key. -/
def screenRanks (e : ScreenEntry) : List Nat :=
  matchCode e.kind :: match e.kind with
    | .caller => e.str.map digitRank
    | .station => trim e.str

theorem screenRanks_caller {e : ScreenEntry} (h : e.kind = .caller) : screenRanks e = 1 :: e.str.map digitRank := by
  simp only [screenRanks, h, matchCode]

theorem screenRanks_station {e : ScreenEntry} (h : e.kind = .station) : screenRanks e = 2 :: trim e.str := by
  simp only [screenRanks, h, matchCode]

theorem screenLt_iff (a b : ScreenEntry) : screenLt a b = true ↔ screenRanks a < screenRanks b := by
  cases ha : a.kind with
  | caller =>
    cases hb : b.kind with
    | caller =>
      simp [screenLt_callers ha hb, screenRanks_caller ha, screenRanks_caller hb, strLt_iff_map_lt]
    | station =>
      simp [screenLt_caller_station ha hb, screenRanks_caller ha, screenRanks_station hb, List.cons_lt_cons_iff]
  | station =>
    cases hb : b.kind with
    | caller =>
      simp [screenLt_station_caller ha hb, screenRanks_station ha, screenRanks_caller hb, List.cons_lt_cons_iff]
    | station =>
      simp [screenLt_stations ha hb, screenRanks_station ha, screenRanks_station hb, strLt_iff_map_lt]

/-! ### The canonical order (R161) -/

/-- Two entries in an order: the second does not stand before the first. -/
def inOrder {α : Type} (lt : α → α → Bool) (a b : α) : Prop := lt b a = false

theorem sortBy_eq_insertionSort_inOrder {α : Type} (lt : α → α → Bool) (l : List α) [DecidableRel (inOrder lt)] :
    sortBy lt l = l.insertionSort (inOrder lt) := sortBy_eq_insertionSort (fun a b => by simp [inOrder]) l

theorem sortBy_perm {α : Type} (lt : α → α → Bool) (l : List α) : (sortBy lt l).Perm l := by
  classical
  rw [sortBy_eq_insertionSort_inOrder]
  exact List.perm_insertionSort (inOrder lt) l

/-- A sort by keys of a linear order leaves no entry before one that its order puts first. -/
theorem sortBy_pairwise {α β : Type} [LinearOrder β] {lt : α → α → Bool} {key : α → β}
    (h : ∀ a b, lt a b = true ↔ key a < key b) (l : List α) : (sortBy lt l).Pairwise (inOrder lt) := by
  classical
  have hkey : ∀ a b, inOrder lt a b ↔ key a ≤ key b := fun a b => by
    rw [inOrder, ← Bool.not_eq_true, h, not_lt]
  have total : Std.Total (inOrder lt) := ⟨fun a b => by simpa only [hkey] using le_total (key a) (key b)⟩
  have trans : IsTrans α (inOrder lt) := ⟨fun a b c => by simpa only [hkey] using le_trans⟩
  rw [sortBy_eq_insertionSort_inOrder]
  exact List.pairwise_insertionSort (inOrder lt) l

theorem routeLt_iff (a b : RouteEntry) : routeLt a b = true ↔ a.stem.map digitRank < b.stem.map digitRank :=
  strLt_iff_map_lt digitRank a.stem b.stem

/-- R161: the default route, the one with the empty stem, stands first. -/
theorem sortBy_routeLt_default {l : List RouteEntry} {e : RouteEntry} (he : e ∈ l) (hstem : e.stem = []) :
    ∃ x t, sortBy routeLt l = x :: t ∧ x.stem = [] := by
  have hmem : e ∈ sortBy routeLt l := (sortBy_perm routeLt l).mem_iff.2 he
  have horder := sortBy_pairwise routeLt_iff l
  obtain ⟨x, t, hl⟩ := List.exists_cons_of_ne_nil (List.ne_nil_of_mem hmem)
  rw [hl] at hmem horder
  refine ⟨x, t, hl, ?_⟩
  obtain rfl | ht := List.mem_cons.1 hmem
  · exact hstem
  · have hfirst : strLt digitRank e.stem x.stem = false := (List.pairwise_cons.1 horder).1 e ht
    cases hx : x.stem with
    | nil => rfl
    | cons c u => simp [hstem, hx, strLt] at hfirst

/-- R161: CALLER entries stand before STATION ones. -/
theorem sortBy_screenLt_kinds (l : List ScreenEntry) :
    (sortBy screenLt l).Pairwise (fun a b => b.kind = .caller → a.kind = .caller) := by
  refine (sortBy_pairwise screenLt_iff l).imp fun {a b} horder hb => ?_
  cases ha : a.kind with
  | caller => rfl
  | station => exact absurd ((screenLt_caller_station hb ha).symm.trans horder) (by simp)

/-! ### The request and its completion (R166, R169, R171) -/

theorem exec_commit_eq {s : State} {h : ReqHead} (ht : s.requestTaken h) (t : TableId) : exec (.commit h t) s
    = .next { s.taking h.src with mgmt := { (s.taking h.src).mgmt with slot := .commit h t } } := by
  change execCommit h t s = _
  rw [execCommit, act_awake _ s ht.1, State.request_taken s h _ _ ht]

section Completion

variable {s : State} {h : ReqHead} {t : TableId}

theorem exec_commitCompletion_eq (ha : s.awake) (hs : s.mgmt.slot = .commit h t) :
    exec .commitCompletion s = .next (s.completeCommit h t) := by
  change execCommitCompletion s = _
  rw [execCommitCompletion, act_awake _ s ha, hs]

theorem State.completeCommit_fails {index : Nat} {reason : CommitReason}
    (hf : orElseFail (s.tables.examine t h.src) (s.trafficTests t) = some (index, reason)) :
    s.completeCommit h t = s.reply h .commit .tableInvalid (.invalid index reason) := by
  rw [State.completeCommit, hf]

theorem State.completeCommit_swaps (he : s.tables.examine t h.src = none) (ht : s.trafficTests t = none) :
    s.completeCommit h t = s.swapTable h t := by
  rw [State.completeCommit, he, ht]
  rfl

theorem State.tables_swapEffects (s : State) (t : TableId) : (s.swapEffects t).tables = s.tables := by cases t <;> rfl

/-- R171: the swap with the tables it leaves written out. -/
theorem State.swapTable_eq {u : TableUnit} (hu : s.tables.swap t = u) : s.swapTable h t
    = ({ s.swapEffects t with tables := u } : State).reply h .commit .ok
        (.committed t (u.generation t) (u.check t) (u.liveCount t)) := by
  rw [State.swapTable, State.tables_swapEffects, hu]

end Completion

/-- Settles O53: the completion by the first failure of the examination and of the tests against traffic, the canonical
order as the sort by the ranks of R161. -/
theorem commitCompletes : Obligations.CommitCompletes := by
  refine ⟨fun s h t => ⟨fun ht => exec_commit_eq ht t, fun ha hs => ?_⟩,
    fun l => ⟨sortBy_perm routeLt l, sortBy_pairwise routeLt_iff l, fun e he hstem => sortBy_routeLt_default he hstem⟩,
    fun l => ⟨sortBy_perm screenLt l, sortBy_pairwise screenLt_iff l, sortBy_screenLt_kinds l⟩, ?_⟩
  · intro u run swapped
    have hrun : run = .next (s.completeCommit h t) := exec_commitCompletion_eq ha hs
    refine ⟨fun index reason he => ?_, fun index reason he ht => ?_, fun he ht => ?_⟩
    · rw [hrun, State.completeCommit_fails (by rw [he]; rfl)]
    · rw [hrun, State.completeCommit_fails (by rw [he]; exact ht)]
    · have hswap : ∀ x, u.swap t = x → run = .next (swapped x) := fun x hx => by
        rw [hrun, State.completeCommit_swaps he ht, State.swapTable_eq hx]
      refine ⟨?_, ?_, ?_, ?_⟩
      · rintro rfl
        exact hswap _ rfl
      · rintro rfl
        exact hswap _ rfl
      · rintro rfl
        exact hswap _ rfl
      · rintro rfl
        exact hswap _ rfl
  · intro rank digits before
    refine ⟨fun a b => strLt_digits_iff, fun a b => ⟨fun ha hb hda hdb => ?_, fun ha hb => ?_, screenLt_caller_station,
      screenLt_station_caller⟩⟩
    · rw [screenLt_callers ha hb]
      exact strLt_digits_iff hda hdb
    · rw [screenLt_stations ha hb]
      exact strLt_iff_precedes fun c _ d _ h => h

end Sys2Proof.Machine
end

section
/-! SUPPORT. Searches for a first failure: in a list whose entries are judged after those before them, and in a list of
rising keys; what stands in a table with rising keys. -/

namespace Sys2Proof.Machine

/-! ### Entries judged in order, each after those before it -/

/-- The position of the first entry that fails a test made of it after the entries before it, with the reason. -/
def firstBad {α : Type} (test : List α → α → Option CommitReason) (seen l : List α) : Failure :=
  match l with
  | [] => none
  | e :: t => match test seen e with
    | some why => some (seen.length, why)
    | none => firstBad test (seen ++ [e]) t

section FirstBad

variable {α : Type} {test : List α → α → Option CommitReason} {seen t : List α} {e : α}

theorem firstBad_cons_bad {why : CommitReason} (h : test seen e = some why) :
    firstBad test seen (e :: t) = some (seen.length, why) := by rw [firstBad, h]

theorem firstBad_cons_good (h : test seen e = none) : firstBad test seen (e :: t) = firstBad test (seen ++ [e]) t := by
  rw [firstBad, h]

theorem firstBad_some_iff_from {n : Nat} {why : CommitReason} (l : List α) : firstBad test seen l = some (n, why) ↔
    ∃ k, n = seen.length + k ∧ (∃ e, l[k]? = some e ∧ test (seen ++ l.take k) e = some why)
      ∧ ∀ j x, j < k → l[j]? = some x → test (seen ++ l.take j) x = none := by
  induction l generalizing seen with
  | nil => simp [firstBad]
  | cons a t ih =>
    cases h : test seen a with
    | some w =>
      rw [firstBad_cons_bad h]
      constructor
      · rintro ⟨⟩
        exact ⟨0, rfl, ⟨a, rfl, by simpa using h⟩, fun j x hj => absurd hj j.not_lt_zero⟩
      · rintro ⟨k, rfl, ⟨e, he, hbad⟩, hgood⟩
        cases k with
        | zero =>
          obtain rfl : a = e := by simpa using he
          simpa [h] using hbad
        | succ k => simpa [h] using hgood 0 a k.succ_pos rfl
    | none =>
      rw [firstBad_cons_good h, ih]
      constructor
      · rintro ⟨k, rfl, ⟨e, he, hbad⟩, hgood⟩
        refine ⟨k + 1, by simp; omega, ⟨e, he, by simpa using hbad⟩, fun j x hj hx => ?_⟩
        cases j with
        | zero =>
          obtain rfl : a = x := by simpa using hx
          simpa using h
        | succ j => simpa using hgood j x (Nat.lt_of_succ_lt_succ hj) hx
      · rintro ⟨k, rfl, ⟨e, he, hbad⟩, hgood⟩
        cases k with
        | zero =>
          obtain rfl : a = e := by simpa using he
          simp [h] at hbad
        | succ k =>
          refine ⟨k, by simp; omega, ⟨e, he, by simpa using hbad⟩, fun j x hj hx => ?_⟩
          simpa using hgood (j + 1) x (Nat.succ_lt_succ hj) hx

/-- The first failure is that of the entry at its position, and no entry before it fails. -/
theorem firstBad_some_iff {n : Nat} {why : CommitReason} (l : List α) : firstBad test [] l = some (n, why) ↔
    (∃ e, l[n]? = some e ∧ test (l.take n) e = some why)
      ∧ ∀ k e, k < n → l[k]? = some e → test (l.take k) e = none := by
  simp [firstBad_some_iff_from]

/-- No entry fails where every one passes by itself and beside each before it. -/
theorem firstBad_none_iff {R : α → α → Prop} {P : α → Prop}
    (h : ∀ seen e, test seen e = none ↔ (∀ x ∈ seen, R x e) ∧ P e) (l : List α) :
    firstBad test seen l = none ↔ (∀ x ∈ seen, ∀ e ∈ l, R x e) ∧ l.Pairwise R ∧ ∀ e ∈ l, P e := by
  induction l generalizing seen with
  | nil => simp [firstBad]
  | cons a t ih =>
    cases ha : test seen a with
    | some w =>
      have hbad : ¬ ((∀ x ∈ seen, R x a) ∧ P a) := by simp [← h, ha]
      rw [firstBad_cons_bad ha]
      simp only [reduceCtorEq, false_iff]
      exact fun hall => hbad ⟨fun x hx => hall.1 x hx a List.mem_cons_self, hall.2.2 a List.mem_cons_self⟩
    | none =>
      obtain ⟨hseen, hP⟩ := (h seen a).1 ha
      rw [firstBad_cons_good ha, ih]
      simp only [List.forall_mem_append, List.forall_mem_singleton, List.forall_mem_cons, List.pairwise_cons]
      exact ⟨fun ⟨⟨hold, hnew⟩, hpair, hall⟩ => ⟨fun x hx => ⟨hseen x hx, hold x hx⟩, ⟨hnew, hpair⟩, hP, hall⟩,
        fun ⟨hold, ⟨hnew, hpair⟩, _, hall⟩ => ⟨⟨fun x hx => (hold x hx).2, hnew⟩, hpair, hall⟩⟩

end FirstBad

/-! ### Searches of rising lists -/

/-- What a search finds in a list that strictly rises by a key is what passes with the lowest key. -/
theorem find?_eq_some_iff_of_pairwise {α : Type} (key : α → Nat) {p : α → Bool} {l : List α} {a : α}
    (hl : l.Pairwise (fun x y => key x < key y)) :
    l.find? p = some a ↔ a ∈ l ∧ p a = true ∧ ∀ x ∈ l, key x < key a → ¬ p x = true := by
  constructor
  · intro hfind
    refine ⟨List.mem_of_find?_eq_some hfind, List.find?_some hfind, fun x hx hlt hp => ?_⟩
    exact Nat.not_lt.2 (find?_le_of_pairwise key (hl.imp Nat.le_of_lt) hfind x hx hp) hlt
  · rintro ⟨hmem, hp, hfirst⟩
    obtain ⟨before, after, rfl⟩ := List.append_of_mem hmem
    refine List.find?_eq_some_iff_append.2 ⟨hp, before, after, rfl, fun x hx => ?_⟩
    have hlt : key x < key a := (List.pairwise_append.1 hl).2.2 x hx a List.mem_cons_self
    simpa using hfirst x (List.mem_append_left _ hx) hlt

theorem failAt_none_iff (l : List Nat) (p : Nat → Bool) (reason : CommitReason) :
    failAt l p reason = none ↔ ∀ n ∈ l, ¬ p n = true := by
  rw [failAt, Option.map_eq_none_iff, List.find?_eq_none]

theorem failAt_some_iff {l : List Nat} (hl : l.Pairwise (· < ·)) (p : Nat → Bool) (reason : CommitReason) (n : Nat)
    (why : CommitReason) :
    failAt l p reason = some (n, why) ↔ why = reason ∧ n ∈ l ∧ p n = true ∧ ∀ k, k < n → k ∈ l → ¬ p k = true := by
  rw [failAt, Option.map_eq_some_iff]
  simp only [find?_eq_some_iff_of_pairwise (fun n => n) hl, Prod.mk.injEq]
  constructor
  · rintro ⟨_, ⟨hmem, hp, hfirst⟩, rfl, rfl⟩
    exact ⟨rfl, hmem, hp, fun k hk hkl => hfirst k hkl hk⟩
  · rintro ⟨rfl, hmem, hp, hfirst⟩
    exact ⟨n, ⟨hmem, hp, fun k hkl hk => hfirst k hk hkl⟩, rfl, rfl⟩

theorem orElseFail_none_iff (a b : Failure) : orElseFail a b = none ↔ a = none ∧ b = none := by
  cases a <;> simp [orElseFail]

theorem orElseFail_some_iff (a b : Failure) (x : Nat × CommitReason) :
    orElseFail a b = some x ↔ a = some x ∨ (a = none ∧ b = some x) := by
  cases a <;> simp [orElseFail]

/-! ### What stands in a table -/

section Tables

variable {α : Type} {l : List (Nat × α)} {c : Copies (Nat × α)}

theorem rising_pairwise {lo : Nat} (hl : rising lo l = true) : l.Pairwise (fun a b => a.1 < b.1) := by
  induction l generalizing lo with
  | nil => exact .nil
  | cons a t ih =>
    simp only [rising, Bool.and_eq_true, decide_eq_true_eq] at hl
    exact List.pairwise_cons.2 ⟨fun e he => le_of_mem_rising hl.2 e he, ih hl.2⟩

theorem tableGet_isSome_iff (k : Nat) (l : List (Nat × α)) : (tableGet k l).isSome = true ↔ ∃ e ∈ l, e.1 = k := by
  induction l with
  | nil => simp [tableGet]
  | cons a t ih =>
    by_cases hk : a.1 = k
    · simp [tableGet, hk]
    · simp [tableGet, hk, ih]

/-- In a table with rising keys the value at a key is the one listed with it. -/
theorem tableGet_some_iff_mem (hl : l.Pairwise (fun a b => a.1 < b.1)) (k : Nat) (v : α) :
    tableGet k l = some v ↔ (k, v) ∈ l := by
  refine ⟨mem_of_tableGet, fun hmem => ?_⟩
  induction l with
  | nil => simp at hmem
  | cons a t ih =>
    obtain ⟨hfirst, ht⟩ := List.pairwise_cons.1 hl
    obtain rfl | hmem := List.mem_cons.1 hmem
    · simp [tableGet]
    · have hne : a.1 ≠ k := Nat.ne_of_lt (hfirst (k, v) hmem)
      simpa [tableGet, hne] using ih ht hmem

theorem mem_removedRows (k : Nat) : k ∈ removedRows c ↔
    (tableGet k c.live).isSome = true ∧ tableGet k c.staging = none := by
  simp only [removedRows, List.mem_map, List.mem_filter, Option.isNone_iff_eq_none, tableGet_isSome_iff]
  constructor
  · rintro ⟨e, ⟨he, hgone⟩, rfl⟩
    exact ⟨⟨e, he, rfl⟩, hgone⟩
  · rintro ⟨⟨e, he, rfl⟩, hgone⟩
    exact ⟨e, ⟨he, hgone⟩, rfl⟩

theorem removedRows_pairwise (hl : rising 0 c.live = true) : (removedRows c).Pairwise (· < ·) :=
  List.pairwise_map.2 ((rising_pairwise hl).filter _)

end Tables

end Sys2Proof.Machine
end

section
/-! THEOREMS. The examination of a COMMIT and its tests against traffic
(spec/09_loaded_tables_staging_commit_and_generations.md, R167 to R169): when they pass, and what fails them. -/

namespace Sys2Proof.Machine

open Sys2Proof.Config

section Tests

variable (u : TableUnit)

/-! ### Routing entries (R167) -/

/-- R167: what fails a routing entry after those before it. -/
def TableUnit.routeTest (seen : List RouteEntry) (e : RouteEntry) : Option CommitReason :=
  if seen.any (fun x => x.stem == e.stem) then some .duplicateKey
  else if u.mailLive e.mailbox then none else some .mailboxUndefined

theorem TableUnit.testRoutes_eq (seen l : List RouteEntry) : u.testRoutes seen l = firstBad u.routeTest seen l := by
  induction l generalizing seen with
  | nil => rfl
  | cons e t ih =>
    rw [TableUnit.testRoutes, ih]
    by_cases hdup : seen.any (fun x => x.stem == e.stem) = true
    · rw [if_pos hdup, firstBad_cons_bad (if_pos hdup)]
    · rw [if_neg hdup]
      by_cases hbox : u.mailLive e.mailbox = true
      · rw [if_neg (by simp [hbox]), firstBad_cons_good ((if_neg hdup).trans (if_pos hbox))]
      · rw [if_pos (by simp [hbox]), firstBad_cons_bad ((if_neg hdup).trans (if_neg hbox))]

theorem TableUnit.routeTest_none_iff (seen : List RouteEntry) (e : RouteEntry) :
    u.routeTest seen e = none ↔ (∀ x ∈ seen, x.stem ≠ e.stem) ∧ u.mailLive e.mailbox = true := by
  unfold TableUnit.routeTest
  split_ifs with hdup hbox
  · have : ¬ ∀ x ∈ seen, x.stem ≠ e.stem := by simpa using hdup
    simp [this]
  · simpa [hbox] using hdup
  · simp [hbox]

/-! ### Screening entries (R167) -/

/-- R167: what fails the target of a screening entry. -/
def TableUnit.targetTest (e : ScreenEntry) : Option CommitReason :=
  match e.action, e.target with
  | .redirect, none => some .badField
  | .redirect, some m => if u.mailLive m then none else some .mailboxUndefined
  | _, some _ => some .badField
  | _, none => none

/-- R167: what fails a screening entry after those before it. -/
def TableUnit.screenTest (seen : List ScreenEntry) (e : ScreenEntry) : Option CommitReason :=
  if seen.any (screenKeyEq e.kind e.str) then some .duplicateKey else u.targetTest e

theorem TableUnit.targetTest_badField {e : ScreenEntry} (h : screenFieldOk e = false) :
    u.targetTest e = some .badField := by
  obtain ⟨kind, str, action, target⟩ := e
  cases action <;> cases target <;> simp_all [screenFieldOk, TableUnit.targetTest]

theorem TableUnit.targetTest_fieldOk {e : ScreenEntry} (h : screenFieldOk e = true) : u.targetTest e
    = if (e.action == .redirect && !optionOk u.mailLive e.target) = true then some .mailboxUndefined else none := by
  obtain ⟨kind, str, action, target⟩ := e
  cases action with
  | redirect => cases target with
    | none => simp [screenFieldOk] at h
    | some m => cases hm : u.mailLive m <;> simp [TableUnit.targetTest, optionOk, hm]
  | accept | refuse | quarantine => cases target with
    | none => rfl
    | some m => simp [screenFieldOk] at h

theorem TableUnit.testScreens_eq (seen l : List ScreenEntry) :
    u.testScreens seen l = firstBad u.screenTest seen l := by
  induction l generalizing seen with
  | nil => rfl
  | cons e t ih =>
    rw [TableUnit.testScreens, ih]
    by_cases hdup : seen.any (screenKeyEq e.kind e.str) = true
    · rw [if_pos hdup, firstBad_cons_bad (if_pos hdup)]
    · rw [if_neg hdup]
      cases hfield : screenFieldOk e with
      | false =>
        rw [if_pos Bool.not_false, firstBad_cons_bad ((if_neg hdup).trans (u.targetTest_badField hfield))]
      | true =>
        have htest : u.screenTest seen e = _ := (if_neg hdup).trans (u.targetTest_fieldOk hfield)
        rw [if_neg (by simp)]
        split_ifs at htest ⊢ with hbox
        · rw [firstBad_cons_bad htest]
        · rw [firstBad_cons_good htest]

theorem screenKeyEq_iff (e x : ScreenEntry) : screenKeyEq e.kind e.str x = true ↔ x.kind = e.kind
    ∧ ((x.kind = .caller ∧ x.str = e.str) ∨ (x.kind = .station ∧ trim x.str = trim e.str)) := by
  cases hk : e.kind <;> cases hx : x.kind <;> simp [screenKeyEq, hx]

theorem TableUnit.targetTest_none_iff (e : ScreenEntry) : u.targetTest e = none ↔
    (e.action = .redirect ↔ e.target.isSome = true) ∧ ∀ m, e.target = some m → u.mailLive m = true := by
  obtain ⟨kind, str, action, target⟩ := e
  cases action <;> cases target <;> simp [TableUnit.targetTest]

theorem TableUnit.screenTest_none_iff (seen : List ScreenEntry) (e : ScreenEntry) : u.screenTest seen e = none ↔
    (∀ x ∈ seen, ¬ (x.kind = e.kind
      ∧ ((x.kind = .caller ∧ x.str = e.str) ∨ (x.kind = .station ∧ trim x.str = trim e.str))))
    ∧ (e.action = .redirect ↔ e.target.isSome = true) ∧ ∀ m, e.target = some m → u.mailLive m = true := by
  simp only [← screenKeyEq_iff, ← u.targetTest_none_iff]
  by_cases hdup : seen.any (screenKeyEq e.kind e.str) = true
  · have hnot : ¬ ∀ x ∈ seen, ¬ screenKeyEq e.kind e.str x = true := by simpa using hdup
    simp only [TableUnit.screenTest, if_pos hdup, reduceCtorEq, hnot, false_and]
  · have hall : ∀ x ∈ seen, ¬ screenKeyEq e.kind e.str x = true := by simpa using hdup
    simp only [TableUnit.screenTest, if_neg hdup, and_iff_right hall]

/-! ### Mailbox rows (R167) -/

/-- R167: what fails a mailbox row. -/
def TableUnit.mailTest (m : Nat) (e : MailRow) : Option CommitReason :=
  if e.alternate = some e.primary ∨ e.overflow = some m then some .badField
  else if e.overflow.any (fun o => (tableGet o u.mailbox.staging).isNone) then some .mailboxUndefined
  else if u.pointLive e.primary && e.alternate.all u.pointLive then none else some .pointUndefined

theorem TableUnit.testMailRows_cons (m : Nat) (r : MailRow) (t : List (Nat × MailRow)) :
    u.testMailRows ((m, r) :: t) = orElseFail ((u.mailTest m r).map (Prod.mk m)) (u.testMailRows t) := by
  have hfield : (r.alternate == some r.primary || r.overflow == some m) = true
      ↔ (r.alternate = some r.primary ∨ r.overflow = some m) := by simp
  have hover : (!optionOk (fun o => (tableGet o u.mailbox.staging).isSome) r.overflow)
      = r.overflow.any (fun o => (tableGet o u.mailbox.staging).isNone) := by
    cases r.overflow <;> simp [optionOk]
  have hpoint : (!u.pointLive r.primary || !optionOk u.pointLive r.alternate)
      = !(u.pointLive r.primary && r.alternate.all u.pointLive) := by
    cases r.alternate <;> simp [optionOk]
  rw [TableUnit.testMailRows, hover, hpoint, TableUnit.mailTest]
  simp only [hfield, Bool.not_eq_true']
  split_ifs <;> simp_all [orElseFail]

/-- R167: the rows in turn, as a search for the first that fails. -/
theorem TableUnit.testMailRows_eq (l : List (Nat × MailRow)) : u.testMailRows l
    = (l.find? (fun e => (u.mailTest e.1 e.2).isSome)).bind (fun e => (u.mailTest e.1 e.2).map (Prod.mk e.1)) := by
  induction l with
  | nil => rfl
  | cons e t ih =>
    obtain ⟨m, r⟩ := e
    rw [TableUnit.testMailRows_cons, ih]
    cases h : u.mailTest m r <;> simp [h, orElseFail]

theorem TableUnit.testMailRows_none_iff (l : List (Nat × MailRow)) :
    u.testMailRows l = none ↔ ∀ e ∈ l, u.mailTest e.1 e.2 = none := by
  induction l with
  | nil => simp [TableUnit.testMailRows]
  | cons e t ih =>
    rw [TableUnit.testMailRows_cons, orElseFail_none_iff, ih, Option.map_eq_none_iff, List.forall_mem_cons]

theorem TableUnit.testMailRows_some_iff {l : List (Nat × MailRow)} (hl : rising 0 l = true) (n : Nat)
    (why : CommitReason) : u.testMailRows l = some (n, why) ↔
      (∃ e, tableGet n l = some e ∧ u.mailTest n e = some why)
        ∧ ∀ m e, m < n → tableGet m l = some e → u.mailTest m e = none := by
  have hpair := rising_pairwise hl
  simp only [TableUnit.testMailRows_eq, Option.bind_eq_some_iff, Option.map_eq_some_iff, tableGet_some_iff_mem hpair,
    find?_eq_some_iff_of_pairwise Prod.fst hpair, Prod.mk.injEq]
  constructor
  · rintro ⟨⟨m, e⟩, ⟨hmem, -, hfirst⟩, _, htest, rfl, rfl⟩
    exact ⟨⟨e, hmem, htest⟩, fun k x hk hx => by simpa using hfirst (k, x) hx hk⟩
  · rintro ⟨⟨e, hmem, htest⟩, hfirst⟩
    exact ⟨(n, e), ⟨hmem, by simp [htest], fun x hx hk => by simp [hfirst x.1 x.2 hk hx]⟩, why, htest, rfl, rfl⟩

theorem TableUnit.mailTest_none_iff (m : Nat) (e : MailRow) : u.mailTest m e = none ↔
    e.alternate ≠ some e.primary ∧ e.overflow ≠ some m
      ∧ (∀ o, e.overflow = some o → (tableGet o u.mailbox.staging).isSome = true)
      ∧ u.pointLive e.primary = true ∧ ∀ p, e.alternate = some p → u.pointLive p = true := by
  have hover : e.overflow.any (fun o => (tableGet o u.mailbox.staging).isNone) = false
      ↔ ∀ o, e.overflow = some o → (tableGet o u.mailbox.staging).isSome = true := by
    cases e.overflow <;> simp
  have halt : e.alternate.all u.pointLive = true ↔ ∀ p, e.alternate = some p → u.pointLive p = true := by
    cases e.alternate <;> simp
  have htest : u.mailTest m e = none ↔ ¬ (e.alternate = some e.primary ∨ e.overflow = some m)
      ∧ e.overflow.any (fun o => (tableGet o u.mailbox.staging).isNone) = false
      ∧ (u.pointLive e.primary && e.alternate.all u.pointLive) = true := by
    unfold TableUnit.mailTest
    split_ifs <;> simp [*]
  rw [htest, hover, Bool.and_eq_true, halt, not_or, and_assoc]

/-! ### Removed rows and the source (R168, R169) -/

theorem TableUnit.namesMailbox_iff (m : Nat) : u.namesMailbox m = true ↔ (∃ e ∈ u.routing.live, e.mailbox = m)
    ∨ ∃ e ∈ u.screening.live, e.action = .redirect ∧ e.target = some m := by
  simp only [TableUnit.namesMailbox, Bool.or_eq_true, List.any_eq_true, Bool.and_eq_true, beq_iff_eq]

theorem TableUnit.namesPoint_iff (p : Nat) : u.namesPoint p = true ↔
    ∃ e ∈ u.mailbox.live, e.2.primary = p ∨ e.2.alternate = some p := by
  simp only [TableUnit.namesPoint, Bool.or_eq_true, List.any_eq_true, beq_iff_eq]

theorem TableUnit.losesManager_iff (src : Nat) : u.losesManager src = true ↔
    1 ≤ src ∧ src ≤ 30 ∧ ∀ row, tableGet src u.point.staging = some row → row.manage = false := by
  have hrow : (!((tableGet src u.point.staging).map PointRow.manage).getD false) = true
      ↔ ∀ row, tableGet src u.point.staging = some row → row.manage = false := by
    cases tableGet src u.point.staging <;> simp
  rw [TableUnit.losesManager, Bool.and_eq_true, pointOk_iff, hrow, and_assoc]

theorem State.mailboxNamed_iff (s : State) (m : Nat) : s.mailboxNamed m = true ↔
    (∃ e ∈ s.docList, e.2.current = m ∨ e.2.routed = m)
      ∨ ∃ c ∈ s.calls.channels, ∃ d p, c.decision = some d ∧ d.placement = some p ∧ (p.routed = m ∨ p.final = m) := by
  have hnamed : s.mailboxNamed m = (s.docList.any (fun e => e.2.names m) || s.calls.channels.any (fun c =>
      (c.decision.bind Decision.placement).any (fun p => p.routed == m || p.final == m))) := by
    refine congrArg _ (congrArg _ (funext fun c => ?_))
    cases c.decision.bind Decision.placement <;> rfl
  have hplaced : ∀ c : Channel,
      (c.decision.bind Decision.placement).any (fun p => p.routed == m || p.final == m) = true
        ↔ ∃ d p, c.decision = some d ∧ d.placement = some p ∧ (p.routed = m ∨ p.final = m) := fun c => by
    simp only [Option.any_eq_true, Option.bind_eq_some_iff, Bool.or_eq_true, beq_iff_eq]
    exact ⟨fun ⟨p, ⟨d, hd, hp⟩, hm⟩ => ⟨d, p, hd, hp, hm⟩, fun ⟨d, p, hd, hp, hm⟩ => ⟨p, ⟨d, hd, hp⟩, hm⟩⟩
  simp only [hnamed, Bool.or_eq_true, List.any_eq_true, hplaced, Doc.names, beq_iff_eq]

theorem State.pointServed_iff (s : State) (p : Nat) : s.pointServed p = true ↔ (s.point p).lane ≠ none :=
  Option.isSome_iff_ne_none

/-! ### The examination of each table -/

theorem TableUnit.examine_routing (src : Nat) :
    u.examine .routing src = firstBad u.routeTest [] u.routing.staging := u.testRoutes_eq [] _

theorem TableUnit.examine_screening (src : Nat) :
    u.examine .screening src = firstBad u.screenTest [] u.screening.staging := u.testScreens_eq [] _

theorem TableUnit.examine_mailbox (src : Nat) : u.examine .mailbox src
    = orElseFail (u.testMailRows u.mailbox.staging) (failAt (removedRows u.mailbox) u.namesMailbox .mailboxUndefined) :=
  rfl

theorem TableUnit.examine_point (src : Nat) : u.examine .point src
    = orElseFail (failAt (removedRows u.point) u.namesPoint .pointUndefined)
        (if u.losesManager src then some (src, .pointManagerLost) else none) := rfl

end Tests

/-- Settles O54: the entries by the search for the first that its test fails, the removed rows by the lowest that is
named or in use. -/
theorem examinationPasses : Obligations.ExaminationPasses := by
  refine ⟨fun s src => ?_, fun s src n why hs => ?_⟩
  · intro u box pt
    refine ⟨?_, ?_, ?_, ?_, ?_, ?_, rfl, rfl, mem_removedRows, mem_removedRows⟩
    · rw [u.examine_routing, firstBad_none_iff u.routeTest_none_iff]
      exact and_iff_right (by simp)
    · rw [u.examine_screening, firstBad_none_iff u.screenTest_none_iff]
      exact and_iff_right (by simp)
    · rw [u.examine_mailbox, orElseFail_none_iff, u.testMailRows_none_iff, failAt_none_iff]
      refine and_congr (forall₂_congr fun e _ => u.mailTest_none_iff e.1 e.2) (forall₂_congr fun m _ => ?_)
      rw [u.namesMailbox_iff, not_or, not_exists, not_exists]
      simp only [not_and, ne_eq]
    · rw [u.examine_point, orElseFail_none_iff, failAt_none_iff, ite_eq_right_iff, u.losesManager_iff]
      refine and_congr (forall₂_congr fun p _ => ?_) ?_
      · rw [u.namesPoint_iff]
        simp only [not_exists, not_and, not_or, ne_eq]
      · cases hrow : tableGet src u.point.staging <;> simp
    · refine (failAt_none_iff _ _ _).trans (forall₂_congr fun m _ => ?_)
      rw [s.mailboxNamed_iff]
      simp only [not_or, not_exists, not_and, ne_eq]
    · refine (failAt_none_iff _ _ _).trans (forall₂_congr fun p _ => ?_)
      rw [s.pointServed_iff, not_not]
  · intro u box pt route screen mail gone off named used first inUse
    obtain ⟨-, -, -, hmailLive, hmailStaging, hpointLive, -⟩ := hs
    have hgone := removedRows_pairwise hmailLive
    have hoff := removedRows_pairwise hpointLive
    refine ⟨?_, ?_, ?_, ?_, ?_, ?_⟩
    · rw [u.examine_routing]
      exact firstBad_some_iff _
    · rw [u.examine_screening]
      exact firstBad_some_iff _
    · rw [u.examine_mailbox, orElseFail_some_iff, u.testMailRows_some_iff hmailStaging, u.testMailRows_none_iff,
        failAt_some_iff hgone]
      refine or_congr Iff.rfl (and_congr ?_ ?_)
      · have hmem := tableGet_some_iff_mem (rising_pairwise hmailStaging)
        exact ⟨fun h m e he => h (m, e) (mem_of_tableGet he), fun h e he => h e.1 e.2 ((hmem e.1 e.2).2 he)⟩
      · simp only [mem_removedRows, u.namesMailbox_iff]
        rfl
    · rw [u.examine_point, orElseFail_some_iff, failAt_some_iff hoff, failAt_none_iff]
      simp only [mem_removedRows, u.namesPoint_iff]
      refine or_congr Iff.rfl (and_congr Iff.rfl ?_)
      rw [Option.ite_none_right_eq_some, u.losesManager_iff, Option.some.injEq, Prod.mk.injEq]
      exact ⟨fun ⟨hloses, hn, hwhy⟩ => ⟨hwhy.symm, hn.symm, hloses⟩,
        fun ⟨hwhy, hn, hloses⟩ => ⟨hloses, hn.symm, hwhy.symm⟩⟩
    · refine (failAt_some_iff hgone _ _ n why).trans ?_
      simp only [mem_removedRows, s.mailboxNamed_iff]
      rfl
    · refine (failAt_some_iff hoff _ _ n why).trans ?_
      simp only [mem_removedRows, s.pointServed_iff]
      rfl

end Sys2Proof.Machine
end

section
/-! THEOREMS. The effects of a mailbox swap on its owners (spec/09_loaded_tables_staging_commit_and_generations.md,
R173; R107, R109; logs 24, 37): the flags of the rows, the resume points of the documents that wait, the arbiter. -/

namespace Sys2Proof.Machine

open Sys2Proof.Config

/-! ### The flags of the mailboxes (R173, R107) -/

section Open

variable {s : State} {m : Nat}

/-- R173: a mailbox with both flags yes. -/
def Mailbox.opened (b : Mailbox) : Mailbox := { b with accepting := true, delivering := true }

/-- R107: the report that a mailbox makes where its delivering flag turns to yes. -/
def State.turnsOn (s : State) (m : Nat) : Bool := decide (m < 64) && !(s.box m).delivering

/-- R173: one mailbox opened. -/
def State.openBox (s : State) (m : Nat) : State := (s.setBox m (s.box m).opened).flagReport m (s.box m).delivering

theorem State.openBoxes_cons (s : State) (m : Nat) (t : List Nat) :
    s.openBoxes (m :: t) = (s.openBox m).openBoxes t := rfl

theorem State.mail_openBox (s : State) (m : Nat) : (s.openBox m).mail = (s.setBox m (s.box m).opened).mail := by
  simp [State.openBox]

theorem State.box_openBox (h : m < s.mail.boxes.length) : (s.openBox m).box m = (s.box m).opened :=
  (State.box_congr (congrArg _ (s.mail_openBox m)) m).trans (s.box_setBox m _ h)

theorem State.box_openBox_ne {k : Nat} (h : m ≠ k) : (s.openBox m).box k = s.box k :=
  (State.box_congr (congrArg _ (s.mail_openBox m)) k).trans (s.box_setBox_ne m k _ h)

theorem State.boxes_openBox (s : State) (m : Nat) : (s.openBox m).mail.boxes.length = s.mail.boxes.length := by
  simp [State.mail_openBox]

theorem State.waiting_openBox (s : State) (m : Nat) : (s.openBox m).waiting = { s.waiting with
    triggers := s.waiting.triggers ++ ([m].filter s.turnsOn).map Trigger.candidate } := by
  have hon : s.turnsOn m = (decide (m < mailboxCount) && !(s.box m).delivering) := rfl
  by_cases h : s.turnsOn m = true
  · simp [State.openBox, State.flagReport, ← hon, h]
  · simp [State.openBox, State.flagReport, ← hon, h]

end Open

theorem State.box_openBoxes {s : State} {ms : List Nat} (h : ∀ m ∈ ms, m < s.mail.boxes.length) (k : Nat) :
    (s.openBoxes ms).box k = if k ∈ ms then (s.box k).opened else s.box k := by
  induction ms generalizing s with
  | nil => rfl
  | cons m t ih =>
    have hm : m < s.mail.boxes.length := h m List.mem_cons_self
    rw [State.openBoxes_cons, ih fun x hx => (h x (List.mem_cons_of_mem _ hx)).trans_eq (s.boxes_openBox m).symm]
    by_cases hk : m = k
    · subst hk
      rw [State.box_openBox hm, if_pos List.mem_cons_self]
      exact ite_self _
    · rw [State.box_openBox_ne hk]
      exact if_congr (by simp [Ne.symm hk]) rfl rfl

theorem State.waiting_openBoxes {s : State} {ms : List Nat} (h : ms.Nodup) : (s.openBoxes ms).waiting
    = { s.waiting with triggers := s.waiting.triggers ++ (ms.filter s.turnsOn).map Trigger.candidate } := by
  induction ms generalizing s with
  | nil => simp [State.openBoxes]
  | cons m t ih =>
    obtain ⟨hm, ht⟩ := List.nodup_cons.1 h
    have hsame : t.filter (s.openBox m).turnsOn = t.filter s.turnsOn := List.filter_congr fun k hk => by
      have hne : m ≠ k := fun he => hm (he ▸ hk)
      rw [State.turnsOn, State.turnsOn, State.box_openBox_ne hne]
    have hsplit : (m :: t).filter s.turnsOn = [m].filter s.turnsOn ++ t.filter s.turnsOn :=
      List.filter_append (l₁ := [m]) t
    rw [State.openBoxes_cons, ih ht, hsame, hsplit, State.waiting_openBox, List.map_append, List.append_assoc]

theorem State.lastServed_openBoxes (s : State) (ms : List Nat) :
    (s.openBoxes ms).mail.lastServed = s.mail.lastServed := by
  induction ms generalizing s with
  | nil => rfl
  | cons m t ih => simp [State.openBoxes_cons, ih, State.mail_openBox]

/-! ### The resume points of the documents that wait (R173) -/

/-- Documents changed where they stand, as what a slot then holds. -/
theorem tableGet_map_doc {f : Nat × DocSlot → Nat × DocSlot} {g : Doc → Doc} (hkey : ∀ e, (f e).1 = e.1)
    (hdoc : ∀ e, DocSlot.doc (f e).2 = (DocSlot.doc e.2).map g) (k : Nat) (l : List (Nat × DocSlot)) :
    (tableGet k (l.map f)).bind DocSlot.doc = ((tableGet k l).bind DocSlot.doc).map g := by
  induction l with
  | nil => rfl
  | cons e t ih =>
    by_cases hk : e.1 = k
    · simp [tableGet, hkey, hk, hdoc]
    · simp [tableGet, hkey, hk, ih]

theorem State.doc_testResumes (s : State) (slot : Nat) : s.testResumes.doc slot
    = (s.doc slot).map (fun d => if s.tables.resumeLost d then d.restart else d) := by
  refine tableGet_map_doc (fun e => ?_) (fun e => ?_) slot s.docs.slots
  · rcases e with ⟨k, ch | d⟩
    · rfl
    · cases hlost : s.tables.resumeLost d <;> simp [hlost]
  · rcases e with ⟨k, ch | d⟩
    · rfl
    · cases hlost : s.tables.resumeLost d <;> simp [hlost, DocSlot.doc]

/-- R173: when a resume point fails against the new row of its document's current mailbox. -/
theorem State.resumeLost_iff (s : State) (d : Doc) : s.tables.resumeLost d = true ↔
    (d.state = .queued ∨ d.state = .held) ∧ d.current < 64
      ∧ ∃ r, d.resume = some r ∧ ∀ row, s.mailRow d.current = some row → row.primary ≠ r ∧ row.alternate ≠ some r := by
  have hrow : s.mailRow d.current = tableGet d.current s.tables.mailbox.live := rfl
  change _ ↔ _ ∧ d.current < mailboxCount ∧ _
  cases hr : d.resume with
  | none => simp [TableUnit.resumeLost, hr]
  | some r =>
    cases hget : tableGet d.current s.tables.mailbox.live with
    | none => simp [TableUnit.resumeLost, hr, hrow, hget]
    | some row => simp [TableUnit.resumeLost, hr, hrow, hget, and_assoc]

/-! ### The whole effect (R173) -/

section Swapped

variable {s : State} {rows : List Nat} {rest : List (List Nat)}

/-- R173: the state after the effects of a mailbox swap, with the swaps not yet taken. -/
def State.mailboxSwapped (s : State) (rows : List Nat) (rest : List (List Nat)) : State :=
  (({ s with waiting := { s.waiting with mailSwaps := rest } }.openBoxes rows).testResumes).trigger (.swap .mailbox)

theorem exec_mailboxSwapEffects_eq (ha : s.awake) (h : s.waiting.mailSwaps = rows :: rest) :
    exec .mailboxSwapEffects s = .next (s.mailboxSwapped rows rest) := by
  change execMailboxSwapEffects s = _
  rw [execMailboxSwapEffects, act_awake _ s ha, h]
  rfl

theorem State.box_mailboxSwapped (h : ∀ m ∈ rows, m < s.mail.boxes.length) (m : Nat) :
    (s.mailboxSwapped rows rest).box m = if m ∈ rows then (s.box m).opened else s.box m :=
  (State.box_congr (by simp [State.mailboxSwapped]) m).trans
    (State.box_openBoxes (s := { s with waiting := { s.waiting with mailSwaps := rest } }) h m)

theorem State.doc_mailboxSwapped (s : State) (rows : List Nat) (rest : List (List Nat)) (slot : Nat) :
    (s.mailboxSwapped rows rest).doc slot
      = (s.doc slot).map (fun d => if s.tables.resumeLost d then d.restart else d) := by
  let u : State := { s with waiting := { s.waiting with mailSwaps := rest } }
  have hdoc : (u.openBoxes rows).doc slot = s.doc slot := State.doc_congr (by simp [u]) slot
  have htables : (u.openBoxes rows).tables = s.tables := by simp [u]
  exact ((u.openBoxes rows).doc_testResumes slot).trans (by rw [hdoc, htables])

theorem State.waiting_mailboxSwapped (h : rows.Nodup) : (s.mailboxSwapped rows rest).waiting
    = { s.waiting with
        mailSwaps := rest
        triggers := s.waiting.triggers ++ (rows.filter s.turnsOn).map Trigger.candidate ++ [.swap .mailbox] } := by
  have hopen := State.waiting_openBoxes (s := { s with waiting := { s.waiting with mailSwaps := rest } }) h
  simp only [State.mailboxSwapped, State.trigger_waiting, State.testResumes_frame, hopen]
  rfl

theorem State.mailboxSwapped_frame (s : State) (rows : List Nat) (rest : List (List Nat)) :
    (s.mailboxSwapped rows rest).mail.lastServed = s.mail.lastServed
      ∧ (s.mailboxSwapped rows rest).docs.counter = s.docs.counter ∧ (s.mailboxSwapped rows rest).tables = s.tables
      ∧ (s.mailboxSwapped rows rest).delivery = s.delivery ∧ (s.mailboxSwapped rows rest).store = s.store
      ∧ (s.mailboxSwapped rows rest).mgmt = s.mgmt ∧ (s.mailboxSwapped rows rest).calls = s.calls := by
  have hcounter : ∀ x : State, x.testResumes.docs.counter = x.docs.counter := fun _ => rfl
  simp [State.mailboxSwapped, State.lastServed_openBoxes, hcounter]

end Swapped

end Sys2Proof.Machine
end

section
/-! THEOREMS. The effects of a point swap on its owners (spec/09_loaded_tables_staging_commit_and_generations.md, R174;
R125, R120, R122; logs 24, 38, 51): the points removed, and the slots past the maxima of the points in use. -/

namespace Sys2Proof.Machine

open Sys2Proof.Config

/-! ### The points removed (R174) -/

section Removed

variable {s : State} {p : Nat}

/-- R174: a point OFFLINE with its intake list discarded. -/
def Point.removed (x : Point) : Point := { x with state := .offline, intake := [] }

/-- R174: one point removed. -/
def State.removePoint (s : State) (p : Nat) : State :=
  if (s.point p).state = .offline then s.setPoint p { s.point p with intake := [] } else s.pointOff p

theorem State.pointsRemoved_cons (s : State) (p : Nat) (t : List Nat) :
    s.pointsRemoved (p :: t) = (s.removePoint p).pointsRemoved t := rfl

/-- R123: the notice of a point removed; none for one that was OFFLINE already (log 51). -/
def State.removalNotices (s : State) (ps : List Nat) : List (Source × Occurrence) :=
  (ps.filter (fun p => decide ((s.point p).state ≠ .offline))).map
    (fun p => (.deliveryUnit, .pointChanged p (s.point p).state .offline))

theorem State.removePoint_eq (h : p - 1 < s.delivery.points.length) : s.removePoint p
    = { s.setPoint p (s.point p).removed with
        waiting := { s.waiting with occurrences := s.waiting.occurrences ++ s.removalNotices [p] } } := by
  by_cases hoff : (s.point p).state = .offline
  · have hsame : ({ s.point p with intake := [] } : Point) = (s.point p).removed := by rw [Point.removed, ← hoff]
    rw [State.removePoint, if_pos hoff, hsame]
    simp [State.removalNotices, hoff, State.setPoint]
  · rw [State.removePoint, if_neg hoff, State.pointOff, State.pointState_setPoint _ _ h]
    simp [State.removalNotices, hoff, State.raise, Point.removed]

theorem State.delivery_removePoint (h : p - 1 < s.delivery.points.length) :
    (s.removePoint p).delivery = (s.setPoint p (s.point p).removed).delivery := by rw [State.removePoint_eq h]

theorem State.point_removePoint_ne {q : Nat} (h : p - 1 < s.delivery.points.length) (hp : 1 ≤ p) (hq : 1 ≤ q)
    (hne : p ≠ q) : (s.removePoint p).point q = s.point q :=
  (State.point_congr (congrArg _ (State.delivery_removePoint h)) q).trans (s.point_setPoint_ne _ hp hq hne)

end Removed

/-- The points named are contexts of the 6024. -/
def State.hasPoints (s : State) (ps : List Nat) : Prop := ∀ p ∈ ps, 1 ≤ p ∧ p - 1 < s.delivery.points.length

theorem State.hasPoints_removePoint {s : State} {p : Nat} {ps : List Nat} (h : s.hasPoints (p :: ps)) :
    (s.removePoint p).hasPoints ps := by
  intro q hq
  have hlen : (s.removePoint p).delivery.points.length = s.delivery.points.length := by
    simp [State.delivery_removePoint (h p List.mem_cons_self).2]
  exact hlen ▸ h q (List.mem_cons_of_mem _ hq)

theorem State.point_pointsRemoved {s : State} {ps : List Nat} (h : s.hasPoints ps) {q : Nat} (hq : 1 ≤ q) :
    (s.pointsRemoved ps).point q = if q ∈ ps then (s.point q).removed else s.point q := by
  induction ps generalizing s with
  | nil => rfl
  | cons p t ih =>
    obtain ⟨hp, hlt⟩ := h p List.mem_cons_self
    rw [State.pointsRemoved_cons, ih (State.hasPoints_removePoint h)]
    by_cases hpq : p = q
    · subst hpq
      rw [State.point_congr (congrArg _ (State.delivery_removePoint hlt)) p, State.point_setPoint _ _ _ hlt,
        if_pos List.mem_cons_self]
      exact ite_self _
    · rw [State.point_removePoint_ne hlt hp hq hpq]
      exact if_congr (by simp [Ne.symm hpq]) rfl rfl

theorem State.waiting_pointsRemoved {s : State} {ps : List Nat} (h : s.hasPoints ps) (hnodup : ps.Nodup) :
    (s.pointsRemoved ps).waiting
      = { s.waiting with occurrences := s.waiting.occurrences ++ s.removalNotices ps } := by
  induction ps generalizing s with
  | nil => simp [State.pointsRemoved, State.removalNotices]
  | cons p t ih =>
    obtain ⟨hp, hlt⟩ := h p List.mem_cons_self
    obtain ⟨hnot, ht⟩ := List.nodup_cons.1 hnodup
    have hpoint : ∀ q ∈ t, (s.removePoint p).point q = s.point q := fun q hq =>
      State.point_removePoint_ne hlt hp (h q (List.mem_cons_of_mem _ hq)).1 fun he => hnot (he ▸ hq)
    have hsame : (s.removePoint p).removalNotices t = s.removalNotices t := by
      have hfilter : t.filter (fun q => decide (((s.removePoint p).point q).state ≠ .offline))
          = t.filter (fun q => decide ((s.point q).state ≠ .offline)) :=
        List.filter_congr fun q hq => by rw [hpoint q hq]
      rw [State.removalNotices, State.removalNotices, hfilter]
      exact List.map_congr_left fun q hq => by rw [hpoint q (List.mem_filter.1 hq).1]
    have hsplit : s.removalNotices (p :: t) = s.removalNotices [p] ++ s.removalNotices t := by
      rw [State.removalNotices, ← List.singleton_append, List.filter_append, List.map_append]
      rfl
    rw [State.pointsRemoved_cons, ih (State.hasPoints_removePoint h) ht, hsame, hsplit, State.removePoint_eq hlt]
    simp

theorem State.lanes_pointsRemoved (s : State) (ps : List Nat) :
    (s.pointsRemoved ps).delivery.lanes = s.delivery.lanes := (s.pointsRemoved_seats ps).1

theorem State.pointCount_pointsRemoved {s : State} {ps : List Nat} (h : s.hasPoints ps) :
    (s.pointsRemoved ps).delivery.points.length = s.delivery.points.length := by
  induction ps generalizing s with
  | nil => rfl
  | cons p t ih =>
    rw [State.pointsRemoved_cons, ih (State.hasPoints_removePoint h),
      State.delivery_removePoint (h p List.mem_cons_self).2]
    simp

/-! ### Slots returned (R120, R122, R125) -/

/-- R122: the unsent-return count raised by a number of returns that were not handed. -/
def Point.counted (x : Point) (n : Nat) : Point := if n = 0 then x else { x with unsent := min (x.unsent + n) 255 }

theorem Point.counted_counted (x : Point) (n k : Nat) : (x.counted n).counted k = x.counted (n + k) := by
  rcases Nat.eq_zero_or_pos n with rfl | hn
  · simp [Point.counted]
  · rcases Nat.eq_zero_or_pos k with rfl | hk
    · simp [Point.counted]
    · have hmin : min (min (x.unsent + n) 255 + k) 255 = min (x.unsent + (n + k)) 255 := by omega
      simp [Point.counted, Nat.ne_of_gt hn, Nat.ne_of_gt hk, hmin]

theorem Point.unsent_counted (x : Point) (n : Nat) :
    (x.counted n).unsent = if n = 0 then x.unsent else min (x.unsent + n) 255 := by
  unfold Point.counted
  split <;> rfl

theorem Point.counted_frame (x : Point) (n : Nat) : (x.counted n).state = x.state ∧ (x.counted n).intake = x.intake
    ∧ (x.counted n).lane = x.lane ∧ (x.counted n).errors = x.errors := by
  unfold Point.counted
  split <;> exact ⟨rfl, rfl, rfl, rfl⟩

/-- R125: a SLOT_RETURN of a point, as the Office Port holds it. -/
def returnFrame (e : Nat × Nat) : Hander × OfficeFrame := (.point e.1, ⟨e.1, .slotReturn e.2 .overLimit⟩)

/-- R120: the return handed. -/
def State.handReturn (s : State) (e : Nat × Nat) : State :=
  { s with office := { s.office with queue := s.office.queue ++ [returnFrame e] } }

/-- R122: the return counted. -/
def State.countReturn (s : State) (e : Nat × Nat) : State := s.setPoint e.1 ((s.point e.1).counted 1)

/-- R125: slots of points returned one after the other. -/
def State.returnEach (s : State) (l : List (Nat × Nat)) : State :=
  l.foldl (fun s e => s.returnSlot e.1 e.2 .overLimit) s

theorem State.returnEach_cons (s : State) (e : Nat × Nat) (l : List (Nat × Nat)) :
    s.returnEach (e :: l) = (s.returnSlot e.1 e.2 .overLimit).returnEach l := rfl

theorem State.returnSlots_eq_returnEach (s : State) (p : Nat) (slots : List Nat) :
    s.returnSlots p slots .overLimit = s.returnEach (slots.map (fun x => (p, x))) := by
  induction slots generalizing s with
  | nil => rfl
  | cons x t ih => rw [State.returnSlots, ih, List.map_cons, State.returnEach_cons]

/-- R120: the returns that are counted: those that find 32 waiting. While the link is DOWN one that does not is
discarded, and none comes to wait. -/
def State.countedReturns (s : State) (l : List (Nat × Nat)) : List (Nat × Nat) :=
  if s.office.link = .down ∧ s.returnsWaiting < 32 then [] else l.drop (32 - s.returnsWaiting)

section Return

variable {s : State}

theorem State.returnSlot_handed (e : Nat × Nat) (hl : s.office.link = .up) (hw : s.returnsWaiting < 32) :
    s.returnSlot e.1 e.2 .overLimit = s.handReturn e :=
  (if_pos hw).trans (State.handOffice_up _ _ hl)

theorem State.returnSlot_discarded (e : Nat × Nat) (hl : s.office.link = .down) (hw : s.returnsWaiting < 32) :
    s.returnSlot e.1 e.2 .overLimit = s := (if_pos hw).trans (State.handOffice_down _ _ hl)

theorem State.returnSlot_counts (e : Nat × Nat) (hw : ¬ s.returnsWaiting < 32) :
    s.returnSlot e.1 e.2 .overLimit = s.countReturn e := if_neg hw

/-- R120: what becomes of a return of a point. -/
theorem State.returnSlot_eq (s : State) (e : Nat × Nat) : s.returnSlot e.1 e.2 .overLimit
    = if s.returnsWaiting < 32 then (if s.office.link = .up then s.handReturn e else s) else s.countReturn e := by
  by_cases hw : s.returnsWaiting < 32
  · cases hl : s.office.link with
    | up => rw [State.returnSlot_handed e hl hw, if_pos hw, if_pos rfl]
    | down => rw [State.returnSlot_discarded e hl hw, if_pos hw, if_neg (by simp)]
  · rw [State.returnSlot_counts e hw, if_neg hw]

theorem State.waiting_returnEach (l : List (Nat × Nat)) : (s.returnEach l).waiting = s.waiting := by
  induction l generalizing s with
  | nil => rfl
  | cons e t ih =>
    rw [State.returnEach_cons, ih, State.returnSlot_eq]
    split_ifs <;> rfl

theorem State.pointCount_returnEach (l : List (Nat × Nat)) :
    (s.returnEach l).delivery.points.length = s.delivery.points.length := by
  induction l generalizing s with
  | nil => rfl
  | cons e t ih =>
    rw [State.returnEach_cons, ih, State.returnSlot_eq]
    split_ifs
    · rfl
    · rfl
    · simp [State.countReturn]

theorem State.returnsWaiting_handReturn (e : Nat × Nat) :
    (s.handReturn e).returnsWaiting = s.returnsWaiting + 1 := by
  simp [State.returnsWaiting, State.handReturn, returnFrame]

theorem State.returnsWaiting_countReturn (e : Nat × Nat) : (s.countReturn e).returnsWaiting = s.returnsWaiting := rfl

theorem State.office_returnEach_up (hl : s.office.link = .up) (l : List (Nat × Nat)) : (s.returnEach l).office
    = { s.office with queue := s.office.queue ++ (l.take (32 - s.returnsWaiting)).map returnFrame } := by
  induction l generalizing s with
  | nil => simp [State.returnEach]
  | cons e t ih =>
    rw [State.returnEach_cons]
    by_cases hw : s.returnsWaiting < 32
    · have hroom : 32 - s.returnsWaiting = (32 - (s.returnsWaiting + 1)) + 1 := by omega
      rw [State.returnSlot_handed e hl hw, ih (s := s.handReturn e) hl, State.returnsWaiting_handReturn, hroom,
        List.take_succ_cons]
      simp [State.handReturn]
    · have hfull : 32 - s.returnsWaiting = 0 := by omega
      rw [State.returnSlot_counts e hw, ih (s := s.countReturn e) hl, State.returnsWaiting_countReturn, hfull]
      simp [State.countReturn]

theorem State.office_returnEach_down (hl : s.office.link = .down) (l : List (Nat × Nat)) :
    (s.returnEach l).office = s.office := by
  induction l generalizing s with
  | nil => rfl
  | cons e t ih =>
    rw [State.returnEach_cons]
    by_cases hw : s.returnsWaiting < 32
    · rw [State.returnSlot_discarded e hl hw, ih hl]
    · rw [State.returnSlot_counts e hw, ih (s := s.countReturn e) hl]
      rfl

theorem State.countedReturns_full (hw : ¬ s.returnsWaiting < 32) (l : List (Nat × Nat)) : s.countedReturns l = l := by
  have hfull : 32 - s.returnsWaiting = 0 := by omega
  rw [State.countedReturns, if_neg fun h => hw h.2, hfull, List.drop_zero]

/-- R122: the returns of a list raise the count of each point by those that are not handed. -/
theorem State.point_returnEach {l : List (Nat × Nat)} (h : s.hasPoints (l.map Prod.fst)) {q : Nat} (hq : 1 ≤ q) :
    (s.returnEach l).point q = (s.point q).counted ((s.countedReturns l).countP (fun e => e.1 == q)) := by
  induction l generalizing s with
  | nil => simp [State.returnEach, State.countedReturns, Point.counted]
  | cons e t ih =>
    obtain ⟨hp, hlt⟩ := h e.1 List.mem_cons_self
    have ht : s.hasPoints (t.map Prod.fst) := fun p hmem => h p (List.mem_cons_of_mem _ hmem)
    rw [State.returnEach_cons]
    by_cases hw : s.returnsWaiting < 32
    · cases hl : s.office.link with
      | up =>
        have hroom : 32 - s.returnsWaiting = (32 - (s.returnsWaiting + 1)) + 1 := by omega
        have hup : ∀ x : State, x.office.link = .up → ¬ (x.office.link = .down ∧ x.returnsWaiting < 32) :=
          fun x hx h => by simp [hx] at h
        rw [State.returnSlot_handed e hl hw, ih (s := s.handReturn e) ht, State.countedReturns, State.countedReturns,
          if_neg (hup s hl), if_neg (hup (s.handReturn e) hl), State.returnsWaiting_handReturn, hroom,
          List.drop_succ_cons]
        rfl
      | down =>
        rw [State.returnSlot_discarded e hl hw, ih ht, State.countedReturns, State.countedReturns,
          if_pos ⟨hl, hw⟩, if_pos ⟨hl, hw⟩]
    · have hset : (s.countReturn e).hasPoints (t.map Prod.fst) := fun p hmem => by
        simpa [State.countReturn] using ht p hmem
      have hw' : ¬ (s.countReturn e).returnsWaiting < 32 := hw
      rw [State.returnSlot_counts e hw, ih hset, State.countedReturns_full hw, State.countedReturns_full hw',
        State.countReturn]
      by_cases hpq : e.1 = q
      · subst hpq
        rw [State.point_setPoint _ _ _ hlt, Point.counted_counted, List.countP_cons_of_pos (by simp), Nat.add_comm]
      · rw [State.point_setPoint_ne _ _ hp hq hpq, List.countP_cons_of_neg (by simpa using hpq)]

end Return

/-! ### The intake lists cut to their maxima (R125, R174) -/

section Cut

variable {s : State}

/-- R125: the intake list of one point with no more slots than its maximum. -/
def State.trimIntake (s : State) (e : Nat × PointRow) : State :=
  s.setPoint e.1 { s.point e.1 with intake := (s.point e.1).intake.take e.2.maxSlots }

/-- R125: the slots past the maximum of one point, newest first. -/
def State.cutSlots (s : State) (e : Nat × PointRow) : List (Nat × Nat) :=
  ((s.point e.1).intake.drop e.2.maxSlots).reverse.map (fun x => (e.1, x.id))

/-- R174: the intake lists of the points in use with no more slots than their maxima. -/
def State.trimIntakes (s : State) (rows : List (Nat × PointRow)) : State := rows.foldl State.trimIntake s

/-- R174: what an intake list keeps where the rows given are in use. -/
def keptSlots (rows : List (Nat × PointRow)) (q : Nat) (l : List IntakeSlot) : List IntakeSlot :=
  (tableGet q rows).elim l (fun row => l.take row.maxSlots)

theorem State.trimIntakes_cons (s : State) (e : Nat × PointRow) (t : List (Nat × PointRow)) :
    s.trimIntakes (e :: t) = (s.trimIntake e).trimIntakes t := rfl

theorem State.setPoint_comm (s : State) {p q : Nat} (x y : Point) (hp : 1 ≤ p) (hq : 1 ≤ q) (h : p ≠ q) :
    (s.setPoint p x).setPoint q y = (s.setPoint q y).setPoint p x := by
  have hne : p - 1 ≠ q - 1 := by omega
  simp only [State.setPoint, List.set_comm _ _ hne]

theorem State.point_trimIntake_ne {e : Nat × PointRow} {q : Nat} (he : 1 ≤ e.1) (hq : 1 ≤ q) (h : e.1 ≠ q) :
    (s.trimIntake e).point q = s.point q := s.point_setPoint_ne _ he hq h

theorem State.trimIntake_countReturn {e : Nat × PointRow} {r : Nat × Nat} (he : 1 ≤ e.1) (hr : 1 ≤ r.1)
    (h : e.1 ≠ r.1) : (s.countReturn r).trimIntake e = (s.trimIntake e).countReturn r := by
  have hleft : (s.countReturn r).point e.1 = s.point e.1 := s.point_setPoint_ne _ hr he (Ne.symm h)
  rw [State.trimIntake, hleft, State.countReturn, State.countReturn, State.point_trimIntake_ne he hr h,
    State.setPoint_comm _ _ _ hr he (Ne.symm h), State.trimIntake]

/-- A return of one point does not meet the intake list of another. -/
theorem State.trimIntake_returnEach {e : Nat × PointRow} {l : List (Nat × Nat)} (he : 1 ≤ e.1)
    (hl : ∀ r ∈ l, 1 ≤ r.1 ∧ e.1 ≠ r.1) : (s.returnEach l).trimIntake e = (s.trimIntake e).returnEach l := by
  induction l generalizing s with
  | nil => rfl
  | cons r t ih =>
    obtain ⟨hr, hne⟩ := hl r List.mem_cons_self
    have hstep : (s.returnSlot r.1 r.2 .overLimit).trimIntake e = (s.trimIntake e).returnSlot r.1 r.2 .overLimit := by
      have hwaiting : (s.trimIntake e).returnsWaiting = s.returnsWaiting := rfl
      have hoffice : (s.trimIntake e).office = s.office := rfl
      rw [State.returnSlot_eq, State.returnSlot_eq, hwaiting, hoffice]
      split_ifs
      · rfl
      · rfl
      · exact State.trimIntake_countReturn he hr hne
    rw [State.returnEach_cons, State.returnEach_cons, ih fun x hx => hl x (List.mem_cons_of_mem _ hx), hstep]

theorem State.trimIntakes_returnEach {rows : List (Nat × PointRow)} {l : List (Nat × Nat)}
    (h : ∀ e ∈ rows, 1 ≤ e.1 ∧ ∀ r ∈ l, 1 ≤ r.1 ∧ e.1 ≠ r.1) :
    (s.returnEach l).trimIntakes rows = (s.trimIntakes rows).returnEach l := by
  induction rows generalizing s with
  | nil => rfl
  | cons e t ih =>
    obtain ⟨he, hl⟩ := h e List.mem_cons_self
    rw [State.trimIntakes_cons, State.trimIntakes_cons, State.trimIntake_returnEach he hl,
      ih fun x hx => h x (List.mem_cons_of_mem _ hx)]

theorem State.cutIntake_eq (s : State) (e : Nat × PointRow) :
    s.cutIntake e.1 e.2.maxSlots = (s.trimIntake e).returnEach (s.cutSlots e) := by
  rw [State.cutIntake, State.returnSlots_eq_returnEach, List.map_map]
  rfl

theorem State.hasPoints_trimIntake {e : Nat × PointRow} {ps : List Nat} (h : s.hasPoints ps) :
    (s.trimIntake e).hasPoints ps := fun p hp => by simpa [State.trimIntake] using h p hp

theorem State.fst_of_mem_cutSlots {e : Nat × PointRow} {r : Nat × Nat} (h : r ∈ s.cutSlots e) : r.1 = e.1 := by
  obtain ⟨x, -, rfl⟩ := List.mem_map.1 h
  rfl

theorem State.hasPoints_cutSlots {e : Nat × PointRow} (he : s.hasPoints [e.1]) :
    s.hasPoints ((s.cutSlots e).map Prod.fst) := by
  intro p hp
  obtain ⟨r, hr, rfl⟩ := List.mem_map.1 hp
  exact he r.1 (by simp [State.fst_of_mem_cutSlots hr])

/-- R125, R174: the lists are cut first and the slots returned after it, all in one order. -/
theorem State.cutIntakes_eq {rows : List (Nat × PointRow)} (h : s.hasPoints (rows.map Prod.fst))
    (hpair : rows.Pairwise (fun a b => a.1 < b.1)) :
    s.cutIntakes rows = (s.trimIntakes rows).returnEach (rows.flatMap s.cutSlots) := by
  induction rows generalizing s with
  | nil => rfl
  | cons e t ih =>
    obtain ⟨hfirst, ht⟩ := List.pairwise_cons.1 hpair
    obtain ⟨he, hlt⟩ := h e.1 List.mem_cons_self
    have hkeys : s.hasPoints (t.map Prod.fst) := fun p hp => h p (List.mem_cons_of_mem _ hp)
    have hone : s.hasPoints [e.1] := fun p hp => List.mem_singleton.1 hp ▸ ⟨he, hlt⟩
    have hcut : (s.trimIntake e).hasPoints ((s.cutSlots e).map Prod.fst) :=
      State.hasPoints_trimIntake (State.hasPoints_cutSlots hone)
    have hapart : ∀ k ∈ t, 1 ≤ k.1 ∧ ∀ r ∈ s.cutSlots e, 1 ≤ r.1 ∧ k.1 ≠ r.1 := fun k hk =>
      ⟨(hkeys k.1 (List.mem_map_of_mem hk)).1, fun r hr => by
        rw [State.fst_of_mem_cutSlots hr]
        exact ⟨he, (hfirst k hk).ne'⟩⟩
    have hslots : ∀ k ∈ t, ((s.trimIntake e).returnEach (s.cutSlots e)).cutSlots k = s.cutSlots k := fun k hk => by
      have hk1 : 1 ≤ k.1 := (hapart k hk).1
      rw [State.cutSlots, State.point_returnEach hcut hk1, (Point.counted_frame _ _).2.1,
        State.point_trimIntake_ne he hk1 (hfirst k hk).ne, State.cutSlots]
    have hrest : ((s.trimIntake e).returnEach (s.cutSlots e)).hasPoints (t.map Prod.fst) := fun p hp =>
      State.pointCount_returnEach (s := s.trimIntake e) _ ▸ State.hasPoints_trimIntake hkeys p hp
    rw [State.cutIntakes, State.cutIntake_eq, ih hrest ht, State.trimIntakes_returnEach hapart,
      List.flatMap_congr hslots, List.flatMap_cons, State.trimIntakes_cons, State.returnEach, State.returnEach,
      State.returnEach, List.foldl_append]

theorem State.point_trimIntakes {rows : List (Nat × PointRow)} (h : s.hasPoints (rows.map Prod.fst))
    (hpair : rows.Pairwise (fun a b => a.1 < b.1)) {q : Nat} (hq : 1 ≤ q) :
    (s.trimIntakes rows).point q = { s.point q with intake := keptSlots rows q (s.point q).intake } := by
  induction rows generalizing s with
  | nil => rfl
  | cons e t ih =>
    obtain ⟨hfirst, ht⟩ := List.pairwise_cons.1 hpair
    obtain ⟨he, hlt⟩ := h e.1 List.mem_cons_self
    have hkeys : s.hasPoints (t.map Prod.fst) := fun p hp => h p (List.mem_cons_of_mem _ hp)
    rw [State.trimIntakes_cons, ih (State.hasPoints_trimIntake hkeys) ht]
    by_cases heq : e.1 = q
    · subst heq
      have hlater : tableGet e.1 t = none := by
        rw [← Option.not_isSome_iff_eq_none, tableGet_isSome_iff]
        rintro ⟨k, hk, hke⟩
        exact absurd hke (hfirst k hk).ne'
      rw [State.trimIntake, State.point_setPoint _ _ _ hlt]
      simp [keptSlots, tableGet, hlater]
    · rw [State.point_trimIntake_ne he hq heq]
      simp [keptSlots, tableGet, heq]

@[simp] theorem State.trimIntakes_frame (s : State) (rows : List (Nat × PointRow)) :
    (s.trimIntakes rows).office = s.office ∧ (s.trimIntakes rows).waiting = s.waiting
      ∧ (s.trimIntakes rows).delivery.points.length = s.delivery.points.length := by
  induction rows generalizing s with
  | nil => exact ⟨rfl, rfl, rfl⟩
  | cons e t ih => simpa [State.trimIntakes_cons, State.trimIntake] using ih (s.trimIntake e)

theorem State.countedReturns_congr {t : State} (h : t.office = s.office) (l : List (Nat × Nat)) :
    t.countedReturns l = s.countedReturns l := by
  have hwaiting : t.returnsWaiting = s.returnsWaiting := by simp only [State.returnsWaiting, h]
  rw [State.countedReturns, State.countedReturns, h, hwaiting]

theorem State.countedReturns_up (hl : s.office.link = .up) (l : List (Nat × Nat)) :
    s.countedReturns l = l.drop (32 - s.returnsWaiting) := if_neg fun h => by simp [hl] at h

theorem State.countedReturns_down (hl : s.office.link = .down) (hw : s.returnsWaiting < 32) (l : List (Nat × Nat)) :
    s.countedReturns l = [] := if_pos ⟨hl, hw⟩

theorem State.mem_of_mem_countedReturns {l : List (Nat × Nat)} {r : Nat × Nat} (h : r ∈ s.countedReturns l) :
    r ∈ l := by
  unfold State.countedReturns at h
  split_ifs at h
  · simp at h
  · exact List.mem_of_mem_drop h

variable {rows : List (Nat × PointRow)} (h : s.hasPoints (rows.map Prod.fst))
  (hpair : rows.Pairwise (fun a b => a.1 < b.1))

include h in
theorem State.hasPoints_flatMap_cutSlots : (s.trimIntakes rows).hasPoints ((rows.flatMap s.cutSlots).map Prod.fst) := by
  intro p hp
  obtain ⟨r, hr, rfl⟩ := List.mem_map.1 hp
  obtain ⟨e, he, hre⟩ := List.mem_flatMap.1 hr
  rw [State.fst_of_mem_cutSlots hre, (s.trimIntakes_frame rows).2.2]
  exact h e.1 (List.mem_map_of_mem he)

include h hpair

/-- R125, R122: what the cuts leave of a point: its list cut, its count raised by what is not handed. -/
theorem State.point_cutIntakes {q : Nat} (hq : 1 ≤ q) : (s.cutIntakes rows).point q
    = Point.counted { s.point q with intake := keptSlots rows q (s.point q).intake }
        ((s.countedReturns (rows.flatMap s.cutSlots)).countP (fun e => e.1 == q)) := by
  rw [State.cutIntakes_eq h hpair, State.point_returnEach (State.hasPoints_flatMap_cutSlots h) hq,
    State.point_trimIntakes h hpair hq, State.countedReturns_congr (s.trimIntakes_frame rows).1]

/-- R174: a point out of use is as it was. -/
theorem State.point_cutIntakes_outOfUse {q : Nat} (hq : 1 ≤ q) (hout : tableGet q rows = none) :
    (s.cutIntakes rows).point q = s.point q := by
  have hzero : (s.countedReturns (rows.flatMap s.cutSlots)).countP (fun e => e.1 == q) = 0 := by
    refine List.countP_eq_zero.2 fun r hr => ?_
    obtain ⟨e, he, hre⟩ := List.mem_flatMap.1 (State.mem_of_mem_countedReturns hr)
    rw [State.fst_of_mem_cutSlots hre, beq_iff_eq]
    intro heq
    have hin : (tableGet q rows).isSome = true := (tableGet_isSome_iff q rows).2 ⟨e, he, heq⟩
    simp [hout] at hin
  rw [State.point_cutIntakes h hpair hq, hzero, keptSlots, hout]
  rfl

theorem State.office_cutIntakes_up (hl : s.office.link = .up) : (s.cutIntakes rows).office = { s.office with
    queue := s.office.queue ++ ((rows.flatMap s.cutSlots).take (32 - s.returnsWaiting)).map returnFrame } := by
  obtain ⟨hoffice, -⟩ := s.trimIntakes_frame rows
  have hwaiting : (s.trimIntakes rows).returnsWaiting = s.returnsWaiting := by simp only [State.returnsWaiting, hoffice]
  rw [State.cutIntakes_eq h hpair, State.office_returnEach_up (by rwa [hoffice]), hwaiting, hoffice]

theorem State.office_cutIntakes_down (hl : s.office.link = .down) : (s.cutIntakes rows).office = s.office := by
  obtain ⟨hoffice, -⟩ := s.trimIntakes_frame rows
  rw [State.cutIntakes_eq h hpair, State.office_returnEach_down (by rwa [hoffice]), hoffice]

theorem State.waiting_cutIntakes : (s.cutIntakes rows).waiting = s.waiting := by
  rw [State.cutIntakes_eq h hpair, State.waiting_returnEach, (s.trimIntakes_frame rows).2.1]

end Cut

/-! ### The whole effect (R174) -/

section Swapped

variable {s : State} {removed : List Nat} {rest : List (List Nat)}

/-- R174: the state between the two halves of a point swap: the points removed, no list cut yet. -/
def State.afterRemoval (s : State) (removed : List Nat) (rest : List (List Nat)) : State :=
  { s with waiting := { s.waiting with pointSwaps := rest } }.pointsRemoved removed

/-- R174: the state after the effects of a point swap, with the swaps not yet taken. -/
def State.pointSwapped (s : State) (removed : List Nat) (rest : List (List Nat)) : State :=
  ((s.afterRemoval removed rest).cutIntakes s.tables.point.live).trigger (.swap .point)

theorem exec_pointSwapEffects_eq (ha : s.awake) (h : s.waiting.pointSwaps = removed :: rest) :
    exec .pointSwapEffects s = .next (s.pointSwapped removed rest) := by
  change execPointSwapEffects s = _
  rw [execPointSwapEffects, act_awake _ s ha, h]
  rfl

/-- R125: the slots that a point swap returns, in their order. -/
def State.swapReturns (s : State) : List (Nat × Nat) := s.tables.point.live.flatMap s.cutSlots

/-- What holds at a point swap: the points removed are contexts out of use, each named once; those in use are contexts,
in rising order. -/
structure State.PointSwap (s : State) (removed : List Nat) : Prop where
  contexts : s.delivery.points.length = 30
  outOfUse : ∀ p ∈ removed, 1 ≤ p ∧ p ≤ 30 ∧ s.pointRow p = none
  once : removed.Nodup
  live : ∀ e ∈ s.tables.point.live, 1 ≤ e.1 ∧ e.1 ≤ 30
  order : s.tables.point.live.Pairwise (fun a b => a.1 < b.1)

theorem State.office_afterRemoval (s : State) (removed : List Nat) (rest : List (List Nat)) :
    (s.afterRemoval removed rest).office = s.office := by simp [State.afterRemoval]

theorem State.returnsWaiting_afterRemoval (s : State) (removed : List Nat) (rest : List (List Nat)) :
    (s.afterRemoval removed rest).returnsWaiting = s.returnsWaiting := by
  simp only [State.returnsWaiting, State.office_afterRemoval]

variable (h : s.PointSwap removed)
include h

theorem State.hasPoints_removed :
    State.hasPoints { s with waiting := { s.waiting with pointSwaps := rest } } removed := fun p hp => by
  have hrange := h.outOfUse p hp
  exact ⟨hrange.1, (show p - 1 < 30 by omega).trans_eq h.contexts.symm⟩

theorem State.hasPoints_live : (s.afterRemoval removed rest).hasPoints (s.tables.point.live.map Prod.fst) := by
  intro p hp
  obtain ⟨e, he, rfl⟩ := List.mem_map.1 hp
  have hrange := h.live e he
  have hlen : (s.afterRemoval removed rest).delivery.points.length = 30 :=
    (State.pointCount_pointsRemoved (State.hasPoints_removed h)).trans h.contexts
  omega

theorem State.waiting_afterRemoval : (s.afterRemoval removed rest).waiting = { s.waiting with
    pointSwaps := rest, occurrences := s.waiting.occurrences ++ s.removalNotices removed } :=
  State.waiting_pointsRemoved (State.hasPoints_removed h) h.once

theorem State.point_afterRemoval {p : Nat} (hp : 1 ≤ p) :
    (s.afterRemoval removed rest).point p = if p ∈ removed then (s.point p).removed else s.point p :=
  State.point_pointsRemoved (State.hasPoints_removed h) hp

theorem State.point_afterRemoval_live {e : Nat × PointRow} (he : e ∈ s.tables.point.live) :
    (s.afterRemoval removed rest).point e.1 = s.point e.1 := by
  have hnot : e.1 ∉ removed := fun hp => by
    have hin : (s.pointRow e.1).isSome = true := (tableGet_isSome_iff e.1 _).2 ⟨e, he, rfl⟩
    simp [(h.outOfUse e.1 hp).2.2] at hin
  rw [State.point_afterRemoval h (h.live e he).1, if_neg hnot]

/-- The points removed have no part in the returns of the others. -/
theorem State.swapReturns_afterRemoval :
    s.tables.point.live.flatMap (s.afterRemoval removed rest).cutSlots = s.swapReturns :=
  List.flatMap_congr fun e he => by rw [State.cutSlots, State.cutSlots, State.point_afterRemoval_live h he]

theorem State.point_pointSwapped {p : Nat} (hp : 1 ≤ p) : (s.pointSwapped removed rest).point p
    = Point.counted
        { (s.afterRemoval removed rest).point p with
          intake := keptSlots s.tables.point.live p ((s.afterRemoval removed rest).point p).intake }
        ((s.countedReturns s.swapReturns).countP (fun e => e.1 == p)) := by
  have hcut := State.point_cutIntakes (State.hasPoints_live (rest := rest) h) h.order hp
  rw [State.swapReturns_afterRemoval h, State.countedReturns_congr (s.office_afterRemoval removed rest)] at hcut
  exact hcut

/-- R174: a point removed. -/
theorem State.point_pointSwapped_removed {p : Nat} (hp : p ∈ removed) :
    (s.pointSwapped removed rest).point p = (s.point p).removed := by
  obtain ⟨h1, -, hrow⟩ := h.outOfUse p hp
  exact (State.point_cutIntakes_outOfUse (State.hasPoints_live h) h.order h1 hrow).trans
    ((State.point_afterRemoval h h1).trans (if_pos hp))

/-- R125, R174: a point still in use. -/
theorem State.point_pointSwapped_live {p : Nat} {row : PointRow} (hrow : s.pointRow p = some row) :
    (s.pointSwapped removed rest).point p
      = Point.counted { s.point p with intake := (s.point p).intake.take row.maxSlots }
          ((s.countedReturns s.swapReturns).countP (fun e => e.1 == p)) := by
  have hmem : (p, row) ∈ s.tables.point.live := mem_of_tableGet hrow
  have hkept : ∀ l, keptSlots s.tables.point.live p l = l.take row.maxSlots := fun l =>
    congrArg (fun o : Option PointRow => o.elim l (fun row => l.take row.maxSlots)) hrow
  rw [State.point_pointSwapped h (h.live _ hmem).1, State.point_afterRemoval_live h hmem, hkept]

/-- R122: the unsent-return count of every point. -/
theorem State.unsent_pointSwapped {p : Nat} (hp : 1 ≤ p) : ((s.pointSwapped removed rest).point p).unsent
    = (Point.counted (s.point p) ((s.countedReturns s.swapReturns).countP (fun e => e.1 == p))).unsent := by
  have hsame : ((s.afterRemoval removed rest).point p).unsent = (s.point p).unsent := by
    rw [State.point_afterRemoval h hp]
    split <;> rfl
  rw [State.point_pointSwapped h hp, Point.unsent_counted, Point.unsent_counted, hsame]

theorem State.office_pointSwapped_up (hl : s.office.link = .up) : (s.pointSwapped removed rest).office = { s.office with
    queue := s.office.queue ++ (s.swapReturns.take (32 - s.returnsWaiting)).map returnFrame } := by
  have hoffice := s.office_afterRemoval removed rest
  have hcut := State.office_cutIntakes_up (State.hasPoints_live (rest := rest) h) h.order (hoffice ▸ hl)
  rw [State.swapReturns_afterRemoval h, State.returnsWaiting_afterRemoval, hoffice] at hcut
  exact hcut

theorem State.office_pointSwapped_down (hl : s.office.link = .down) :
    (s.pointSwapped removed rest).office = s.office := by
  have hoffice := s.office_afterRemoval removed rest
  exact (State.office_cutIntakes_down (State.hasPoints_live h) h.order (hoffice ▸ hl)).trans hoffice

theorem State.waiting_pointSwapped : (s.pointSwapped removed rest).waiting = { s.waiting with
    pointSwaps := rest, occurrences := s.waiting.occurrences ++ s.removalNotices removed
    triggers := s.waiting.triggers ++ [.swap .point] } := by
  rw [State.pointSwapped, State.trigger_waiting, State.waiting_cutIntakes (State.hasPoints_live h) h.order,
    State.waiting_afterRemoval h]

omit h

theorem State.pointSwapped_frame (s : State) (removed : List Nat) (rest : List (List Nat)) :
    (s.pointSwapped removed rest).delivery.lanes = s.delivery.lanes
      ∧ (s.pointSwapped removed rest).tables = s.tables ∧ (s.pointSwapped removed rest).docs = s.docs
      ∧ (s.pointSwapped removed rest).store = s.store := by
  simp [State.pointSwapped, State.afterRemoval]

end Swapped

/-- Settles O55: a mailbox swap as its flags, its resume points and its trigger; a point swap as the points removed and
then the lists cut, with their slots returned in one order. -/
theorem swapEffects : Obligations.SwapEffects := by
  intro s
  refine ⟨rfl, rfl, rfl, rfl, fun rows rest ha hrows hlen => ?_,
    fun removed rest ha hremoved h30 hout hnodup hlive htables => ?_⟩
  · refine ⟨_, exec_mailboxSwapEffects_eq ha hrows, fun m hm => ?_, fun m hm => ?_, fun slot => ?_,
      fun hnodup => State.waiting_mailboxSwapped hnodup, s.mailboxSwapped_frame rows rest⟩
    · exact (State.box_mailboxSwapped hlen m).trans (if_pos hm)
    · exact (State.box_mailboxSwapped hlen m).trans (if_neg hm)
    · rw [State.doc_mailboxSwapped]
      exact congrArg (fun f => (s.doc slot).map f) (funext fun d => if_congr (s.resumeLost_iff d) rfl rfl)
  · obtain ⟨-, -, -, -, -, hrising, -⟩ := htables
    have h : s.PointSwap removed := ⟨h30, hout, hnodup, hlive, rising_pairwise hrising⟩
    have hwaiting := State.waiting_pointSwapped (rest := rest) h
    refine ⟨_, exec_pointSwapEffects_eq ha hremoved, fun p hp => State.point_pointSwapped_removed h hp,
      fun p row hrow => ?_, congrArg Waiting.occurrences hwaiting,
      ⟨fun hup => ⟨State.office_pointSwapped_up h hup, fun p h1 _ => ?_⟩,
        fun hdown => ⟨State.office_pointSwapped_down h hdown, fun hroom p h1 _ => ?_⟩⟩,
      congrArg Waiting.pointSwaps hwaiting, congrArg Waiting.triggers hwaiting, s.pointSwapped_frame removed rest⟩
    · obtain ⟨hstate, hintake, hlane, herrors⟩ := Point.counted_frame
        { s.point p with intake := (s.point p).intake.take row.maxSlots }
        ((s.countedReturns s.swapReturns).countP (fun e => e.1 == p))
      rw [State.point_pointSwapped_live h hrow]
      exact ⟨hstate, hlane, herrors, hintake⟩
    · rw [State.unsent_pointSwapped h h1, Point.unsent_counted, State.countedReturns_up hup]
      rfl
    · rw [State.unsent_pointSwapped h h1, State.countedReturns_down hdown hroom]
      rfl

end Sys2Proof.Machine
end

section
/-! THEOREMS. The state that a reset leaves, the invariants in it, the three resets and the tick of the clock
(spec/10_management_requests_notices_and_engine_states.md, sections 10.5, 10.8 and 10.9). -/

namespace Sys2Proof.Machine

open Sys2Proof.Config

/-! ### The state after a reset (R26, R31, R101, R122, R128) -/

section AfterReset

variable (pending : List Instr) (mem : List Host.Cell) (m : Management)

/-- R101: a department mailbox after a reset. -/
theorem State.box_afterReset_department {i : Nat} (hi : i < 64) :
    (State.afterReset pending mem m).box i = Mailbox.initial := by
  have hlen : i < (List.replicate mailboxCount Mailbox.initial).length := by rwa [List.length_replicate]
  exact (List.getD_append _ _ _ i hlen).trans (List.getD_replicate _ hi)

theorem State.bytesOk_afterReset : (State.afterReset pending [] m).bytesOk := rfl

/-- R26: every block of the store is free, and none is in use. -/
theorem State.blocksOk_afterReset : (State.afterReset pending mem m).blocksOk := by
  refine ⟨fun b hb => ?_, fun _ he => absurd he List.not_mem_nil, fun _ ho => absurd ho List.not_mem_nil⟩
  simpa [State.afterReset, PageStore.afterReset] using hb

theorem State.shapeOk_afterReset : (State.afterReset pending mem m).shapeOk := ⟨rfl, rfl, rfl, rfl⟩

/-- Every count but those of the Management Unit is 0 after a reset. -/
theorem State.limitsOk_afterReset {m : Management} (hm : m.inLimits) : (State.afterReset pending mem m).limitsOk := by
  obtain ⟨hd, hu, hs, hms, hn, hr⟩ := hm
  refine ⟨Nat.zero_le _, Nat.zero_le _, Nat.zero_le _, hd, hu, hs, hms, hn, hr, fun c hc => ?_, fun x hx => ?_⟩
  · rw [List.eq_of_mem_replicate hc]
    exact Nat.zero_le _
  · rw [List.eq_of_mem_replicate hx]
    exact ⟨Nat.zero_le _, Nat.zero_le _, Nat.zero_le _⟩

theorem State.tablesOk_afterReset : (State.afterReset pending mem m).tablesOk :=
  ⟨rfl, rfl, rfl, rfl, rfl, rfl, rfl⟩

/-- R110: the quarantine mailbox after a reset, with no swap that waits and no row that names it. -/
theorem State.quarantineOk_afterReset : (State.afterReset pending mem m).quarantineOk :=
  ⟨rfl, rfl, rfl, fun _ hl => absurd hl List.not_mem_nil, fun _ he => absurd he List.not_mem_nil,
    fun _ he => absurd he List.not_mem_nil⟩

end AfterReset

theorem Management.inLimits_afterReset (cause : ResetCause) {tod : TimeOfDay} (set : Bool) (hsecs : tod.secs ≤ max32)
    (hms : tod.ms ≤ 999) : (Management.afterReset cause tod set).inLimits :=
  ⟨Nat.zero_le _, Nat.zero_le _, hsecs, hms, Nat.le_of_ble_eq_true rfl, Nat.zero_le _⟩

/-- Settles O9: the properties of the state after a reset, with no byte of the store written. -/
theorem invariantsHoldAtReset : Obligations.InvariantsHoldAtReset :=
  ⟨State.bytesOk_afterReset _ _, State.blocksOk_afterReset _ _ _, State.shapeOk_afterReset _ _ _,
    State.limitsOk_afterReset _ _ (Management.inLimits_afterReset _ _ (Nat.zero_le _) (Nat.zero_le _)),
    State.tablesOk_afterReset _ _ _, State.quarantineOk_afterReset _ _ _, State.lanesOk_afterReset _ _ _⟩

/-! ### The clock (R184) -/

theorem TimeOfDay.total_plus (t : TimeOfDay) (n : Nat) :
    TimeOfDay.total (TimeOfDay.plus t n) = min (TimeOfDay.total t + n) todMax :=
  Nat.div_add_mod' _ 1000

theorem TimeOfDay.plus_ms_le (t : TimeOfDay) (n : Nat) : (TimeOfDay.plus t n).ms ≤ 999 :=
  Nat.le_of_lt_succ (Nat.mod_lt _ (by decide))

/-- R184: time-of-day moved on by what is left of it stands at its last value. -/
theorem TimeOfDay.plus_rest {t : TimeOfDay} (h : TimeOfDay.total t ≤ todMax) :
    TimeOfDay.plus t (todMax - TimeOfDay.total t) = ⟨4294967295, 999⟩ := by
  have hmax : min (TimeOfDay.total t + (todMax - TimeOfDay.total t)) todMax = todMax := by omega
  rw [TimeOfDay.plus, hmax]
  rfl

/-- On an empty queue the step is a tick of the reference clock. -/
theorem step_empty {s : State} (h : s.pending = []) : step s = .next (tick s) := by
  rw [step, h]

theorem tick_awake {s : State} (ha : s.awake) : tick s = s.advance 1 := by
  simp [tick, show s.heldReset = none from ha]

theorem tick_held {s : State} (hh : ¬ s.awake) : tick s = s :=
  if_pos (Option.isSome_iff_ne_none.2 hh)

theorem exec_timeOfDayLimit_eq {s : State} (ha : s.awake) :
    exec .timeOfDayLimit s = .next (s.advance (todMax - TimeOfDay.total s.mgmt.tod)) := by
  change execTimeOfDayLimit s = _
  rw [execTimeOfDayLimit, act_awake _ s ha]

/-- Settles O2: a tick moves both clocks on by 1 ms up to their last values; the event of the last value moves them on
by what is left of time-of-day. -/
theorem emptyQueueTicks : Obligations.EmptyQueueTicks := by
  refine fun s => ⟨fun hp ha => ?_, fun hp hh => ?_, fun ha hsecs hms => ?_⟩
  · refine ⟨TimeOfDay.plus s.mgmt.tod 1, TimeOfDay.total_plus _ 1, TimeOfDay.plus_ms_le _ 1, ?_⟩
    rw [step_empty hp, tick_awake ha]
    rfl
  · rw [step_empty hp, tick_held hh]
  · have hin : TimeOfDay.total s.mgmt.tod ≤ todMax := by
      simp only [TimeOfDay.total, todMax]
      omega
    rw [exec_timeOfDayLimit_eq ha, State.advance, TimeOfDay.plus_rest hin]
    rfl

/-! ### The pending flags (section 11.1) -/

theorem flagOn_flagBit {code k : Nat} (h : code ≤ 16) : flagOn k (flagBit code) = decide (code - 1 = k - 1) := by
  have hbit : flagBit code = BitVec.twoPow 16 (code - 1) := rfl
  have hin : code - 1 < 16 := by omega
  rw [flagOn, hbit, BitVec.getLsbD_twoPow, decide_eq_true hin, Bool.true_and]

/-- R193: RESTARTED is the one kind whose flag is set after a reset. -/
theorem flagOn_afterReset (cause : ResetCause) (tod : TimeOfDay) (set : Bool) (code : Nat) :
    flagOn code (Management.afterReset cause tod set).flags = (code == 15) := by
  refine (flagOn_flagBit (code := 15) (by decide)).trans ?_
  rw [Bool.eq_iff_iff, decide_eq_true_iff, beq_iff_eq]
  omega

/-! ### The resets (R193) -/

section Resets

variable {s : State}

theorem exec_powerOnReset_eq : exec .powerOnReset s
    = .next { s.coldReset .powerOn with heldReset := s.heldReset.map (fun _ => .powerOn) } := rfl

/-- R193: the reset input asserted holds the 6024 in reset. -/
theorem exec_pinResetAssert_free (h : s.heldReset = none) :
    exec .pinResetAssert s = .next { s.coldReset .pin with heldReset := some .pin } := by
  change execPinResetAssert s = _
  rw [execPinResetAssert, h]

theorem exec_pinResetAssert_held {cause : ResetCause} (h : s.heldReset = some cause) :
    exec .pinResetAssert s = .next s := by
  change execPinResetAssert s = _
  rw [execPinResetAssert, h]

theorem exec_pinResetRelease_free (h : s.heldReset = none) : exec .pinResetRelease s = .next s := by
  change execPinResetRelease s = _
  rw [execPinResetRelease, h]

/-- R193: the reset input released takes the 6024 out of reset, with the cause recorded. -/
theorem exec_pinResetRelease_held {cause : ResetCause} (h : s.heldReset = some cause) :
    exec .pinResetRelease s = .next (s.coldReset cause) := by
  change execPinResetRelease s = _
  rw [execPinResetRelease, h]

end Resets

/-- Settles O3: the pins and the supply by whether the reset input is held; what the blocks hold afterwards is read off
the state after a reset, its one flag by flagOn_afterReset. -/
theorem resetsLeaveTheResetState : Obligations.ResetsLeaveTheResetState := by
  refine ⟨fun s => ⟨fun h => ⟨?_, exec_pinResetAssert_free h, exec_pinResetRelease_free h⟩,
    fun cause h => ⟨?_, exec_pinResetAssert_held h, exec_pinResetRelease_held h⟩⟩, ?_⟩
  · rw [exec_powerOnReset_eq, h]
    rfl
  · rw [exec_powerOnReset_eq, h]
    rfl
  · intro pending mem cause tod set t
    have hbox : ∀ m, m < 64 → t.box m = Mailbox.initial := fun m => State.box_afterReset_department pending mem _
    have hflags : ∀ code, flagOn code t.mgmt.flags = (code == 15) := flagOn_afterReset cause tod set
    exact ⟨rfl, rfl, rfl, rfl, rfl, rfl, rfl, fun _ => List.eq_of_mem_replicate, rfl, rfl, rfl, rfl, rfl, rfl, rfl,
      hbox, rfl, rfl, fun _ => List.eq_of_mem_replicate, rfl, fun _ => List.eq_of_mem_replicate, rfl, rfl, rfl, rfl,
      rfl, rfl, rfl, rfl, rfl, rfl, rfl, rfl, rfl, rfl, hflags, rfl, rfl, rfl, rfl, rfl, rfl⟩

end Sys2Proof.Machine
end

section
/-! THEOREMS. Occurrences, notices and the pending flags (spec/10_management_requests_notices_and_engine_states.md,
section 10.7; sections 11.1 and 11.3). -/

namespace Sys2Proof.Machine

open Sys2Proof.Config

/-! ### The flags of the notice kinds (section 11.1) -/

section Flags

variable {code k : Nat} (h1 : 1 ≤ code) (h16 : code ≤ 16) (hk : 1 ≤ k) (flags : BitVec 16)
include h1 h16 hk

/-- Bit code - 1 stands for the kind alone. -/
theorem flagOn_flagBit_kind : flagOn k (flagBit code) = (k == code) := by
  rw [flagOn_flagBit h16, Bool.eq_iff_iff, decide_eq_true_iff, beq_iff_eq]
  omega

theorem flagOn_setFlag : flagOn k (setFlag code flags) = (k == code || flagOn k flags) := by
  rw [← flagOn_flagBit_kind h1 h16 hk, Bool.or_comm]
  exact BitVec.getLsbD_or

theorem flagOn_clearFlag (hk16 : k ≤ 16) : flagOn k (clearFlag code flags) = (k != code && flagOn k flags) := by
  have hin : k - 1 < 16 := by omega
  have hnot : (~~~ flagBit code).getLsbD (k - 1) = (k != code) := by
    rw [BitVec.getLsbD_not, decide_eq_true hin, Bool.true_and, ← flagOn, flagOn_flagBit_kind h1 h16 hk, bne]
  rw [← hnot, Bool.and_comm]
  exact BitVec.getLsbD_and

end Flags

/-! ### The oldest occurrence of a block (R188) -/

theorem takeOccurrence_none {src : Source} {l : List (Source × Occurrence)} :
    takeOccurrence src l = none ↔ ∀ e ∈ l, e.1 ≠ src := by
  induction l with
  | nil => simp [takeOccurrence]
  | cons e t ih =>
    by_cases he : e.1 = src
    · simp [takeOccurrence, he]
    · simp [takeOccurrence, he, ih]

/-- R188: what is taken is the first of its block, and the others keep their order. -/
theorem takeOccurrence_some {src : Source} {l rest : List (Source × Occurrence)} {o : Occurrence}
    (h : takeOccurrence src l = some (o, rest)) :
    ∃ a b, l = a ++ (src, o) :: b ∧ rest = a ++ b ∧ ∀ e ∈ a, e.1 ≠ src := by
  induction l generalizing rest with
  | nil => cases h
  | cons e t ih =>
    unfold takeOccurrence at h
    split at h
    · next he =>
      cases h
      exact ⟨[], t, by rw [← he]; rfl, rfl, fun _ hmem => absurd hmem List.not_mem_nil⟩
    · next he =>
      obtain ⟨⟨o', rest'⟩, htake, hpair⟩ := Option.map_eq_some_iff.1 h
      cases hpair
      obtain ⟨a, b, ht, hrest, hall⟩ := ih htake
      exact ⟨e :: a, b, by rw [ht]; rfl, by rw [hrest]; rfl, List.forall_mem_cons.2 ⟨he, hall⟩⟩

/-! ### Handing the head notice (R192) -/

theorem State.handNotice_stays {s : State}
    (h : s.mgmt.noticeOut = true ∨ s.office.link = .down ∨ s.mgmt.notices = []) : s.handNotice = s := by
  unfold State.handNotice
  split
  · rfl
  · next hout =>
    split
    · next hup hnotices => simp [hout, hup, hnotices] at h
    · rfl

theorem State.handNotice_hands {s : State} {n : Notice} {more : List Notice} (hout : s.mgmt.noticeOut = false)
    (hup : s.office.link = .up) (hn : s.mgmt.notices = n :: more) :
    s.handNotice = { s with
      mgmt := { s.mgmt with noticeOut := true }
      office := { s.office with queue := s.office.queue ++ [(.notice, ⟨31, .notice n⟩)] } } := by
  simp only [State.handNotice, hout, hup, hn, State.handOffice]
  rfl

/-! ### Reporting an occurrence (R188, R190, R191) -/

theorem Management.appendNotice_room {m : Management} (h : m.notices.length < 32) (body : NoticeBody) :
    m.appendNotice body = { m with notices := m.notices ++ [{ stamp := m.tod, body := body }] } := if_pos h

/-- R190: a notice for which the queue has no room is lost. -/
theorem Management.appendNotice_full {m : Management} (h : 32 ≤ m.notices.length) (body : NoticeBody) :
    m.appendNotice body = { m with lost := true } := if_neg (Nat.not_lt.2 h)

theorem Management.report_streaming {m : Management} (h : m.params.mode = .streaming) (o : Occurrence) :
    m.report o = m.appendNotice (.event o) := by
  rw [Management.report, h]

section Summary

variable {m : Management} (hmode : m.params.mode = .summary)
include hmode

/-- R191: while the mark stands no further summary is made. -/
theorem Management.report_marked (h : m.outstanding = true) (o : Occurrence) : m.report o = m := by
  rw [Management.report, hmode]
  exact if_pos h

theorem Management.report_summary (h : m.outstanding = false) (hroom : m.notices.length < 32) (o : Occurrence) :
    m.report o = { m with
      notices := m.notices ++ [{ stamp := m.tod, body := .summary m.flags }], outstanding := true } := by
  rw [Management.report, hmode]
  dsimp only
  rw [h, if_neg Bool.false_ne_true, Management.appendNotice_room hroom]
  exact if_pos hroom

/-- R191: a summary for which the queue has no room is lost, and the mark does not stand. -/
theorem Management.report_summary_full (h : m.outstanding = false) (hfull : 32 ≤ m.notices.length) (o : Occurrence) :
    m.report o = { m with lost := true } := by
  rw [Management.report, hmode]
  dsimp only
  rw [h, if_neg Bool.false_ne_true]
  exact if_neg (Nat.not_lt.2 hfull)

end Summary

/-- R188: an occurrence sets its flag, and is reported where its mask is clear. -/
theorem Management.occur_eq (m : Management) (o : Occurrence) :
    m.occur o = if flagOn (noticeCode (Occurrence.kind o)) m.params.masks
      then { m with flags := setFlag (noticeCode (Occurrence.kind o)) m.flags }
      else ({ m with flags := setFlag (noticeCode (Occurrence.kind o)) m.flags } : Management).report o := rfl

theorem exec_noticeOccurrence_eq {s : State} {src : Source} {o : Occurrence} {rest : List (Source × Occurrence)}
    (ha : s.awake) (h : takeOccurrence src s.waiting.occurrences = some (o, rest)) :
    exec (.noticeOccurrence src) s = .next (({ s with
      waiting := { s.waiting with occurrences := rest }, mgmt := s.mgmt.occur o } : State).handNotice) := by
  change execNoticeOccurrence src s = _
  rw [execNoticeOccurrence, act_awake _ s ha, h]

/-! ### The bytes of a notice (section 11.3) -/

theorem noticeBytes_event (t : TimeOfDay) (o : Occurrence) : noticeBytes ⟨t, .event o⟩
    = be 1 (noticeCode (Occurrence.kind o)) ++ be 4 t.secs ++ be 2 t.ms ++ occurrenceBytes o := by
  simp only [noticeBytes, todBytes, List.append_assoc]

theorem noticeBytes_summary (t : TimeOfDay) (flags : BitVec 16) : noticeBytes ⟨t, .summary flags⟩
    = be 1 16 ++ be 4 t.secs ++ be 2 t.ms ++ be 2 flags.toNat := by
  simp only [noticeBytes, todBytes, List.append_assoc]

/-- Settles O30: an occurrence by its mask, then by the mode, then by the mark and the room in the queue; what is taken
and what is handed by the lemmas above, the bytes by the kind of the notice. -/
theorem noticesAreReported : Obligations.NoticesAreReported := by
  refine ⟨?_, ⟨fun src l => ⟨takeOccurrence_none, fun o rest => takeOccurrence_some⟩,
    fun s => ⟨State.handNotice_stays, fun n more => State.handNotice_hands⟩,
    fun code k flags h1 h16 hk hk16 => ⟨flagOn_setFlag h1 h16 hk flags, flagOn_clearFlag h1 h16 hk flags hk16, rfl⟩,
    fun a b c d e g str cause why hold x y link p q i j reset => ?_⟩, ?_⟩
  · intro s src o rest ha ht code m event summary next run
    have hrun : run = .next (next (s.mgmt.occur o)) := exec_noticeOccurrence_eq ha ht
    have hmasked : flagOn code s.mgmt.params.masks = true → s.mgmt.occur o = m := fun h =>
      (Management.occur_eq _ _).trans (if_pos h)
    have hclear : flagOn code s.mgmt.params.masks = false → s.mgmt.occur o = m.report o := fun h =>
      (Management.occur_eq _ _).trans (if_neg (Bool.eq_false_iff.1 h))
    refine ⟨fun h => ?_, fun h hmode => ⟨fun hroom => ?_, fun hfull => ?_⟩,
      fun h hmode => ⟨fun hmark => ?_, fun hmark hroom => ?_, fun hmark hfull => ?_⟩⟩
    · rw [hrun, hmasked h]
    · rw [hrun, hclear h, Management.report_streaming (m := m) hmode, Management.appendNotice_room (m := m) hroom]
    · rw [hrun, hclear h, Management.report_streaming (m := m) hmode, Management.appendNotice_full (m := m) hfull]
    · rw [hrun, hclear h, Management.report_marked (m := m) hmode hmark]
    · rw [hrun, hclear h, Management.report_summary (m := m) hmode hmark hroom]
    · rw [hrun, hclear h, Management.report_summary_full (m := m) hmode hmark hfull]
  · exact ⟨rfl, rfl, rfl, rfl, rfl, rfl, rfl, rfl, rfl, rfl, rfl, rfl, rfl, rfl, rfl⟩
  · intro t a b c d e g str cause why hold x y link p q i j reset flags laid
    have hevent := noticeBytes_event t
    exact ⟨hevent _, hevent _, hevent _, hevent _, hevent _, hevent _, hevent _, hevent _, hevent _, hevent _, hevent _,
      hevent _, hevent _, hevent _, hevent _, noticeBytes_summary t flags⟩

end Sys2Proof.Machine
end

section
/-! THEOREMS. The requests that read, clear and set what the Management Unit holds
(spec/10_management_requests_notices_and_engine_states.md, sections 10.3 to 10.5, 10.7 and 10.8; section 11.3). -/

namespace Sys2Proof.Machine

open Sys2Proof.Config

/-- R176 step 4: a request that is taken acts on the state in which its arrival has been heard. -/
theorem act_request_taken {s : State} {h : ReqHead} (ht : s.requestTaken h) (k : ReqKind) (f : State → State) :
    act (fun s => s.request h k f) s = .next (f (s.taking h.src)) := by
  rw [act_awake _ s ht.1, State.request_taken s h k f ht]

/-! ### The names of CLEAR_FLAGS (R189) -/

/-- R189: the form of CLEAR_FLAGS. -/
theorem clearNamesOk_iff (names : List Nat) : clearNamesOk names = true ↔
    names ≠ [] ∧ names.length ≤ 24 ∧ ∀ n ∈ names, (1 ≤ n ∧ n ≤ 14) ∨ (17 ≤ n ∧ n ≤ 21) := by
  have hname : ∀ n, clearNameOk n = true ↔ (1 ≤ n ∧ n ≤ 14) ∨ (17 ≤ n ∧ n ≤ 21) := fun n => by
    rw [clearNameOk, Bool.or_eq_true, within_iff, within_iff]
  rw [clearNamesOk, Bool.and_eq_true, within_iff, and_assoc, Nat.one_le_iff_ne_zero, ne_eq, List.length_eq_zero_iff,
    List.all_eq_true]
  simp only [hname, ne_eq]

theorem clearNamesOk_false {names : List Nat} (h : names = [] ∨ 24 < names.length
    ∨ ∃ n ∈ names, ¬ ((1 ≤ n ∧ n ≤ 14) ∨ (17 ≤ n ∧ n ≤ 21))) : clearNamesOk names = false := by
  rw [Bool.eq_false_iff, ne_eq, clearNamesOk_iff]
  rintro ⟨hne, hlen, hall⟩
  obtain hnil | hlong | ⟨n, hn, hbad⟩ := h
  · exact hne hnil
  · omega
  · exact hbad (hall n hn)

theorem countName_eq (n : Nat) : countName n = if n = 18 then some CountName.unrecordedRefusals
    else if n = 19 then some .lineFrameErrors
    else if n = 20 then some .officeFrameErrors
    else if n = 21 then some .droppedRequests
    else none := by
  unfold countName
  split
  · rfl
  · rfl
  · rfl
  · rfl
  · next h18 h19 h20 h21 => rw [if_neg h18, if_neg h19, if_neg h20, if_neg h21]

section ClearName

variable {s : State} {n : Nat}

theorem State.clearName_count {c : CountName} (hc : countName n = some c) : s.clearName n =
    if c ∈ s.waiting.clears then s
    else { s with waiting := { s.waiting with clears := s.waiting.clears ++ [c] } } := by
  rw [State.clearName, hc]
  exact if_congr List.contains_iff_mem rfl rfl

theorem State.clearName_held (hc : countName n = none) : s.clearName n =
    if n = 17 then { s with mgmt := { s.mgmt with lost := false } }
    else { s with mgmt := { s.mgmt with flags := clearFlag n s.mgmt.flags } } := by
  rw [State.clearName, hc]

end ClearName

/-- R189: `t` is `s` with the names of a list cleared: the flags and NOTICES_LOST at once, a count that does not wait
already by one more event at its owner. -/
def State.NamesCleared (s : State) (names : List Nat) (t : State) : Prop :=
  ∃ f l, t = { s with
      mgmt := { s.mgmt with flags := f, lost := s.mgmt.lost && !names.contains 17 }
      waiting := { s.waiting with clears := s.waiting.clears ++ l } }
    ∧ (∀ k, 1 ≤ k → k ≤ 15 → flagOn k f = (flagOn k s.mgmt.flags && !names.contains k))
    ∧ l.Nodup ∧ ∀ c, c ∈ l ↔ c ∉ s.waiting.clears ∧ ∃ n ∈ names, countName n = some c

theorem State.namesCleared_nil (s : State) : s.NamesCleared [] s :=
  ⟨s.mgmt.flags, [], by simp, by simp, List.nodup_nil, by simp⟩

/-- Two lists of names cleared one after the other. -/
theorem State.NamesCleared.append {s t u : State} {xs ys : List Nat} (hx : s.NamesCleared xs t)
    (hy : t.NamesCleared ys u) : s.NamesCleared (xs ++ ys) u := by
  obtain ⟨f, l, rfl, hf, hl, hmem⟩ := hx
  obtain ⟨f', l', rfl, hf', hl', hmem'⟩ := hy
  refine ⟨f', l ++ l', ?_, fun k h1 h15 => ?_, ?_, fun c => ?_⟩
  · simp [Bool.and_assoc]
  · rw [hf' k h1 h15, hf k h1 h15]
    simp [Bool.and_assoc]
  · have hdisjoint : ∀ c ∈ l, c ∉ l' := fun c hc hc' => ((hmem' c).1 hc').1 (List.mem_append_right _ hc)
    exact hl.append hl' hdisjoint
  · rw [List.mem_append, hmem', List.mem_append, hmem]
    simp only [List.mem_append]
    grind

theorem lt_of_countName {n : Nat} {c : CountName} (h : countName n = some c) : 17 < n := by
  rw [countName_eq] at h
  grind

/-- R189: a count is cleared by an event at its owner, unless one already waits (log 40). -/
theorem State.namesCleared_count {s : State} {n : Nat} {c : CountName} (hc : countName n = some c) :
    s.NamesCleared [n] (s.clearName n) := by
  have h17 : 17 ≠ n := Nat.ne_of_lt (lt_of_countName hc)
  have hflags : ∀ k, k ≤ 15 → k ≠ n := fun k hk => by have := lt_of_countName hc; omega
  rw [State.clearName_count hc]
  split
  · next hin =>
    refine ⟨s.mgmt.flags, [], by simp [h17], fun k _ h15 => by simp [hflags k h15], List.nodup_nil, fun d => ?_⟩
    simp only [List.not_mem_nil, List.mem_singleton, exists_eq_left, hc, Option.some.injEq, false_iff]
    exact fun ⟨hout, hd⟩ => hout (hd ▸ hin)
  · next hout =>
    refine ⟨s.mgmt.flags, [c], by simp [h17], fun k _ h15 => by simp [hflags k h15], List.nodup_singleton c,
      fun d => ?_⟩
    simp only [List.mem_singleton, exists_eq_left, hc, Option.some.injEq]
    exact ⟨fun hd => ⟨hd ▸ hout, hd.symm⟩, fun hd => hd.2.symm⟩

/-- R189: a flag and NOTICES_LOST are cleared at once. -/
theorem State.namesCleared_held {s : State} {n : Nat} (hn : (1 ≤ n ∧ n ≤ 14) ∨ n = 17) (hc : countName n = none) :
    s.NamesCleared [n] (s.clearName n) := by
  have hclears : ∀ d, d ∈ ([] : List CountName) ↔ d ∉ s.waiting.clears ∧ ∃ m ∈ [n], countName m = some d := by simp [hc]
  rw [State.clearName_held hc]
  split
  · next h17 =>
    have hflags : ∀ k, k ≤ 15 → k ≠ n := fun k hk => by omega
    exact ⟨s.mgmt.flags, [], by simp [h17], fun k _ h15 => by simp [hflags k h15], List.nodup_nil, hclears⟩
  · next h17 =>
    refine ⟨clearFlag n s.mgmt.flags, [], by simp [Ne.symm h17], fun k h1 h15 => ?_, List.nodup_nil, hclears⟩
    rw [flagOn_clearFlag (by omega) (by omega) h1 _ (by omega), Bool.and_comm, List.contains_cons, List.contains_nil,
      Bool.or_false, bne]

/-- One name of CLEAR_FLAGS cleared: a count, or what the Management Unit itself holds. -/
theorem State.namesCleared_clearName (s : State) {n : Nat} (hn : (1 ≤ n ∧ n ≤ 14) ∨ (17 ≤ n ∧ n ≤ 21)) :
    s.NamesCleared [n] (s.clearName n) := by
  cases hc : countName n with
  | some c => exact State.namesCleared_count hc
  | none =>
    refine State.namesCleared_held ?_ hc
    rw [countName_eq] at hc
    grind

theorem State.namesCleared_clearAll (s : State) {names : List Nat}
    (h : ∀ n ∈ names, (1 ≤ n ∧ n ≤ 14) ∨ (17 ≤ n ∧ n ≤ 21)) : s.NamesCleared names (s.clearAll names) := by
  induction names generalizing s with
  | nil => exact s.namesCleared_nil
  | cons n rest ih =>
    obtain ⟨hn, hrest⟩ := List.forall_mem_cons.1 h
    exact (s.namesCleared_clearName hn).append (ih (s.clearName n) hrest)

/-! ### CLEAR_FLAGS, once taken (R189) -/

theorem exec_clearFlags_bad {s : State} {h : ReqHead} {names : List Nat} (ht : s.requestTaken h)
    (hbad : clearNamesOk names = false) :
    exec (.clearFlags h names) s = .next ((s.taking h.src).reply h .clearFlags .badArgument .none) := by
  refine (act_request_taken ht .clearFlags _).trans (congrArg _ (if_neg ?_))
  rw [hbad]
  exact Bool.false_ne_true

theorem exec_clearFlags_ok {s : State} {h : ReqHead} {names : List Nat} (ht : s.requestTaken h)
    (hok : clearNamesOk names = true) : exec (.clearFlags h names) s
      = .next (((s.taking h.src).clearAll names).reply h .clearFlags .ok .none) :=
  (act_request_taken ht .clearFlags _).trans (congrArg _ (if_pos hok))

/-- Settles O47: the readings by the state in which a request that is taken acts; CLEAR_FLAGS by its names, one after
the other. -/
theorem readingAndClearingRequests : Obligations.ReadingAndClearingRequests := by
  refine ⟨fun s h ht => ?_, fun x => rfl, fun flags lost outstanding n => rfl, fun p => rfl⟩
  intro a
  refine ⟨act_request_taken ht .readStatus _, act_request_taken ht .readParameters _,
    act_request_taken ht .readFlags _, act_request_taken ht .ackRestart _,
    fun names hbad => exec_clearFlags_bad ht (clearNamesOk_false hbad), ?_⟩
  intro names hne hlen hall count clear t
  have hclear : clear = State.clearName := by
    funext x n
    simp only [clear]
    cases hc : count n with
    | some c => exact (State.clearName_count ((countName_eq n).trans hc)).symm
    | none => exact (State.clearName_held ((countName_eq n).trans hc)).symm
  have hclearAll : t = a.clearAll names := by
    simp only [t, hclear]
    rfl
  obtain ⟨f, l, heq, hf, hl, hmem⟩ := hclearAll ▸ a.namesCleared_clearAll hall
  have hcount : countName = count := funext countName_eq
  rw [hcount] at hmem
  refine ⟨?_, fun n h1 h15 => ?_, f, l, heq, hl, hmem⟩
  · rw [exec_clearFlags_ok ht ((clearNamesOk_iff names).2 ⟨hne, hlen, hall⟩), hclearAll]
  · rw [← hf n h1 h15, heq]

/-! ### SET_PARAMETERS (R183) -/

/-- R183, R75: the nine values in their ranges. -/
theorem paramFieldsOk_iff (p : ParamFields) : paramFieldsOk p = true ↔
    5 ≤ p.silence ∧ p.silence ≤ 60 ∧ 1 ≤ p.tight ∧ p.tight ≤ 16384 ∧ p.critical ≤ 16383
      ∧ p.critical < p.tight ∧ p.hysteresis ≤ 4096 ∧ p.tight + p.hysteresis ≤ 16384 ∧ p.enterDebounce ≤ 15
      ∧ p.exitDebounce ≤ 15 ∧ p.lowMark ≤ 2048 ∧ (p.mode = 1 ∨ p.mode = 2) ∧ p.masks.getLsbD 14 = false
      ∧ p.masks.getLsbD 15 = false := by
  have hcritical : p.critical < blockCount ↔ p.critical ≤ 16383 := Nat.lt_succ_iff
  have hmode : 1 ≤ p.mode ∧ p.mode ≤ 2 ↔ p.mode = 1 ∨ p.mode = 2 := by omega
  simp only [paramFieldsOk, pressureFieldsOk, Bool.and_eq_true, within_iff, decide_eq_true_iff, Bool.not_eq_true',
    hcritical, hmode, and_assoc]
  rfl

/-- R183, R191: the parameters installed; a change of mode takes the mark away. -/
theorem State.install_eq (s : State) (p : Parameters) : s.install p = { s with
    mgmt := { s.mgmt with
      params := p
      outstanding := if s.mgmt.params.mode = p.mode then s.mgmt.outstanding else false }
    waiting := { s.waiting with
      pressureParts := s.waiting.pressureParts ++ [p.pressure]
      lowMarks := s.waiting.lowMarks ++ [p.lowMark]
      silences := s.waiting.silences ++ [p.silence] } } := by
  by_cases h : s.mgmt.params.mode = p.mode
  · simp [State.install, h]
  · simp [State.install, h]

section Settings

variable {s : State} {h : ReqHead} (ht : s.requestTaken h)
include ht

theorem exec_setParameters_eq (p : ParamFields) : exec (.setParameters h p) s
    = .next (if paramFieldsOk p then
        ((s.taking h.src).install (ParamFields.installed p)).reply h .setParameters .ok
          (.params (ParamFields.installed p))
      else (s.taking h.src).reply h .setParameters .badArgument .none) :=
  act_request_taken ht .setParameters _

theorem exec_setClock_eq (secs ms : Nat) : exec (.setClock h secs ms) s
    = .next (if ms ≤ 999 ∧ secs ≤ max32 then
        ({ s.taking h.src with
          mgmt := { (s.taking h.src).mgmt with tod := ⟨secs, ms⟩, clockSet := true } } : State).reply h .setClock .ok
            (.clock ⟨secs, ms⟩)
      else (s.taking h.src).reply h .setClock .badArgument .none) :=
  act_request_taken ht .setClock _

theorem exec_setReceiptBase_eq (b : Nat) : exec (.setReceiptBase h b) s
    = .next (if !receiptOk b then (s.taking h.src).reply h .setReceiptBase .badArgument .none
      else if (s.taking h.src).mgmt.intake ≠ .closed ∨ (s.taking h.src).docList ≠ []
      then (s.taking h.src).reply h .setReceiptBase .wrongState .none
      else if (s.taking h.src).claimStands then (s.taking h.src).reply h .setReceiptBase .inUse .none
      else ({ s.taking h.src with docs := { (s.taking h.src).docs with counter := some b } } : State).reply h
        .setReceiptBase .ok (.counter b)) :=
  act_request_taken ht .setReceiptBase _

end Settings

/-- R186: a slot claimed by a channel. -/
theorem State.claimStands_iff (s : State) :
    s.claimStands = true ↔ ∃ e ∈ s.docs.slots, ∃ ch, e.2 = .claimed ch := by
  rw [State.claimStands, List.any_eq_true]
  refine exists_congr fun e => and_congr_right fun _ => ?_
  cases e.2 with
  | claimed ch => exact iff_of_true rfl ⟨ch, rfl⟩
  | inUse d => exact iff_of_false Bool.false_ne_true fun ⟨_, h⟩ => nomatch h

theorem receiptBase_bad_iff (b : Nat) : (!receiptOk b) = true ↔ b = 0 ∨ 4294967295 < b := by
  rw [receiptOk, Bool.not_eq_true', Bool.eq_false_iff, ne_eq, within_iff]
  simp only [max32]
  omega

/-- Settles O48: each setting by its equation above, its operands out of range first. -/
theorem settingRequests : Obligations.SettingRequests := by
  intro s h ht a
  refine ⟨fun p => ?_, fun secs ms => ⟨fun hbad => ?_, fun hms hsecs => ?_⟩, fun b => ?_,
    act_request_taken ht .restart _⟩
  · intro ok pressure mode new
    have hok : paramFieldsOk p = true ↔ ok := paramFieldsOk_iff p
    refine ⟨fun hbad => ?_, fun hgood => ?_⟩
    · rw [exec_setParameters_eq ht, if_neg (mt hok.1 hbad)]
    · rw [exec_setParameters_eq ht, if_pos (hok.2 hgood), State.install_eq]
      rfl
  · rw [exec_setClock_eq ht, if_neg (by simp only [max32]; omega)]
  · rw [exec_setClock_eq ht, if_pos ⟨hms, hsecs⟩]
  · intro run no claimed
    have hrun := exec_setReceiptBase_eq ht b
    have hformed : 1 ≤ b → b ≤ 4294967295 → ¬ (!receiptOk b) = true := fun h1 hmax =>
      mt (receiptBase_bad_iff b).1 (by omega)
    refine ⟨fun hbad => hrun.trans ?_, fun h1 hmax => ⟨fun hst => hrun.trans ?_,
      fun hclosed hnone hclaim => hrun.trans ?_, fun hclosed hnone hfree => hrun.trans ?_⟩⟩
    · rw [if_pos ((receiptBase_bad_iff b).2 hbad)]
    · rw [if_neg (hformed h1 hmax), if_pos hst]
    · rw [if_neg (hformed h1 hmax), if_neg (not_or.2 ⟨not_not.2 hclosed, not_not.2 hnone⟩),
        if_pos (a.claimStands_iff.2 hclaim)]
    · rw [if_neg (hformed h1 hmax), if_neg (not_or.2 ⟨not_not.2 hclosed, not_not.2 hnone⟩),
        if_neg (mt a.claimStands_iff.1 hfree)]

end Sys2Proof.Machine
end

section
/-! THEOREMS. INTAKE and DELIVERY, the requests that turn the engine
(spec/10_management_requests_notices_and_engine_states.md, section 10.2). -/

namespace Sys2Proof.Machine

open Sys2Proof.Config

/-! ### The intake state (R179 to R181) -/

theorem State.setIntake_same {s : State} {st : IntakeState} (h : s.mgmt.intake = st) : s.setIntake st = s := if_pos h

/-- Section 10.2: a change of the intake state raises INTAKE_CHANGED. -/
theorem State.setIntake_changed {s : State} {st : IntakeState} (h : s.mgmt.intake ≠ st) : s.setIntake st = { s with
    mgmt := { s.mgmt with intake := st }
    waiting := { s.waiting with
      occurrences := s.waiting.occurrences ++ [(.management, .intakeChanged s.mgmt.intake st)] } } := if_neg h

/-- R179: the four conditions of OPEN. -/
theorem State.intakeReady_iff (s : State) : s.intakeReady = true ↔
    s.mgmt.clockSet = true ∧ 1 ≤ s.tables.routing.generation ∧ 1 ≤ s.tables.mailbox.generation
      ∧ s.mgmt.unacknowledged = false := by
  simp only [State.intakeReady, Bool.and_eq_true, decide_eq_true_iff, Bool.not_eq_true', and_assoc]

section Intake

variable {s : State} {h : ReqHead} (ht : s.requestTaken h)
include ht

theorem exec_intakeOpen_eq : exec (.intakeOpen h) s
    = .next (if (s.taking h.src).mgmt.intake = .opened then (s.taking h.src).reply h .intake .ok .none
      else if (s.taking h.src).intakeReady then ((s.taking h.src).setIntake .opened).reply h .intake .ok .none
      else (s.taking h.src).reply h .intake .notReady (.conditions (s.taking h.src).mgmt.clockSet
        (1 ≤ (s.taking h.src).tables.routing.generation) (1 ≤ (s.taking h.src).tables.mailbox.generation)
        (!(s.taking h.src).mgmt.unacknowledged))) :=
  act_request_taken ht .intake _

/-- R180: DRAIN closes at once where no channel is busy. -/
theorem exec_intakeDrain_eq : exec (.intakeDrain h) s
    = .next ((if (s.taking h.src).mgmt.intake = .opened
        then (s.taking h.src).setIntake (if (s.taking h.src).busy = 0 then .closed else .draining)
        else s.taking h.src).reply h .intake .ok .none) :=
  act_request_taken ht .intake _

theorem exec_intakeAbort_eq : exec (.intakeAbort h) s
    = .next (((s.taking h.src).setIntake .closed).abortAll.reply h .intake .ok (.busy (s.taking h.src).busy)) :=
  act_request_taken ht .intake _

/-! ### The run state (R182) -/

theorem exec_deliveryRun_running (hrun : (s.taking h.src).mgmt.run = .running) :
    exec (.deliveryRun h) s = .next ((s.taking h.src).replyRun h) := by
  refine (act_request_taken ht .delivery _).trans ?_
  dsimp only
  rw [hrun]

/-- R182: RUN from STOPPED is an arbiter trigger (R132). -/
theorem exec_deliveryRun_stopped (hrun : (s.taking h.src).mgmt.run = .stopped) :
    exec (.deliveryRun h) s = .next ((({ s.taking h.src with
      mgmt := { (s.taking h.src).mgmt with run := .running } } : State).trigger .deliveryRun).replyRun h) := by
  refine (act_request_taken ht .delivery _).trans ?_
  dsimp only
  rw [hrun]

end Intake

/-- Settles O49: each request by its equation above; the intake state by whether it changes. -/
theorem intakeAndDeliveryRequests : Obligations.IntakeAndDeliveryRequests := by
  intro s h ht a ok turned ready busy lanes aborted
  have hturned : ∀ st, a.mgmt.intake ≠ st → a.setIntake st = turned st := fun st => State.setIntake_changed
  have hready : a.intakeReady = true ↔ ready := a.intakeReady_iff
  have hopened : ∀ st, a.mgmt.intake = .opened → st ≠ .opened → a.mgmt.intake ≠ st := fun st h hne heq =>
    hne (heq.symm.trans h)
  refine ⟨fun hin => ?_, fun hin hr => ?_, fun hin hr => ?_, fun hin hb => ?_, fun hin hb => ?_, fun hin => ?_,
    fun hin => ?_, fun hin => ?_, fun hrun => ?_, fun hrun => ?_, act_request_taken ht .delivery _⟩
  · rw [exec_intakeOpen_eq ht, if_pos hin]
  · rw [exec_intakeOpen_eq ht, if_neg hin, if_pos (hready.2 hr), hturned _ hin]
  · rw [exec_intakeOpen_eq ht, if_neg hin, if_neg (mt hready.1 hr)]
  · have hnone : a.busy = 0 := hb
    rw [exec_intakeDrain_eq ht, if_pos hin, if_pos hnone, hturned _ (hopened _ hin (by decide))]
  · have hsome : ¬ a.busy = 0 := hb
    rw [exec_intakeDrain_eq ht, if_pos hin, if_neg hsome, hturned _ (hopened _ hin (by decide))]
  · rw [exec_intakeDrain_eq ht, if_neg hin]
  · rw [exec_intakeAbort_eq ht, State.setIntake_same hin]
    rfl
  · rw [exec_intakeAbort_eq ht, hturned _ hin]
    rfl
  · rw [exec_deliveryRun_running ht hrun, State.replyRun, hrun]
    rfl
  · rw [exec_deliveryRun_stopped ht hrun]
    rfl

end Sys2Proof.Machine
end

section
/-! THEOREMS. The judging of a request, the replies, and the bytes of what they carry
(spec/10_management_requests_notices_and_engine_states.md, section 10.1; sections 11.3 and 11.5). -/

namespace Sys2Proof.Machine

open Sys2Proof.Config

/-! ### The record that a request took the slot, while it is carried out (R176; log 39) -/

@[simp] theorem State.replyRun_tookSlot (s : State) (h : ReqHead) :
    (s.replyRun h).mgmt.tookSlot = s.mgmt.tookSlot := s.reply_tookSlot h _ _ _

@[simp] theorem State.replyMailbox_tookSlot (s : State) (h : ReqHead) (m : Nat) (result : Result) :
    (s.replyMailbox h m result).mgmt.tookSlot = s.mgmt.tookSlot := s.reply_tookSlot h _ _ _

@[simp] theorem State.staged_tookSlot (s : State) (h : ReqHead) (k : ReqKind) (t : TableId) (u : TableUnit) :
    (s.staged h k t u).mgmt.tookSlot = s.mgmt.tookSlot := State.reply_tookSlot _ h _ _ _

@[simp] theorem State.install_tookSlot (s : State) (p : Parameters) :
    (s.install p).mgmt.tookSlot = s.mgmt.tookSlot := rfl

@[simp] theorem State.defer_tookSlot (s : State) (h : ReqHead) (kind : DocReq) (receipt : Nat) :
    (s.defer h kind receipt).mgmt.tookSlot = s.mgmt.tookSlot := rfl

@[simp] theorem State.setIntake_tookSlot (s : State) (st : IntakeState) :
    (s.setIntake st).mgmt.tookSlot = s.mgmt.tookSlot := by
  unfold State.setIntake
  split <;> rfl

@[simp] theorem State.rerouteNow_tookSlot (s : State) (h : ReqHead) (slot : Nat) (d : Doc) (t : Nat)
    (quarantined : Bool) : (s.rerouteNow h slot d t quarantined).mgmt.tookSlot = s.mgmt.tookSlot := by
  unfold State.rerouteNow
  split <;> simp

@[simp] theorem State.clearName_tookSlot (s : State) (n : Nat) : (s.clearName n).mgmt.tookSlot = s.mgmt.tookSlot := by
  unfold State.clearName
  repeat' split
  all_goals rfl

@[simp] theorem State.clearAll_tookSlot (s : State) (names : List Nat) :
    (s.clearAll names).mgmt.tookSlot = s.mgmt.tookSlot := by
  induction names generalizing s with
  | nil => rfl
  | cons n rest ih => exact (ih (s.clearName n)).trans (s.clearName_tookSlot n)

/-- R176: every request of a known kind is judged the same way; carrying it out changes neither the record that it took
the slot nor the reset input. -/
theorem exec_request {i : Instr} {h : ReqHead} {k : ReqKind} (hi : requestOf i = some (h, k)) :
    ∃ f : State → State, (∀ s, exec i s = act (fun s => s.request h k f) s)
      ∧ ∀ a, (f a).mgmt.tookSlot = a.mgmt.tookSlot ∧ (f a).heldReset = a.heldReset := by
  cases i
  all_goals cases hi
  case docHold | docRelease | docPurge | mailboxResume =>
    refine ⟨_, fun s => rfl, fun a => ?_⟩
    dsimp only
    repeat' split
    all_goals simp
  all_goals
    refine ⟨_, fun s => rfl, fun a => ?_⟩
    repeat' split
    all_goals simp

/-! ### The judging of a request (R176) -/

section Judged

variable {s : State} {i : Instr} {h : ReqHead} {k : ReqKind} (ha : s.awake) (hi : requestOf i = some (h, k))
include ha hi

theorem exec_notPermitted (hm : ¬ s.mayManage h.src) :
    exec i s = .next ((s.answering h).immediate h (replyCode k) .notPermitted) := by
  obtain ⟨f, hexec, -⟩ := exec_request hi
  rw [hexec, act_awake _ s ha, State.request_notPermitted s h k f hm]

theorem exec_busy (hm : s.mayManage h.src) (hs : ¬ s.slotFor h) :
    exec i s = .next ((s.answering h).immediate h (replyCode k) .busy) := by
  obtain ⟨f, hexec, -⟩ := exec_request hi
  rw [hexec, act_awake _ s ha, State.request_busy s h k f hm hs]

theorem exec_illFormed (hm : s.mayManage h.src) (hs : s.slotFor h) (hf : h.formed = false) :
    exec i s = .next ((s.taking h.src).reply h k .badArgument .none) := by
  obtain ⟨f, hexec, -⟩ := exec_request hi
  rw [hexec, act_awake _ s ha, State.request_illFormed s h k f hm hs hf]

end Judged

/-- R176: a request that is taken leaves the record of it, and the 6024 out of reset. -/
theorem exec_taken {s t : State} {i : Instr} {h : ReqHead} {k : ReqKind} (hi : requestOf i = some (h, k))
    (ht : s.requestTaken h) (hrun : exec i s = .next t) : t.mgmt.tookSlot = true ∧ t.awake := by
  obtain ⟨f, hexec, hleaves⟩ := exec_request hi
  rw [hexec, act_request_taken ht] at hrun
  cases hrun
  obtain ⟨htook, hheld⟩ := hleaves (s.taking h.src)
  refine ⟨htook.trans (s.taking_tookSlot h.src), hheld.trans ?_⟩
  have hawake : s.heldReset = none := ht.1
  simpa [State.taking] using hawake

theorem exec_unknownRequest_eq {s : State} (ha : s.awake) (h : ReqHead) (kind : Nat) :
    exec (.unknownRequest h kind) s = .next (if !s.permitted h.src
      then (s.answering h).immediate h ((kind + 64) % 256) .notPermitted
      else (s.answering h).immediate h 255 .unknownRequest) := by
  change execUnknownRequest h kind s = _
  rw [execUnknownRequest, act_awake _ s ha]

/-- R119, R176: what the arrival of a request leaves, with the record of whether it or one with it took the slot. -/
theorem State.noteTaken_officeArrival (s : State) (src : Nat) (took : Bool) :
    (s.officeArrival src).noteTaken took
      = { s.officeArrival src with mgmt := { s.mgmt with tookSlot := took } } := by
  have hmgmt : (s.officeArrival src).mgmt = s.mgmt := by simp
  rw [State.noteTaken, hmgmt]

/-! ### Replies (R177, R178) -/

theorem State.immediate_room {s : State} (hroom : s.mgmt.replies.countP (fun r => !r.holds) < 7) (h : ReqHead)
    (code : Nat) (result : Result) : s.immediate h code result = s.addReply
      { dest := h.src, tag := h.tag, code := code, result := result, body := .none, holds := false,
        restart := false } :=
  if_pos hroom

/-- R178: with 7 immediate replies in the list the request is dropped. -/
theorem State.immediate_full {s : State} (hfull : 7 ≤ s.mgmt.replies.countP (fun r => !r.holds)) (h : ReqHead)
    (code : Nat) (result : Result) :
    s.immediate h code result = { s with mgmt := { s.mgmt with dropped := bump 65535 s.mgmt.dropped } } :=
  if_neg (Nat.not_lt.2 hfull)

/-- R178: while a reply is at the port the next joins the list. -/
theorem State.addReply_waits {s : State} (hout : s.mgmt.replyOut = true) (r : Reply) :
    s.addReply r = { s with mgmt := { s.mgmt with replies := s.mgmt.replies ++ [r] } } := if_pos hout

/-- R177, R178: the head of the list is handed where no reply is at the port; the slot is free once the reply of the
request that holds it has been handed, but for RESTART. -/
theorem State.addReply_hands {s : State} {r x : Reply} {rest : List Reply} (hout : s.mgmt.replyOut = false)
    (hlist : s.mgmt.replies ++ [r] = x :: rest) :
    s.addReply r = ({ s with mgmt := { s.mgmt with
      replies := rest, replyOut := true
      slot := if x.holds = true ∧ x.restart = false then ReqSlot.free else s.mgmt.slot } } : State).handOffice .reply
        ⟨x.dest, .reply x⟩ := by
  have hslot : slotAfter x s.mgmt.slot = if x.holds = true ∧ x.restart = false then .free else s.mgmt.slot := by
    simp [slotAfter]
  rw [State.addReply, State.handReply]
  dsimp only
  rw [hout, hlist, ← hslot]
  rfl

/-! ### The lengths of the images (section 11.5) -/

theorem length_imageStr {room : Nat} {o : Option Str} (h : ∀ x, o = some x → x.length ≤ room) :
    (imageStr room o).length = room + 1 := by
  cases o with
  | none => rw [imageStr, List.length_replicate]
  | some x => exact length_strBytes (h x rfl)

@[simp] theorem length_todBytes (t : TimeOfDay) : (todBytes t).length = 6 := by simp [todBytes]

@[simp] theorem length_optTod (o : Option TimeOfDay) : (optTod o).length = 6 := length_todBytes _

theorem length_docImage {d : Doc} (slot up : Nat) (hcalled : d.called.length ≤ 16)
    (hcaller : ∀ x, d.caller = some x → x.length ≤ 16) (hstation : ∀ x, d.station = some x → x.length ≤ 20) :
    (docImage slot d up).length = 114 := by
  have h1 : (strBytes digitRoom d.called).length = 17 := length_strBytes hcalled
  have h2 : (imageStr digitRoom d.caller).length = 17 := length_imageStr hcaller
  have h3 : (imageStr stationRoom d.station).length = 21 := length_imageStr hstation
  unfold docImage
  simp only [List.length_append, length_be, length_flagByte, length_todBytes, length_optTod, h1, h2, h3]

theorem length_entryImage {e : Entry} (o : Nat) (hcalled : e.called.length ≤ 16)
    (hcaller : ∀ x, e.caller = some x → x.length ≤ 16) (hstation : ∀ x, e.station = some x → x.length ≤ 20) :
    (entryImage o e).length = 87 := by
  have h1 : (strBytes digitRoom e.called).length = 17 := length_strBytes hcalled
  have h2 : (imageStr digitRoom e.caller).length = 17 := length_imageStr hcaller
  have h3 : (imageStr stationRoom e.station).length = 21 := length_imageStr hstation
  simp only [entryImage, List.length_append, length_be, length_todBytes, h1, h2, h3]

theorem length_pageImageBytes (p : PageImage) : (pageImageBytes p).length = 17 := by
  simp only [pageImageBytes, List.length_append, length_be]

theorem length_pageImages (n : Nat) (l : List PageImage) :
    (be 2 n ++ listBytes pageImageBytes l).length = 3 + 17 * l.length := by
  have hsum : (l.flatMap pageImageBytes).length = 17 * l.length := by
    induction l with
    | nil => rfl
    | cons p t ih => rw [List.flatMap_cons, List.length_append, ih, length_pageImageBytes, List.length_cons]; omega
  simp only [listBytes, List.length_append, length_be, hsum]
  omega

/-- Settles O46: a request judged step by step, a reply by whether one is at the port and by the link, the bytes by the
layouts of chapter 11. -/
theorem requestsAreJudgedInOrder : Obligations.RequestsAreJudgedInOrder := by
  refine ⟨fun s ha => ?_, ⟨fun s src => s.noteTaken_officeArrival src true,
    fun s t i j h g k m hi hj ht hrun hg hm => ?_⟩, fun s h k code result body => ?_, ?_, fun m l => ?_, ?_, ?_⟩
  · intro heard
    have hanswering : ∀ h, s.answering h = heard h (h.together && s.mgmt.tookSlot) := fun h =>
      s.noteTaken_officeArrival h.src _
    have htaking : ∀ h, s.taking h.src = heard h true := fun h => s.noteTaken_officeArrival h.src true
    constructor
    · intro i h k hi other
      refine ⟨fun hm => ?_, fun hm hs => ?_, fun hm hg ht => ?_, fun hm hs hg hf => ?_⟩
      · rw [exec_notPermitted ha hi hm, hanswering]
      · rw [exec_busy ha hi hm fun hfor => hs hfor.1, hanswering]
      · rw [exec_busy ha hi hm fun hfor => hfor.2 ⟨hg, ht⟩, hanswering]
      · rw [exec_illFormed ha hi hm ⟨hs, hg⟩ hf, htaking]
    · intro h kind other
      refine ⟨fun hm => ?_, fun hm => ?_⟩
      · have hno : s.permitted h.src = false := Bool.eq_false_iff.2 (mt (s.permitted_iff h.src).1 hm)
        rw [exec_unknownRequest_eq ha, hno, hanswering]
        rfl
      · rw [exec_unknownRequest_eq ha, (s.permitted_iff h.src).2 hm, hanswering]
        rfl
  · obtain ⟨htook, hawake⟩ := exec_taken hi ht hrun
    have hsecond : t.answering g = { t.officeArrival g.src with mgmt := { t.mgmt with tookSlot := true } } := by
      rw [State.answering, State.noteTaken_officeArrival, State.second, hg, htook]
      rfl
    refine ⟨htook, ?_⟩
    rw [exec_busy hawake hj hm fun hfor => hfor.2 ⟨hg, htook⟩, hsecond]
  · intro own now
    refine ⟨rfl, fun hroom => State.immediate_room hroom h code result,
      fun hfull => State.immediate_full hfull h code result, fun r hout => State.addReply_waits hout r, ?_⟩
    intro r x rest hout hlist u
    rw [State.addReply_hands hout hlist]
    exact ⟨fun hup => State.handOffice_up _ _ hup, fun hdown => State.handOffice_down _ _ hdown⟩
  · exact ⟨rfl, rfl, fun _ => rfl, fun _ => rfl, fun _ => rfl, fun _ _ _ _ => rfl, fun _ => rfl, fun _ _ => rfl,
      fun _ => rfl, fun _ _ => rfl, fun _ _ _ _ => rfl, fun _ _ => rfl⟩
  · intro image
    refine ⟨rfl, ?_⟩
    rw [List.append_assoc]
    rfl
  · refine ⟨fun slot up d => ⟨rfl, length_docImage slot up⟩, fun n l => ⟨?_, length_pageImages n l⟩,
      fun l next => rfl⟩
    rw [List.append_assoc]
    rfl
  · exact ⟨fun o e => ⟨rfl, length_entryImage o⟩, fun l c n => ⟨rfl, rfl⟩⟩

end Sys2Proof.Machine
end

section
/-! SUPPORT. Numbers, strings and codes in their bytes (spec/11_frame_and_record_layouts.md, section 11.1), and the
check values as one shift register over the bits (R198). -/

namespace Sys2Proof.Machine

open Sys2Proof.Config

/-! ### Numbers -/

theorem getElem?_be (v : Nat) {n k : Nat} (hk : k < n) :
    (be n v)[k]? = some (BitVec.ofNat 8 (v / 256 ^ (n - 1 - k))) := by
  induction n generalizing k with
  | zero => omega
  | succ n ih =>
    cases k with
    | zero => rfl
    | succ k =>
      rw [be, List.getElem?_cons_succ, ih (Nat.lt_of_succ_lt_succ hk)]
      congr 4
      omega

/-- The bytes of a number, read on from the number read so far. -/
theorem foldl_be (a n v : Nat) :
    (be n v).foldl (fun m b => m * 256 + b.toNat) a = a * 256 ^ n + v % 256 ^ n := by
  induction n generalizing a with
  | zero => simp [be, Nat.mod_one]
  | succ n ih =>
    have hbyte : (BitVec.ofNat 8 (v / 256 ^ n)).toNat = v / 256 ^ n % 256 := BitVec.toNat_ofNat _ _
    rw [be, List.foldl_cons, ih, hbyte, Nat.mod_pow_succ]
    ring

theorem num_be {n v : Nat} (hv : v < 256 ^ n) : num (be n v) = v := by
  rw [num, foldl_be, Nat.zero_mul, Nat.zero_add, Nat.mod_eq_of_lt hv]

theorem field_be_append {n v : Nat} (hv : v < 256 ^ n) (t : List Byte) : field (be n v ++ t) 0 n = v := by
  rw [field, List.drop_zero, List.take_left' (length_be n v), num_be hv]

theorem field_be {n v : Nat} (hv : v < 256 ^ n) : field (be n v) 0 n = v := by
  simpa using field_be_append hv []

theorem field_append_right {a : List Byte} {off : Nat} (h : a.length ≤ off) (t : List Byte) (n : Nat) :
    field (a ++ t) off n = field t (off - a.length) n := by
  rw [field, List.drop_append, List.drop_eq_nil_of_le h, List.nil_append, field]

/-- The number that ends a run. -/
theorem field_append_be {n v : Nat} (a : List Byte) (hv : v < 256 ^ n) : field (a ++ be n v) a.length n = v := by
  rw [field_append_right (Nat.le_refl _), Nat.sub_self, field_be hv]

/-! ### Strings -/

section Strings

variable {room : Nat} {x : Str}

theorem strBytes_eq (room : Nat) (x : Str) : strBytes room x
    = BitVec.ofNat 8 x.length :: (x.map (BitVec.ofNat 8) ++ List.replicate (room - x.length) 0) := by
  simp [strBytes, be]

theorem getElem?_strBytes_char {k : Nat} (hk : k < x.length) :
    (strBytes room x)[k + 1]? = (x[k]?).map (BitVec.ofNat 8) := by
  rw [strBytes_eq, List.getElem?_cons_succ, List.getElem?_append_left (by simpa using hk), List.getElem?_map]

theorem getElem?_strBytes_pad {k : Nat} (hlen : x.length ≤ k) (hk : k < room) : (strBytes room x)[k + 1]? = some 0 := by
  rw [strBytes_eq, List.getElem?_cons_succ, List.getElem?_append_right (by simpa using hlen), List.getElem?_replicate,
    List.length_map, if_pos (by omega)]

/-- Codes that fit a byte are read back from their bytes. -/
theorem map_toNat_map_ofNat (hx : ∀ c ∈ x, c < 256) : (x.map (BitVec.ofNat 8)).map BitVec.toNat = x := by
  rw [List.map_map]
  refine (List.map_congr_left fun c hc => ?_).trans (List.map_id x)
  exact (BitVec.toNat_ofNat c 8).trans (Nat.mod_eq_of_lt (hx c hc))

variable (hroom : room < 255) (hlen : x.length ≤ room) (hx : ∀ c ∈ x, c < 256) (t : List Byte)
include hroom hlen

theorem field_strBytes_length : field (strBytes room x ++ t) 0 1 = x.length := by
  rw [strBytes, List.append_assoc, List.append_assoc, field_be_append (by omega)]

include hx

theorem strAt_strBytes_append : strAt (strBytes room x ++ t) 0 room = some x := by
  have hchars : ((strBytes room x ++ t).drop (0 + 1)).take x.length = x.map (BitVec.ofNat 8) := by
    rw [strBytes_eq, List.cons_append, List.drop_succ_cons, List.drop_zero, List.append_assoc,
      List.take_left' (by simp)]
  simp only [strAt]
  rw [field_strBytes_length hroom hlen, if_pos hlen, hchars, map_toNat_map_ofNat hx]

theorem strAt_strBytes : strAt (strBytes room x) 0 room = some x := by
  simpa using strAt_strBytes_append hroom hlen hx []

end Strings

theorem optStrAt_append_right (a t : List Byte) (room : Nat) : optStrAt (a ++ t) a.length room = optStrAt t 0 room := by
  simp only [optStrAt, strAt, field_append_right (Nat.le_refl _), Nat.sub_self, List.drop_append,
    List.drop_eq_nil_of_le (Nat.le_add_right _ _), List.nil_append, Nat.add_sub_cancel_left, Nat.zero_add]

theorem optStrAt_optStrBytes {room : Nat} {o : Option Str} (hroom : room < 255)
    (ho : ∀ x, o = some x → x.length ≤ room ∧ ∀ c ∈ x, c < 256) : optStrAt (optStrBytes room o) 0 room = some o := by
  cases o with
  | none => exact if_pos (field_be_append (by omega) _)
  | some x =>
    obtain ⟨hlen, hx⟩ := ho x rfl
    have hpresent : field (strBytes room x) 0 1 ≠ 255 := by
      rw [← List.append_nil (strBytes room x), field_strBytes_length hroom hlen]
      omega
    rw [optStrBytes, optStrAt, if_neg hpresent, strAt_strBytes hroom hlen hx]
    rfl

theorem length_optStrBytes {room : Nat} {o : Option Str} (ho : ∀ x, o = some x → x.length ≤ room) :
    (optStrBytes room o).length = room + 1 := by
  cases o with
  | none => rw [optStrBytes, List.length_append, length_be, List.length_replicate, Nat.add_comm]
  | some x => exact length_strBytes (ho x rfl)

theorem digitsOk_fits {x : Str} (h : digitsOk x = true) : x.length ≤ digitRoom ∧ ∀ c ∈ x, c < 256 := by
  obtain ⟨hlen, hchars⟩ := (digitsOk_iff x).1 h
  exact ⟨hlen, fun c hc => by have := hchars c hc; omega⟩

theorem stationOk_fits {x : Str} (h : stationOk x = true) : x.length ≤ stationRoom ∧ ∀ c ∈ x, c < 256 := by
  obtain ⟨hlen, hchars⟩ := (stationOk_iff x).1 h
  exact ⟨hlen, fun c hc => by have := hchars c hc; omega⟩

/-! ### Presence bits and enumerations -/

theorem testBit_presence (l : List Bool) (k : Nat) : (presence l).testBit k = l.getD k false := by
  induction l generalizing k with
  | nil => simp [presence]
  | cons b t ih =>
    have hbit : presence (b :: t) = Nat.bit b (presence t) := by
      rw [presence, Nat.bit_val, Nat.add_comm]
      cases b <;> rfl
    cases k with
    | zero => rw [hbit, Nat.testBit_bit_zero, List.getD_cons_zero]
    | succ k => rw [hbit, Nat.testBit_bit_succ, ih, List.getD_cons_succ]

theorem ofCode_resolutionCode (x : Resolution) : ofCode resolutions (resolutionCode x) = some x := by cases x <;> rfl

theorem ofCode_widthCode (x : Width) : ofCode widths (widthCode x) = some x := by cases x <;> rfl

theorem ofCode_modemCode (x : ModemVerdict) : ofCode modemVerdicts (modemCode x) = some x := by cases x <;> rfl

theorem resolutionCode_lt (x : Resolution) : resolutionCode x < 256 := by cases x <;> decide

theorem widthCode_lt (x : Width) : widthCode x < 256 := by cases x <;> decide

theorem modemCode_lt (x : ModemVerdict) : modemCode x < 256 := by cases x <;> decide

/-! ### Check values (R198) -/

/-- The bits of the bytes in order, each byte with its most significant bit first. -/
def bitsOf (bytes : List Byte) : List Bool :=
  bytes.flatMap (fun b => (List.range 8).map (fun k => b.getLsbD (7 - k)))

/-- The register runs through the bytes bit by bit. -/
theorem crcRun_eq {n : Nat} (poly : BitVec n) (bytes : List Byte) :
    crcRun poly bytes = (bitsOf bytes).foldl (crcBit poly) (BitVec.allOnes n) := by
  rw [bitsOf, List.foldl_flatMap]
  rfl

theorem crcBit_eq {n : Nat} (poly : BitVec n) : crcBit poly
    = fun (r : BitVec n) (bit : Bool) => if r.getLsbD (n - 1) = bit then r <<< 1 else (r <<< 1) ^^^ poly := by
  funext r bit
  rw [crcBit, BitVec.msb_eq_getLsbD_last]
  cases r.getLsbD (n - 1) <;> cases bit <;> rfl

theorem crc16_eq (bytes : List Byte) : crc16 bytes = (bitsOf bytes).foldl (fun (r : BitVec 16) bit =>
    if r.getLsbD 15 = bit then r <<< 1 else (r <<< 1) ^^^ 0x1021#16) 0xFFFF#16 := by
  rw [crc16, crcRun_eq, crcBit_eq]
  rfl

theorem crc32_eq (bytes : List Byte) : crc32 bytes = ~~~ ((bitsOf bytes).foldl (fun (r : BitVec 32) bit =>
    if r.getLsbD 31 = bit then r <<< 1 else (r <<< 1) ^^^ 0x04C11DB7#32) 0xFFFFFFFF#32) := by
  rw [crc32, crcRun_eq, crcBit_eq]
  rfl

end Sys2Proof.Machine
end

section
/-! THEOREMS. The byte runs of the two links (spec/11_frame_and_record_layouts.md, sections 11.2 and 11.3): the runs the
frames are sent as, and what they are read back as (R118, R196, R197). -/

namespace Sys2Proof.Machine

open Sys2Proof.Config

/-! ### Runs of the line link (section 11.2) -/

theorem lineChecks_iff (run : List Byte) : lineChecks run = true ↔ 6 ≤ run.length ∧ run.length = 6 + field run 2 2
    ∧ field run (run.length - 2) 2 = (crc16 (run.take (run.length - 2))).toNat := by
  simp only [lineChecks, Bool.and_eq_true, decide_eq_true_iff, and_assoc]

/-- R196: a run without its length or its CRC-16 is no good frame. -/
theorem lineRun_bad {run : List Byte} (h : ¬ lineChecks run = true) : lineRun run = .badLineFrame := if_neg h

section LineRun

variable {kind ch : Nat} {body : List Byte}

@[simp] theorem length_lineRunOf : (lineRunOf kind ch body).length = 6 + body.length := by
  simp only [lineRunOf, List.length_append, length_be]
  omega

theorem field_lineRunOf_kind (h : kind < 256) : field (lineRunOf kind ch body) 0 1 = kind := by
  simp [lineRunOf, field_be_append, h]

theorem field_lineRunOf_channel (h : ch < 256) : field (lineRunOf kind ch body) 1 1 = ch := by
  simp [lineRunOf, field_append_right, field_be_append, h]

theorem field_lineRunOf_length (h : body.length < 65536) : field (lineRunOf kind ch body) 2 2 = body.length := by
  simp [lineRunOf, field_append_right, field_be_append, h]

theorem body_lineRunOf : ((lineRunOf kind ch body).drop 4).take ((lineRunOf kind ch body).length - 6) = body := by
  have hdrop : (lineRunOf kind ch body).drop 4 = body ++ be 2 (crc16 (be 1 kind ++ be 1 ch ++ be 2 body.length
      ++ body)).toNat := by
    simp only [lineRunOf]
    rw [List.append_assoc, List.drop_left' (by simp)]
  rw [hdrop, length_lineRunOf, Nat.add_sub_cancel_left, List.take_left]

theorem lineChecks_lineRunOf (h : body.length < 65536) : lineChecks (lineRunOf kind ch body) = true := by
  refine (lineChecks_iff _).2 ⟨by simp, by rw [length_lineRunOf, field_lineRunOf_length h], ?_⟩
  have hlen : (lineRunOf kind ch body).length - 2 = (be 1 kind ++ be 1 ch ++ be 2 body.length ++ body).length := by
    simp only [length_lineRunOf, List.length_append, length_be]
    omega
  rw [hlen, lineRunOf, List.take_left, field_append_be _ (BitVec.isLt _)]

theorem lineRun_lineRunOf {i : Instr} (hkind : kind < 256) (hch : ch < 256) (hlen : body.length < 65536)
    (hi : lineCommand kind ch body = some i) (hwf : i.wellFormed = true) : lineRun (lineRunOf kind ch body) = i := by
  rw [lineRun, if_pos (lineChecks_lineRunOf hlen), field_lineRunOf_kind hkind, field_lineRunOf_channel hch,
    body_lineRunOf, hi]
  exact if_pos hwf

end LineRun

theorem channel_fits {ch : Nat} (h : channelOk ch = true) : ch < 256 := by
  have := (channelOk_iff ch).1 h
  omega

/-! ### The frames of the shelf -/

section Shelf

variable {ch : Nat}

theorem lineRun_callOpen {called : Str} {caller : Option Str} (h : callOpenOk ch (.frame called caller .done) = true) :
    lineRun (shelfRun (.callOpen ch (.frame called caller .done))) = .callOpen ch (.frame called caller .done) := by
  have hok := h
  simp only [callOpenOk, Bool.and_eq_true, optionOk_iff] at hok
  obtain ⟨⟨hch, hcalled⟩, hcaller⟩ := hok
  obtain ⟨hlen, hchars⟩ := digitsOk_fits hcalled
  have hfits : ∀ x, caller = some x → x.length ≤ digitRoom ∧ ∀ c ∈ x, c < 256 :=
    fun x hx => digitsOk_fits (hcaller x hx)
  have h1 : (strBytes digitRoom called).length = 17 := length_strBytes hlen
  have h2 : (optStrBytes digitRoom caller).length = 17 := length_optStrBytes fun x hx => (hfits x hx).1
  have hsecond := optStrAt_append_right (strBytes digitRoom called) (optStrBytes digitRoom caller) digitRoom
  rw [h1, optStrAt_optStrBytes (by decide) hfits] at hsecond
  refine lineRun_lineRunOf (by decide) (channel_fits hch) (by simp [h1, h2]) ?_ h
  simp [lineCommand, h1, h2, strAt_strBytes_append (by decide) hlen hchars, hsecond]

theorem lineRun_senderInfo {ident : Str} (h : senderInfoOk ch ident = true) :
    lineRun (shelfRun (.senderInfo ch ident)) = .senderInfo ch ident := by
  obtain ⟨hch, hident⟩ := (Bool.and_eq_true _ _).mp h
  obtain ⟨hlen, hchars⟩ := stationOk_fits hident
  have hbody : (strBytes stationRoom ident).length = 21 := length_strBytes hlen
  refine lineRun_lineRunOf (by decide) (channel_fits hch) (by simp [hbody]) ?_ h
  simp [lineCommand, hbody, strAt_strBytes (by decide) hlen hchars]

theorem lineRun_pageStart {page : Nat} (res : Resolution) (width : Width) (h : pageStartOk ch page = true) :
    lineRun (shelfRun (.pageStart ch page res width)) = .pageStart ch page res width := by
  obtain ⟨hch, hpage⟩ := (Bool.and_eq_true _ _).mp h
  have hlt : page < 65536 := ((within_iff _ _ _).1 hpage).2.trans_lt (by decide)
  refine lineRun_lineRunOf (by decide) (channel_fits hch) (by simp) ?_ h
  simp [lineCommand, field_append_right, field_be_append, field_be, hlt, resolutionCode_lt, widthCode_lt,
    ofCode_resolutionCode, ofCode_widthCode]

theorem lineRun_pageData {seq : Nat} {payload : List Byte} (h : pageDataOk ch seq payload = true) :
    lineRun (shelfRun (.pageData ch seq payload)) = .pageData ch seq payload := by
  have hok := h
  simp only [pageDataOk, Bool.and_eq_true, decide_eq_true_iff, within_iff, payloadBytes] at hok
  obtain ⟨⟨hch, hseq⟩, _, hlen⟩ := hok
  have hlt : seq < 256 ^ 1 := by omega
  refine lineRun_lineRunOf (by decide) (channel_fits hch) (by simp; omega) ?_ h
  rw [lineCommand, if_neg (by simp [be]), field_be_append hlt, List.drop_left' (length_be 1 seq)]

theorem lineRun_pageEnd {lines errs : Nat} (verdict : ModemVerdict) (h : pageEndOk ch lines errs = true) :
    lineRun (shelfRun (.pageEnd ch lines errs verdict)) = .pageEnd ch lines errs verdict := by
  have hok := h
  simp only [pageEndOk, Bool.and_eq_true, decide_eq_true_iff] at hok
  obtain ⟨⟨hch, hlines⟩, herrs⟩ := hok
  have hlines' : lines < 65536 := Nat.lt_succ_of_le hlines
  have herrs' : errs < 65536 := Nat.lt_succ_of_le herrs
  refine lineRun_lineRunOf (by decide) (channel_fits hch) (by simp) ?_ h
  simp [lineCommand, field_append_right, field_be_append, field_be, hlines', herrs',
    modemCode_lt, ofCode_modemCode]

theorem shelfRun_callClose (ch : Nat) (cause : ShelfCause) :
    ∃ n, shelfRun (.callClose ch cause) = lineRunOf 6 ch (be 1 n) ∧ ofCode shelfCauses n = some cause ∧ n < 256 := by
  cases cause <;> exact ⟨_, rfl, rfl, by decide⟩

theorem lineRun_callClose (cause : ShelfCause) (h : channelOk ch = true) :
    lineRun (shelfRun (.callClose ch cause)) = .callClose ch cause := by
  obtain ⟨n, hrun, hcode, hn⟩ := shelfRun_callClose ch cause
  rw [hrun]
  refine lineRun_lineRunOf (by decide) (channel_fits h) (by simp) ?_ h
  simp [lineCommand, field_be, hn, hcode]

theorem lineRun_linkAlive : lineRun (shelfRun .linkAlive) = .linkAlive :=
  lineRun_lineRunOf (by decide) (by decide) (by decide) rfl rfl

end Shelf

/-- R196, section 11.2: the run of a well-formed frame of the shelf is read back as that frame. -/
theorem lineRun_shelfRun {i : Instr} (hframe : shelfFrame i = true) (hwf : i.wellFormed = true) :
    lineRun (shelfRun i) = i := by
  unfold shelfFrame at hframe
  split at hframe
  case h_1 => exact lineRun_callOpen hwf
  case h_2 => exact lineRun_senderInfo hwf
  case h_3 => exact lineRun_pageStart _ _ hwf
  case h_4 => exact lineRun_pageData hwf
  case h_5 => exact lineRun_pageEnd _ hwf
  case h_6 => exact lineRun_callClose _ hwf
  case h_7 => exact lineRun_linkAlive
  case h_8 => cases hframe

/-! ### Runs of the office link (section 11.3) -/

theorem officeChecks_iff (run : List Byte) : officeChecks run = true ↔ 10 ≤ run.length
    ∧ run.length = 10 + field run 4 2 ∧ field run 4 2 ≤ 1088
    ∧ field run (run.length - 4) 4 = (crc32 (run.take (run.length - 4))).toNat := by
  simp only [officeChecks, Bool.and_eq_true, decide_eq_true_iff, and_assoc]

/-- R197: a run without its length or its CRC-32 is no good frame. -/
theorem officeRun_bad {run : List Byte} (h : ¬ officeChecks run = true) : officeRun run = .badOfficeFrame false :=
  if_neg h

/-- R118: a correct run for another destination is foreign. -/
theorem officeRun_foreign {run : List Byte} (h : officeChecks run = true) (hdest : field run 0 1 ≠ 0) :
    officeRun run = .foreignOfficeFrame := by
  rw [officeRun, if_pos h, if_neg hdest]

section OfficeRun

variable {dest src kind tag : Nat} {p : List Byte}

@[simp] theorem length_officeRunOf : (officeRunOf dest src kind tag p).length = 10 + p.length := by
  simp only [officeRunOf, List.length_append, length_be]
  omega

theorem field_officeRunOf_dest (h : dest < 256) : field (officeRunOf dest src kind tag p) 0 1 = dest := by
  simp [officeRunOf, field_be_append, h]

theorem field_officeRunOf_src (h : src < 256) : field (officeRunOf dest src kind tag p) 1 1 = src := by
  simp [officeRunOf, field_append_right, field_be_append, h]

theorem field_officeRunOf_kind (h : kind < 256) : field (officeRunOf dest src kind tag p) 2 1 = kind := by
  simp [officeRunOf, field_append_right, field_be_append, h]

theorem field_officeRunOf_tag (h : tag < 256) : field (officeRunOf dest src kind tag p) 3 1 = tag := by
  simp [officeRunOf, field_append_right, field_be_append, h]

theorem field_officeRunOf_length (h : p.length < 65536) :
    field (officeRunOf dest src kind tag p) 4 2 = p.length := by
  simp [officeRunOf, field_append_right, field_be_append, h]

theorem payload_officeRunOf : ((officeRunOf dest src kind tag p).drop 6).take
    ((officeRunOf dest src kind tag p).length - 10) = p := by
  have hdrop : (officeRunOf dest src kind tag p).drop 6 = p ++ be 4 (crc32 (be 1 dest ++ be 1 src ++ be 1 kind
      ++ be 1 tag ++ be 2 p.length ++ p)).toNat := by
    simp only [officeRunOf]
    rw [List.append_assoc, List.drop_left' (by simp)]
  rw [hdrop, length_officeRunOf, Nat.add_sub_cancel_left, List.take_left]

theorem officeChecks_officeRunOf (h : p.length ≤ 1088) : officeChecks (officeRunOf dest src kind tag p) = true := by
  have hfield := field_officeRunOf_length (dest := dest) (src := src) (kind := kind) (tag := tag) (p := p) (by omega)
  refine (officeChecks_iff _).2 ⟨by simp, by rw [length_officeRunOf, hfield], by rwa [hfield], ?_⟩
  have hlen : (officeRunOf dest src kind tag p).length - 4
      = (be 1 dest ++ be 1 src ++ be 1 kind ++ be 1 tag ++ be 2 p.length ++ p).length := by
    simp only [length_officeRunOf, List.length_append, length_be]
    omega
  rw [hlen, officeRunOf, List.take_left, field_append_be _ (BitVec.isLt _)]

theorem officeRun_officeRunOf (hsrc : src < 256) (hkind : kind < 256) (htag : tag < 256) (hlen : p.length ≤ 1088) :
    officeRun (officeRunOf 0 src kind tag p) = officeCommand src kind tag p := by
  rw [officeRun, if_pos (officeChecks_officeRunOf hlen), if_pos (field_officeRunOf_dest (by decide)),
    field_officeRunOf_src hsrc, field_officeRunOf_kind hkind, field_officeRunOf_tag htag, payload_officeRunOf]

end OfficeRun

/-! ### The frames of a point -/

theorem officeCommand_delivery {kind : Nat} (h16 : 16 ≤ kind) (h22 : kind ≤ 22) (src tag : Nat) (p : List Byte) :
    officeCommand src kind tag p = deliveryCommand kind src p := by
  rw [officeCommand, if_neg (by omega), if_pos ((within_iff _ _ _).2 ⟨h16, h22⟩)]

theorem officeRun_delivery {src kind : Nat} {p : List Byte} {i : Instr} (hsrc : pointOk src = true) (h16 : 16 ≤ kind)
    (h22 : kind ≤ 22) (hlen : p.length ≤ 1088) (hi : deliveryCommand kind src p = i) :
    officeRun (officeRunOf 0 src kind 0 p) = i := by
  obtain ⟨_, h30⟩ := (pointOk_iff src).1 hsrc
  rw [officeRun_officeRunOf (by omega) (by omega) (by decide) hlen, officeCommand_delivery h16 h22, hi]

section Point

variable {p : Nat}

theorem receipt_fits {r : Nat} (h : receiptOk r = true) : r < 4294967296 :=
  Nat.lt_succ_of_le ((within_iff _ _ _).1 h).2

theorem slot_fits {slot : Nat} (h : slotOk slot = true) : slot < 256 := Nat.lt_succ_of_le (of_decide_eq_true h)

theorem capacity_fits {cap : Nat} (h : capacityOk cap = true) : cap < 16777216 :=
  Nat.lt_succ_of_le ((within_iff _ _ _).1 h).2

theorem officeRun_pointUp (h : pointOk p = true) : officeRun (pointRun (.pointUp p)) = .pointUp p :=
  officeRun_delivery h (by decide) (by decide) (by simp) (if_pos h)

theorem officeRun_pointDown (h : pointOk p = true) : officeRun (pointRun (.pointDown p)) = .pointDown p :=
  officeRun_delivery h (by decide) (by decide) (by simp) (if_pos h)

theorem officeRun_accept {receipt : Nat} (h : (Instr.accept p receipt).wellFormed = true) :
    officeRun (pointRun (.accept p receipt)) = .accept p receipt := by
  obtain ⟨hp, hreceipt⟩ := (Bool.and_eq_true _ _).mp h
  refine officeRun_delivery hp (by decide) (by decide) (by simp) ?_
  simp [deliveryCommand, field_be, receipt_fits hreceipt, h]

theorem officeRun_decline {receipt retry : Nat} (h : (Instr.decline p receipt retry).wellFormed = true) :
    officeRun (pointRun (.decline p receipt retry)) = .decline p receipt retry := by
  obtain ⟨hhead, hretry⟩ := (Bool.and_eq_true _ _).mp h
  obtain ⟨hp, hreceipt⟩ := (Bool.and_eq_true _ _).mp hhead
  have hbyte : retry < 256 := Nat.lt_succ_of_le (of_decide_eq_true hretry)
  refine officeRun_delivery hp (by decide) (by decide) (by simp) ?_
  simp [deliveryCommand, field_be_append, field_append_right, field_be, receipt_fits hreceipt, hbyte, h]

theorem officeRun_intakePost {slot cap : Nat} (h : (Instr.intakePost p slot cap).wellFormed = true) :
    officeRun (pointRun (.intakePost p slot cap)) = .intakePost p slot cap := by
  obtain ⟨hhead, hcap⟩ := (Bool.and_eq_true _ _).mp h
  obtain ⟨hp, hslot⟩ := (Bool.and_eq_true _ _).mp hhead
  refine officeRun_delivery hp (by decide) (by decide) (by simp) ?_
  simp [deliveryCommand, field_be_append, field_append_right, field_be, slot_fits hslot, capacity_fits hcap, h]

theorem officeRun_pageAck {slot : Nat} (h : (Instr.pageAck p slot).wellFormed = true) :
    officeRun (pointRun (.pageAck p slot)) = .pageAck p slot := by
  obtain ⟨hp, hslot⟩ := (Bool.and_eq_true _ _).mp h
  refine officeRun_delivery hp (by decide) (by decide) (by simp) ?_
  simp [deliveryCommand, field_be, slot_fits hslot, h]

theorem officeRun_pageNak {slot : Nat} (h : (Instr.pageNak p slot).wellFormed = true) :
    officeRun (pointRun (.pageNak p slot)) = .pageNak p slot := by
  obtain ⟨hp, hslot⟩ := (Bool.and_eq_true _ _).mp h
  refine officeRun_delivery hp (by decide) (by decide) (by simp) ?_
  simp [deliveryCommand, field_be, slot_fits hslot, h]

theorem officeRun_linkAlive : officeRun (pointRun .officeLinkAlive) = .officeLinkAlive :=
  officeRun_officeRunOf (by decide) (by decide) (by decide) (by decide)

end Point

/-- R197, section 11.3: the run of a well-formed frame of a point is read back as that frame. -/
theorem officeRun_pointRun {i : Instr} (hframe : pointFrame i = true) (hwf : i.wellFormed = true) :
    officeRun (pointRun i) = i := by
  unfold pointFrame at hframe
  split at hframe
  case h_1 => exact officeRun_pointUp hwf
  case h_2 => exact officeRun_pointDown hwf
  case h_3 => exact officeRun_accept hwf
  case h_4 => exact officeRun_decline hwf
  case h_5 => exact officeRun_intakePost hwf
  case h_6 => exact officeRun_pageAck hwf
  case h_7 => exact officeRun_pageNak hwf
  case h_8 => exact officeRun_linkAlive
  case h_9 => cases hframe

/-- Settles O10: the frames of both links read back by the fields of their runs, a run by its length and its check
value, the encodings by the bytes of section 11.1, the check values as one register over the bits, and the frames sent
by the layouts of sections 11.2 and 11.3. -/
theorem runsReadBack : Obligations.RunsReadBack := by
  refine ⟨fun i => lineRun_shelfRun, fun i => officeRun_pointRun, fun run => ⟨fun h => ?_, fun h => ?_, ?_⟩,
    ⟨fun n v => ⟨length_be n v, fun k => getElem?_be v⟩, fun room x hlen => ?_, fun room => ⟨rfl, rfl⟩,
      fun t => ⟨rfl, rfl, rfl⟩, fun b => rfl, testBit_presence, ?_⟩,
    fun bytes => ⟨crc16_eq bytes, crc32_eq bytes, rfl⟩, fun ch body => ?_, fun dest body => ?_⟩
  · exact lineRun_bad fun hgood => by
      obtain ⟨hroom, hlen, hcheck⟩ := (lineChecks_iff run).1 hgood
      omega
  · exact officeRun_bad fun hgood => by
      obtain ⟨hroom, hlen, hmax, hcheck⟩ := (officeChecks_iff run).1 hgood
      omega
  · exact fun hroom hlen hmax hcheck hdest =>
      officeRun_foreign ((officeChecks_iff run).2 ⟨hroom, hlen, hmax, hcheck⟩) hdest
  · exact ⟨length_strBytes hlen, by rw [strBytes_eq]; rfl, fun k => getElem?_strBytes_char,
      fun k => getElem?_strBytes_pad, rfl, rfl⟩
  · decide
  · refine ⟨?_, ?_, ?_, ?_⟩ <;> (rintro x rfl; rfl)
  · refine ⟨?_, ?_, ?_, ?_, ?_, ?_, ?_, ?_, ?_⟩ <;> (intros; subst body; rfl)

end Sys2Proof.Machine
end

section
/-! SUPPORT. The queue of commands that wait: no operation of the model writes it. The laws of the state say so of each
operation by itself; these lemmas carry it through what takes another operation as its argument: a frame taken for a
channel or a point, and a request judged before it is carried out. -/

namespace Sys2Proof.Machine

/-- R193, log 12: a command held back by the reset input leaves the whole state as it is. -/
theorem pending_of_act {f : State → State} {s t : State} (h : act f s = .next t) (hf : (f s).pending = s.pending) :
    t.pending = s.pending := by
  unfold act at h
  split at h
  · cases h; rfl
  · cases h; exact hf

section
variable {f : State → State} (hf : ∀ a : State, (f a).pending = a.pending)
include hf

/-- R27 to R29: a frame of the line link, good or not. -/
theorem State.pending_lineFrame (s : State) (ok : Bool) (ch : Nat) : (s.lineFrame ok ch f).pending = s.pending := by
  unfold State.lineFrame
  split
  · rw [hf]; simp
  · simp

/-- R118, R119, R124: a delivery frame of a point, good or not. -/
theorem State.pending_deliveryFrame (s : State) (ok : Bool) (p : Nat) :
    (s.deliveryFrame ok p f).pending = s.pending := by
  unfold State.deliveryFrame
  dsimp only
  split
  · split
    · rw [hf]; simp
    · simp
  · simp

/-- R124: the point's context takes a frame, or counts it where the point is OFFLINE. -/
theorem State.pending_atReady (s : State) (p : Nat) : (s.atReady p f).pending = s.pending := by
  unfold State.atReady
  split
  · simp
  · exact hf s

/-- R176: a request, answered where it is judged or carried out. -/
theorem State.pending_request (s : State) (h : ReqHead) (k : ReqKind) : (s.request h k f).pending = s.pending := by
  unfold State.request State.answering State.taking
  split
  · simp
  · split
    · simp
    · split
      · simp
      · rw [hf]; simp

/-- R111: an action on a mailbox. -/
theorem State.pending_mailboxControl (s : State) (h : ReqHead) (m : Nat) :
    (s.mailboxControl h m f).pending = s.pending := by
  refine State.pending_request (fun a => ?_) s h _
  split
  · simp
  · split
    · simp
    · simp [hf]

end

/-- R23, R25, R113 to R116: a request on one document. -/
theorem State.pending_docRequest {f : State → Nat → Doc → State} (hf : ∀ a k d, (f a k d).pending = a.pending)
    (s : State) (h : ReqHead) (k : ReqKind) (receipt : Nat) : (s.docRequest h k receipt f).pending = s.pending := by
  refine State.pending_request (fun a => ?_) s h k
  split
  · simp
  · split
    · simp
    · exact hf _ _ _

/-- R52: an action on a channel. -/
theorem State.pending_channelControl (s : State) (h : ReqHead) (ch : Nat) (f : Channel → Channel) :
    (s.channelControl h ch f).pending = s.pending := by
  refine State.pending_request (fun a => ?_) s h _
  split <;> simp

/-- R124: a delivery frame of one of the five kinds that an OFFLINE point's context discards. -/
theorem State.pending_pointFrame {f : State → State} (hf : ∀ a : State, (f a).pending = a.pending) (s : State)
    (ok : Bool) (p : Nat) : (s.deliveryFrame ok p fun a => a.atReady p f).pending = s.pending :=
  State.pending_deliveryFrame (fun a => State.pending_atReady hf a p) s ok p

/-- R143 to R145: a timer of a lane. -/
theorem State.pending_laneExpiry (s : State) (i : Nat) (timer : Option Nat) (reason : SuspendReason) :
    (s.laneExpiry i timer reason).pending = s.pending := by
  unfold State.laneExpiry
  split <;> simp

end Sys2Proof.Machine
end

section
/-! PROOFS. The queue of commands: a step runs the command at its front on the rest of it, and no command writes it. -/

namespace Sys2Proof.Machine

theorem step_front {c : Instr} {rest : List Instr} {s : State} (h : s.pending = c :: rest) :
    step s = exec c { s with pending := rest } := by
  rw [step, h]

/-- Settles O1: on a queue with a front the step is exec of that front. -/
theorem frontCommandRuns : Obligations.FrontCommandRuns := fun _ _ _ => step_front

/-! ### The commands that are more than one act on the state -/

/-- R4, R5: a block write served at the memory port. -/
theorem pending_execWriteCompletion {s t : State} (h : execWriteCompletion s = .next t) : t.pending = s.pending := by
  unfold execWriteCompletion at h
  split at h
  · split at h
    · exact pending_of_act h (by simp)
    · cases h
  · exact pending_of_act h rfl

/-- R4, R6: a block read served at the memory port. -/
theorem pending_execReadCompletion {s t : State} {decay : List (Nat × Byte)}
    (h : execReadCompletion decay s = .next t) : t.pending = s.pending := by
  unfold execReadCompletion at h
  split at h
  · split at h
    · exact pending_of_act h (by simp)
    · cases h
  · exact pending_of_act h rfl

/-- R193, log 27: the reset input asserted keeps the queue. -/
theorem pending_execPinResetAssert {s t : State} (h : execPinResetAssert s = .next t) : t.pending = s.pending := by
  unfold execPinResetAssert at h
  split at h
  · cases h; rfl
  · cases h; rfl

/-- R193, log 27: the reset that the release of the input makes keeps the queue. -/
theorem pending_execPinResetRelease {s t : State} (h : execPinResetRelease s = .next t) : t.pending = s.pending := by
  unfold execPinResetRelease at h
  split at h
  · cases h; rfl
  · cases h; rfl

/-! ### Every command -/

/-- The queue of commands is kept by every command that answers a next state: the frames of both links, the requests,
the resets, the operations at the memory port, and the other events. -/
theorem exec_pending {c : Instr} {s t : State} (h : exec c s = .next t) : t.pending = s.pending := by
  cases c <;> dsimp only [exec] at h
  case powerOnReset => cases h; rfl
  case pinResetAssert => exact pending_execPinResetAssert h
  case pinResetRelease => exact pending_execPinResetRelease h
  case writeCompletion => exact pending_execWriteCompletion h
  case readCompletion decay => exact pending_execReadCompletion h
  case callOpen ch part =>
    refine pending_of_act h ?_
    split
    · exact State.pending_lineFrame (fun a => by simp) s _ ch
    · simp
  case senderInfo | pageStart | pageData | pageEnd | callClose =>
    exact pending_of_act h (State.pending_lineFrame (fun a => by simp) s _ _)
  case pointUp | pointDown => exact pending_of_act h (State.pending_deliveryFrame (fun a => by simp) s _ _)
  case accept | decline | intakePost | pageAck | pageNak =>
    refine pending_of_act h (State.pending_pointFrame (fun a => ?_) s _ _)
    repeat' split
    all_goals simp
  case acceptTimerExpiry | ackTimerExpiry | intakeWaitExpiry =>
    exact pending_of_act h (State.pending_laneExpiry s _ _ _)
  case channelRead | channelEnable | channelDisable | channelClearErrors =>
    exact pending_of_act h (State.pending_channelControl s _ _ _)
  case mailboxOpen | mailboxClose | mailboxResume | mailboxPause =>
    refine pending_of_act h (State.pending_mailboxControl (fun a => ?_) s _ _)
    repeat' split
    all_goals simp
  case docRead | docHold | docRelease | docPurge =>
    refine pending_of_act h (State.pending_docRequest (fun a slot d => ?_) s _ _ _)
    repeat' split
    all_goals simp
  case readStatus | readFlags | clearFlags | setParameters | readParameters | setClock | setReceiptBase | ackRestart
  | restart | intakeOpen | intakeDrain | intakeAbort | deliveryRun | deliveryStop | stageClear | stagePut | stageRemove
  | stageRevert | stageRead | tableRead | commit | mailboxControlRead | mailboxRead | pointRead | docList | docPages
  | docReroute | journalRead | journalRelease =>
    refine pending_of_act h (State.pending_request (fun a => ?_) s _ _)
    repeat' split
    all_goals simp [State.abortAll]
  case unknownRequest r kind =>
    refine pending_of_act h ?_
    unfold State.answering
    dsimp only
    split <;> simp
  case channelIntakeAbort | allIdleReport =>
    refine pending_of_act h ?_
    dsimp only
    repeat' split
    all_goals simp
  case linkAlive | badLineFrame | officeLinkAlive | foreignOfficeFrame | timeOfDayLimit =>
    exact pending_of_act h (by simp)
  case lineSilenceExpiry | lineFrameSent | channelLinkLoss | channelSilenceExpiry | releaseTimerExpiry
  | silenceTimeoutInstall | badOfficeFrame | officeSilenceExpiry
  | officeKeepaliveSend | frameSentReport | frameDiscardedReport | officeLinkStateReport | retentionExpiry
  | notBeforeReached | arbiterRound | withdrawalRequest | pressureReleaseRequest | pressureParameterChange
  | lowMarkInstall | countClear | noticeOccurrence | commitCompletion | mailboxSwapEffects | pointSwapEffects =>
    refine pending_of_act h ?_
    repeat' split
    all_goals simp

/-- Settles O4: exec_pending, the frame of every command on the queue. -/
theorem commandsLeaveTheQueueAlone : Obligations.CommandsLeaveTheQueueAlone := fun _ _ _ => exec_pending

end Sys2Proof.Machine
end
